-- ==== Sys2Proof/Word.lean ====
section
/-! DEFINITION. The words, indices and fixed-size tables of the T416 (00_scope.md, "Conventions used in all chapters").

Run counts, wire bytes, channel sets and the table epoch are words the manual numbers bit by bit or counts modulo a
power of two, so they are bit vectors. Channel, slot, gate and key numbers are indices, so they are `Fin`. -/

namespace Sys2Proof

/-- A byte on the host link, a sample of a sensor input, or a count of 0 to 255 tenths or seconds. -/
abbrev Byte := BitVec 8

/-- The run count and every stamp taken from it: 32 bits of tenths of a second (R5). -/
abbrev RunCount := BitVec 32

/-- A channel, CH0 to CH15. -/
abbrev Chan := Fin 16

/-- A level, 0 to 15; level 0 is off. -/
abbrev Level := Fin 16

/-- A slot's generation, 0 to 15; after 15 comes 0. -/
abbrev Gen := Fin 16

/-- A slot of the Program Table: index `i` is handle P(i+1). -/
abbrev ProgIdx := Fin 96

/-- A slot of the Override Table: index `i` is handle O(i+1). -/
abbrev OvrIdx := Fin 16

/-- A sensor gate, G0 to G3. -/
abbrev GateIdx := Fin 4

/-- A key: index `i` is K(i+1). -/
abbrev KeyIdx := Fin 8

/-- A set of channels, CHn at bit n (R180). -/
abbrev ChanSet := BitVec 16

/-- An interlock group (R81). -/
inductive Group where
  | A | B | C | D
  deriving DecidableEq, Repr

/-- The place of a group in a table of four. -/
def Group.idx : Group → Fin 4
  | .A => 0 | .B => 1 | .C => 2 | .D => 3

/-- The group at a place in a table of four. -/
def Group.ofIdx (i : Fin 4) : Group :=
  if i = 0 then .A else if i = 1 then .B else if i = 2 then .C else .D

/-- The four groups in order. -/
def Group.all : List Group := [.A, .B, .C, .D]

/-- The table of `n` entries whose entry at `i` is `f i`. -/
def tab {n : Nat} {α : Type} (f : Fin n → α) : Vector α n :=
  ⟨⟨List.ofFn f⟩, by simp⟩

/-- The table of `n` equal entries. -/
def tabConst (n : Nat) {α : Type} (a : α) : Vector α n := tab fun _ => a

end Sys2Proof
end

