-- ==== Sys2Proof/Syntax.lean ====
section
/-! DEFINITION. The commands of the T416: one constructor for each row of spec/opcode_table.json, in the table's order.

A host command (READ TIME to READ ATTENTION) carries no parameter: its parameters came in the frame that `command`
delivered and stand in the command slot (R171), and its row is the taking of that command by its owner at its completion
(R172); SET_TIME alone carries an operand, the order in which it meets a step of the calendar (R11). An event that one block
hands another (MINUTE_BOUNDARY, RE_RESOLUTION_REQUEST, HAND_OFF, ...) brings what stands in the state's mail, and where
several sources hand it on, which source; where either of two that wait may be taken first, at which place it waits. A row that comes from a pin, a supply, a sensor, a key or the link carries what is
seen there, and the expiry of one of several timers carries which one. An operand with a default is at it in the plain case: the
whole first byte of a transaction, a whole converter round, no step of the calendar due with a SET_TIME, K1
among the keys, and the oldest of those that wait. -/

namespace Sys2Proof

/-- The timers that have a long-past mark (R99). -/
inductive LongPastTimer where
  | minOn (ch : Chan)
  | minOff (ch : Chan)
  | gap (g : Group)
  | stagger
  deriving DecidableEq, Repr

/-- What of a transaction's first byte a row stands for. The status byte reports the part as it stands when its first bit
begins (R168), and the link acts on the host's byte when its eighth bit has been clocked (R167); what is taken between the two
lies between `begins` and `taken`. -/
inductive FirstByte where
  /-- the whole first byte, with nothing taken between its first bit and its eighth -/
  | whole
  /-- CS# has fallen and the status byte begins -/
  | begins
  /-- the eighth bit has been clocked in the transaction that has begun -/
  | taken
  deriving DecidableEq, Repr

/-- The two ways a framing error arises (R167, R171): a first byte that names no transaction, with how much of
it the row stands for and how many further bytes the host clocks, or a rise of CS# before a command frame's check byte is complete. -/
inductive FramingCause where
  | firstByte (b : Byte) (part : FirstByte) (clocked : Nat)
  | riseMidFrame
  deriving DecidableEq, Repr

/-- The commands. -/
inductive Instr where
  /-- CALENDAR_ADVANCE (R1, R5): one step of the time base. -/
  | calendarAdvance
  /-- MINUTE_BOUNDARY (R27): the record store takes the oldest minute boundary handed on. -/
  | minuteBoundary
  /-- YEAR_ROLLOVER (R9): the step past 2099-12-31 23:59:59.9. -/
  | yearRollover
  /-- READ_TIME (R12). -/
  | readTime
  /-- SET_TIME (R10), with whether a step of the calendar's advance that is due together with it is taken after it (R11). -/
  | setTime (stepDue : Bool := false)
  /-- CREATE_PROGRAM (R18). -/
  | createProgram
  /-- EDIT_PROGRAM (R32). -/
  | editProgram
  /-- READ_PROGRAM (R194). -/
  | readProgram
  /-- ENABLE_PROGRAM (R30). -/
  | enableProgram
  /-- DISABLE_PROGRAM (R31). -/
  | disableProgram
  /-- DELETE_PROGRAM (R33). -/
  | deleteProgram
  /-- LIST_PROGRAMS (R39). -/
  | listPrograms
  /-- RE_RESOLUTION_REQUEST (R89): the resolver takes a request handed on, the one at a place among those that wait, 0 the
  oldest: of two that reach it together either may be taken first (R93). -/
  | reResolutionRequest (place : Nat := 0)
  /-- VERDICT_REPORT (R52): the record store takes the oldest verdict report handed on. -/
  | verdictReport
  /-- GATE_CHANGE_REPORT (R29): the record store takes the oldest gate report handed on. -/
  | gateChangeReport
  /-- CREATE_OVERRIDE (R198). -/
  | createOverride
  /-- CREATION_REQUEST (R48): the record store takes a key's oldest request, a creation. -/
  | creationRequest (k : KeyIdx := 0)
  /-- EXTEND_OVERRIDE (R54). -/
  | extendOverride
  /-- CANCEL_OVERRIDE (R55). -/
  | cancelOverride
  /-- RELEASE_CHANNELS (R56). -/
  | releaseChannels
  /-- RELEASE (R56): the record store takes a key's oldest request, a release. -/
  | release (k : KeyIdx := 0)
  /-- OVERRIDE_EXPIRY (R53) of the record in a slot. -/
  | overrideExpiry (slot : OvrIdx)
  /-- READ_OVERRIDES (R202). -/
  | readOverrides
  /-- SET_RESUME_POLICY (R215). -/
  | setResumePolicy
  /-- CONVERTER_ROUND (R63): the four samples of a round, AIN0 to AIN3, and how many of its conversions complete: 4, or fewer
  where a fall of the supply interrupts it. -/
  | converterRound (ain0 ain1 ain2 ain3 : Byte) (completed : Fin 5 := 4)
  /-- CONFIGURE_GATE (R69). -/
  | configureGate
  /-- SET_GATE_MODE (R70). -/
  | setGateMode
  /-- READ_GATES (R72). -/
  | readGates
  /-- CONFIGURE_CHANNEL (R77). -/
  | configureChannel
  /-- SET_CHANNEL_TIMING (R79). -/
  | setChannelTiming
  /-- SET_FALLBACK (R80). -/
  | setFallback
  /-- CONFIGURE_GROUP (R81). -/
  | configureGroup
  /-- READ_CHANNEL (R95). -/
  | readChannel
  /-- EXPLAIN_CHANNEL (R94). -/
  | explainChannel
  /-- APPLIED_LEVEL_REPORT (R88): the resolver takes an applied-level report handed on, the one at a place among those that
  wait, 0 the oldest (R93). -/
  | appliedLevelReport (place : Nat := 0)
  /-- HAND_OFF (R100): the sequencer takes the oldest hand-off. -/
  | handOff
  /-- STAGGER_EXPIRY (R109). -/
  | staggerExpiry
  /-- MIN_ON_EXPIRY (R111) of a channel. -/
  | minOnExpiry (ch : Chan)
  /-- MIN_OFF_EXPIRY (R104) of a channel. -/
  | minOffExpiry (ch : Chan)
  /-- CHANGEOVER_GAP_EXPIRY (R104) of a group. -/
  | changeoverGapExpiry (g : Group)
  /-- RAMP_TIMER_EXPIRY (R113, R114) of a channel. -/
  | rampTimerExpiry (ch : Chan)
  /-- LONG_PAST_MARK (R99) of a timer. -/
  | longPastMark (t : LongPastTimer)
  /-- ALL_OFF_PIN_CHANGE (R118): the level that has held for 2 ms. -/
  | allOffPinChange (asserted : Bool)
  /-- FORCE_ALL_OFF (R210). -/
  | forceAllOff
  /-- RELEASE_ALL_OFF (R210). -/
  | releaseAllOff
  /-- SET_STAGGER (R110). -/
  | setStagger
  /-- READ_QUEUE (R122). -/
  | readQueue
  /-- OVERCURRENT_REPORT (R130) of a channel. -/
  | overcurrentReport (ch : Chan)
  /-- RETRY_TIMER_EXPIRY (R132) of a channel. -/
  | retryTimerExpiry (ch : Chan)
  /-- CLEAN_RUN_EXPIRY (R131) of a channel. -/
  | cleanRunExpiry (ch : Chan)
  /-- CLEAR_FAULT (R134). -/
  | clearFault
  /-- KEY_SAMPLE (R142): bit k set where K(k+1) reads pressed. -/
  | keySample (pressed : BitVec 8)
  /-- HOLD_TIMER_EXPIRY (R146) of a key. -/
  | holdTimerExpiry (k : KeyIdx)
  /-- BIND_KEY (R147). -/
  | bindKey
  /-- READ_KEY_BINDING (R152). -/
  | readKeyBinding
  /-- SET_PANEL_LOCK (R150). -/
  | setPanelLock
  /-- VDD_FALL (R155): VDD's new level in millivolts, below 4.2 V. -/
  | vddFall (millivolts : Nat)
  /-- RST_ASSERT (R155): RST# held asserted for 2 µs. -/
  | rstAssert
  /-- RST_RELEASE (R155). -/
  | rstRelease
  /-- VDD_RISE (R155): VDD's new level in millivolts, at or above 4.4 V. -/
  | vddRise (millivolts : Nat)
  /-- SUPPLY_QUALIFIED (R155): the qualification measurement reached 100 ms. -/
  | supplyQualified
  /-- BACKUP_SUPPLY_FALL (R156): VBAT's new level in millivolts, below 2.0 V. -/
  | backupSupplyFall (vbat : Nat)
  /-- BACKUP_DOMAIN_LOSS (R156): both supplies' new levels in millivolts, below 1.8 V. -/
  | backupDomainLoss (vdd vbat : Nat)
  /-- BACKUP_DOMAIN_POWER_UP (R156): both supplies' new levels in millivolts, one of them at or above 1.8 V. -/
  | backupDomainPowerUp (vdd vbat : Nat)
  /-- STARTING_END (R162), with whether the ALL-OFF# pin is asserted as sampled in that step (R124). -/
  | startingEnd (allOffPin : Bool)
  /-- RESTART (R160). -/
  | restart
  /-- FACTORY_CLEAR (R160). -/
  | factoryClear
  /-- STATUS (R167): a transaction with first byte 0x00, and how many further bytes the host clocks. -/
  | status (clocked : Nat) (part : FirstByte := .whole)
  /-- COMMAND (R171): a transaction with first byte 0xC3, and the bytes the host sends after it. -/
  | command (bytes : List Byte) (part : FirstByte := .whole)
  /-- FETCH (R173): a transaction with first byte 0x3C, and how many further bytes are clocked before CS# rises. -/
  | fetch (clocked : Nat) (part : FirstByte := .whole)
  /-- FRAMING (R169). -/
  | framing (cause : FramingCause)
  /-- TRANSACTION_END (R169): the rise of CS#. -/
  | transactionEnd
  /-- READ_ATTENTION (R179). -/
  | readAttention
  /-- SET_ATTENTION_MASK (R178). -/
  | setAttentionMask
  /-- VDD_BELOW_QUALIFICATION_THRESHOLD (R155): VDD's new level in millivolts, below 4.4 V. -/
  | vddBelowQualificationThreshold (millivolts : Nat)
  deriving DecidableEq, Repr

end Sys2Proof
end

