-- ==== Sys2Proof/Machine/Records.lean ====
section
/-! DEFINITION. The records the T416's blocks hold, as plain data: one type per record table of the chapters. -/

namespace Sys2Proof.Machine

/-! ### Calendar unit (01_time_bases.md) -/

/-- The calendar's contents (R1). -/
structure Calendar where
  year : Nat
  month : Nat
  day : Nat
  hour : Nat
  minute : Nat
  second : Nat
  tenth : Nat
  deriving DecidableEq, Repr, Inhabited

/-- A calendar stamp: a date and a minute of day (R4). -/
structure Stamp where
  year : Nat
  month : Nat
  day : Nat
  minute : Nat
  deriving DecidableEq, Repr, Inhabited

/-- What a minute boundary carries to the record store: the new present calendar time and the clock validity after the
step (R8). -/
structure Boundary where
  time : Stamp
  valid : Bool
  deriving DecidableEq, Repr, Inhabited

/-! ### Program Table (02_the_program_table.md) -/

/-- The sense of a condition (R20). -/
inductive Sense where
  | low | high
  deriving DecidableEq, Repr, Inhabited

/-- A condition on a gate (R20). -/
structure Condition where
  gate : GateIdx
  sense : Sense
  deriving DecidableEq, Repr, Inhabited

/-- A program's kind with its timing fields (R21 to R23). In a day set bit 0 is Monday. -/
inductive Timing where
  | daily (days : BitVec 7) (on off : Nat)
  | dated (start stop : Stamp)
  | cycle (anchor : Stamp) (period onLength : Nat)
  deriving DecidableEq, Repr, Inhabited

/-- A program's definition: what CREATE PROGRAM and EDIT PROGRAM carry (R24). -/
structure ProgDef where
  timing : Timing
  priority : Fin 8
  level : Level
  targets : ChanSet
  condition : Option Condition
  deriving DecidableEq, Repr, Inhabited

/-- A program's state. ACTIVE carries the activation stamp, which a record has exactly while it is ACTIVE (R26).
DESIGN CHOICE, notes/assumptions/21.md. -/
inductive ProgState where
  | disabled | untimed | waiting | suppressed
  | active (since : RunCount)
  deriving DecidableEq, Repr, Inhabited

/-- A live program record. -/
structure ProgRec where
  defn : ProgDef
  state : ProgState
  deriving DecidableEq, Repr, Inhabited

/-- The last retirement reason of a program slot (R15). -/
inductive ProgReason where
  | none | deleted | ended
  deriving DecidableEq, Repr, Inhabited

/-- A slot of the Program Table (R15); `live = none` is a FREE slot. -/
structure ProgSlot where
  live : Option ProgRec
  gen : Gen
  reason : ProgReason
  deriving DecidableEq, Repr, Inhabited

/-! ### Resolution (05_resolution_and_interlock_groups.md) -/

/-- A governing source (R82). -/
inductive Source where
  | fallback
  | program (slot : ProgIdx) (gen : Gen)
  | override (slot : OvrIdx) (gen : Gen)
  deriving DecidableEq, Repr, Inhabited

/-- A program-only verdict: a source and its level (R85). -/
structure Verdict where
  source : Source
  level : Level
  deriving DecidableEq, Repr, Inhabited

/-- A rank: F for the fallback, 0 to 7 for a program, 8 for an override (R83). -/
inductive Rank where
  | fallback
  | program (priority : Fin 8)
  | override
  deriving DecidableEq, Repr, Inhabited

/-- A channel's resolution result (R82). -/
structure Resolution where
  source : Source
  rank : Rank
  level : Level
  verdict : Verdict
  target : Level
  inhibited : Bool
  deriving DecidableEq, Repr, Inhabited

/-! ### Override Table (03_overrides.md) -/

/-- Where an override came from. -/
inductive Origin where
  | host
  | key (k : KeyIdx)
  deriving DecidableEq, Repr, Inhabited

/-- An override's kind with the fields of that kind: a TIMED record's timer start and length in minutes, an UNTIL-NEXT
record's baselines, one for each channel of its set in ascending order. -/
inductive OvrKind where
  | timed (start : RunCount) (minutes : Nat)
  | untilNext (baselines : List (Chan × Verdict))
  | latched
  deriving DecidableEq, Repr, Inhabited

/-- A live override record. -/
structure OvrRec where
  origin : Origin
  level : Level
  channels : ChanSet
  kind : OvrKind
  createdAt : RunCount
  deriving DecidableEq, Repr, Inhabited

/-- The last retirement reason of an override slot (R44). -/
inductive OvrReason where
  | none | expired | programChanged | cancelled | superseded | restart
  deriving DecidableEq, Repr, Inhabited

/-- A slot of the Override Table (R44); `live = none` is a FREE slot. -/
structure OvrSlot where
  live : Option OvrRec
  gen : Gen
  reason : OvrReason
  deriving DecidableEq, Repr, Inhabited

/-- The duration a creation request carries: the kind, and for TIMED the minutes (R47). -/
inductive Duration where
  | timed (minutes : Nat)
  | untilNext
  | latched
  deriving DecidableEq, Repr, Inhabited

/-- A creation request (R47). -/
structure Creation where
  origin : Origin
  level : Level
  channels : ChanSet
  duration : Duration
  deriving DecidableEq, Repr, Inhabited

/-- The resume policy (R61). -/
inductive ResumePolicy where
  | keep | drop
  deriving DecidableEq, Repr, Inhabited

/-- What the key panel hands the record store (R148, R149). -/
inductive KeyRequest where
  | create (c : Creation)
  | release (channels : ChanSet)
  deriving DecidableEq, Repr, Inhabited

/-! ### Gate unit (04_sensor_gates.md) -/

/-- A gate's configuration, which is retained (R64). -/
structure GateConfig where
  enabled : Bool
  low : Byte
  high : Byte
  debounce : Fin 16
  deriving DecidableEq, Repr, Inhabited

/-- A gate's mode. -/
inductive GateMode where
  | auto | forcedLow | forcedHigh
  deriving DecidableEq, Repr, Inhabited

/-- A gate's state. -/
inductive GateState where
  | disabled | unknown | low | high
  deriving DecidableEq, Repr, Inhabited

/-- A gate's run direction. -/
inductive Direction where
  | none | towardLow | towardHigh
  deriving DecidableEq, Repr, Inhabited

/-- A gate's working state (R64). -/
structure GateWork where
  mode : GateMode
  state : GateState
  counter : Nat
  direction : Direction
  sample : Byte
  sampleValid : Bool
  deriving DecidableEq, Repr, Inhabited

/-! ### Channel records (05_resolution_and_interlock_groups.md) -/

/-- The kind of load a channel drives. -/
inductive ChanKind where
  | switch | dimmed
  deriving DecidableEq, Repr, Inhabited

/-- A channel's queue class. -/
inductive QueueClass where
  | normal | first
  deriving DecidableEq, Repr, Inhabited

/-- A channel record (R76). Dwells are in seconds, the ramp step in tenths per level. -/
structure ChanRec where
  kind : ChanKind
  group : Option Group
  queueClass : QueueClass
  fallback : Level
  minOn : Byte
  minOff : Byte
  ramp : Fin 16
  retry : Fin 4
  deriving DecidableEq, Repr, Inhabited

/-! ### Switching sequencer (06_the_switching_sequencer_and_the_switching_queue.md) -/

/-- Why a channel is in HOLD. -/
inductive HoldReason where
  | allOff | dwell | group
  deriving DecidableEq, Repr, Inhabited

/-- A channel's switching state; HOLD carries its reason, present exactly while the state is HOLD (R98). -/
inductive SwState where
  | off
  | hold (reason : HoldReason)
  | queued | on | ending | fading | faulted | locked
  deriving DecidableEq, Repr, Inhabited

/-- A channel's switching record (R98). `minOnPast` and `minOffPast` are the long-past marks of R99. -/
structure Switching where
  state : SwState
  target : Level
  applied : Level
  admStamp : RunCount
  minOnPast : Bool
  offStamp : RunCount
  minOffPast : Bool
  rampStamp : RunCount
  ramping : Bool
  deriving DecidableEq, Repr, Inhabited

/-- A group's changeover stamp with its long-past mark (R105). -/
structure GapStamp where
  stamp : RunCount
  past : Bool
  deriving DecidableEq, Repr, Inhabited

/-- An entry of the Switching Queue (R106). -/
structure QueueEntry where
  chan : Chan
  queueClass : QueueClass
  level : Level
  deriving DecidableEq, Repr, Inhabited

/-! ### Output stage (07_output_stage_and_load_faults.md) -/

/-- A channel's fault record but for its lock, which is retained (R128). The retry timer runs exactly while the channel
is FAULTED, from the fault stamp, so it has no field of its own. The clean-run timer is measured from the admission
stamp. The filter time is in microseconds of driven overcurrent, 0 to 2000. -/
structure FaultRec where
  filterTime : Nat
  count : Nat
  stamp : Option RunCount
  cleanRunning : Bool
  deriving DecidableEq, Repr, Inhabited

/-! ### Key panel (08_the_key_panel.md) -/

/-- A key's state; PRESSED carries the hold timer's start stamp, since the hold timer runs exactly while the key is
PRESSED (R143). -/
inductive KeyState where
  | idle
  | pressed (since : RunCount)
  | long
  deriving DecidableEq, Repr, Inhabited

/-- A key record (R143). -/
structure KeyRec where
  down : Bool
  count : Nat
  state : KeyState
  deriving DecidableEq, Repr, Inhabited

/-- The actions of a binding other than NONE (R147). -/
inductive KeyAction where
  | toggle | on | off | release
  deriving DecidableEq, Repr, Inhabited

/-- A binding whose action is not NONE; the action NONE, with every other field absent, is `none`. -/
structure Binding where
  action : KeyAction
  channels : ChanSet
  level : Level
  duration : Duration
  deriving DecidableEq, Repr, Inhabited

/-! ### Retained store (09_supply_retention_and_starts.md) -/

/-- The retained store, row by row as R159 lists it. -/
structure Retained where
  clockValid : Bool
  programs : Vector ProgSlot 96
  overrides : Vector OvrSlot 16
  epoch : BitVec 16
  resume : ResumePolicy
  gates : Vector GateConfig 4
  channels : Vector ChanRec 16
  gaps : Vector Byte 4
  stagger : Byte
  hostLatch : Bool
  locks : Vector Bool 16
  bindings : Vector (Option Binding) 8
  panelLocked : Bool
  mask : BitVec 10
  deriving DecidableEq, Repr, Inhabited

/-- The retained check value, named by the store it was computed over. The manual gives no formula for it (R159); two
check values computed over one store are equal, and whether those of two different stores are is free
(`Config.checkCollides`). -/
structure CheckValue where
  store : Retained
  deriving DecidableEq, Repr, Inhabited

/-! ### Supply supervisor (09_supply_retention_and_starts.md) -/

/-- The supervisor's states (R154). -/
inductive SupState where
  | off | retention | starting | running
  deriving DecidableEq, Repr, Inhabited

/-- The supervisor: its state, the supply levels in millivolts and the RST# level as last taken, whether the
qualification measurement runs, how many steps of the time base STARTING has lasted, and the two marks of the backup
domain. -/
structure Supervisor where
  state : SupState
  vdd : Nat
  vbat : Nat
  rstAsserted : Bool
  qualifying : Bool
  startingFor : Nat
  backupLost : Bool
  coldRequest : Bool
  deriving DecidableEq, Repr, Inhabited

/-! ### Host link and attention unit (10_the_host_link_and_attention.md) -/

/-- The result codes (R176). -/
inductive ResultCode where
  | ok | badCheck | badLength | unknownCommand | badParameter | noSuchRecord | stale | tableFull | past | notPermitted
  | epochMoved | notYet | noResponse
  deriving DecidableEq, Repr, Inhabited

/-- A command in the command slot: its code and its parameter bytes. -/
structure CommandSlot where
  code : Byte
  params : List Byte
  deriving DecidableEq, Repr, Inhabited

/-- A response: the code echo, the result and the payload. -/
structure Response where
  echo : Byte
  result : ResultCode
  payload : List Byte
  deriving DecidableEq, Repr, Inhabited

/-- The link state. The command slot is filled exactly in EXECUTING and the response slot exactly in READY (R171), so
each is carried by its state; RECEIVING carries the part of the frame taken so far.
DESIGN CHOICE, notes/assumptions/21.md. -/
inductive LinkState where
  | idle
  | receiving (frame : List Byte)
  | executing (slot : CommandSlot)
  | ready (slot : Response)
  deriving DecidableEq, Repr, Inhabited

/-- The transaction in progress: whether its status byte showed LINK ERROR, whether its first byte has been taken (R167),
whether OVERRUN or FRAMING was flagged after that byte began (R169), and whether it is a FETCH that shifted out the held
response to the end of its check (R173). -/
structure Transaction where
  sawError : Bool
  named : Bool
  flagged : Bool
  collected : Bool
  deriving DecidableEq, Repr, Inhabited

/-- The host link. `miso` is what the part shifted out in the latest transaction, first byte first. -/
structure Link where
  state : LinkState
  stickyError : Bool
  transaction : Option Transaction
  miso : List Byte
  deriving DecidableEq, Repr, Inhabited

/-- The pending marks of the attention unit (R177). -/
structure Pending where
  channel : BitVec 16
  fault : BitVec 16
  program : BitVec 96
  override : BitVec 16
  gate : BitVec 4
  clock : Bool
  start : Bool
  allOff : Bool
  response : Bool
  overrun : Bool
  framing : Bool
  deriving DecidableEq, Repr, Inhabited

/-- What the blocks have handed one another and the receiver has not yet taken, each list oldest first (R6).
DEDUCED, notes/assumptions/6.md. -/
structure Mail where
  /-- minute boundaries, calendar unit to record store (R8) -/
  boundaries : List Boundary
  /-- gate change reports, gate unit to record store (R67) -/
  gateReports : List (GateIdx × GateState)
  /-- creation and release requests of each key, key panel to record store (R148, R149, R151) -/
  keyRequests : Vector (List KeyRequest) 8
  /-- re-resolution requests, record store to resolver (R34, R49) -/
  requests : List ChanSet
  /-- verdict reports, resolver to record store (R91) -/
  verdictReports : List (List (Chan × Verdict))
  /-- hand-offs, resolver to sequencer (R90) -/
  handOffs : List (List (Chan × Level))
  /-- applied-level reports, sequencer to resolver (R115) -/
  levelReports : List ChanSet
  deriving DecidableEq, Repr, Inhabited

end Sys2Proof.Machine
end

