-- ==== Sys2Proof/Config.lean ====
section
/-! DEFINITION. The numbers the manual fixes, and the free values it leaves open.

The free values are opaque constants without a body: nothing in Lean can compute one or prove a value of one. -/

namespace Sys2Proof.Config

open Sys2Proof.Machine

/-! ### Free values -/

/-- Whether the retained check value computed over `held` equals the one computed over a different store `now`. The
manual gives the check no formula (R159), so this is free; on equal stores the check always agrees.
DESIGN CHOICE, safe, notes/assumptions/3.md. -/
opaque checkCollides (held now : Retained) : Bool

/-- What the retained store holds once the backup domain has lost power: "no meaningful content" (R156).
DESIGN CHOICE, safe, notes/assumptions/4.md. -/
opaque lostStore : Nat → Retained

/-- What the retained check value holds once the backup domain has lost power (R156).
DESIGN CHOICE, safe, notes/assumptions/4.md. -/
opaque lostCheck : Nat → CheckValue

/-- What the calendar holds once the backup domain has lost power (R156).
DESIGN CHOICE, safe, notes/assumptions/4.md. -/
opaque lostCalendar : Nat → Calendar

/-- What the run count holds once the backup domain has lost power (R156).
DESIGN CHOICE, safe, notes/assumptions/4.md. -/
opaque lostRunCount : Nat → RunCount

/-! ### Fixed numbers -/

/-- VDD below this many millivolts is a fall of the main supply (R155). -/
def vddFallLevel : Nat := 4200

/-- VDD at or above this many millivolts is measured for qualification (R155). -/
def vddRiseLevel : Nat := 4400

/-- The backup domain's supply below this many millivolts in RETENTION sets the backup-lost marker (R156). -/
def backupLostLevel : Nat := 2000

/-- Both supplies below this many millivolts take the backup domain's power (R156). -/
def domainLossLevel : Nat := 1800

/-- STARTING lasts at least this many steps of the time base: 200 ms (R161). -/
def startingSteps : Nat := 2

/-- The retry delay of a FAULTED channel, 5.0 s in tenths (R128). -/
def retryDelay : Nat := 50

/-- The clean-run time, 60.0 s in tenths (R128). -/
def cleanRun : Nat := 600

/-- The hold time of a key, 2.0 s in tenths (R143). -/
def holdTime : Nat := 20

/-- The greatest length of a dwell timer in tenths (R99). -/
def longestDwell : Nat := 2550

/-- The greatest length of a changeover gap or a stagger interval in tenths (R99). -/
def longestGap : Nat := 255

/-- The stagger interval's cold value in tenths (R125). -/
def coldStagger : Byte := 5

/-- The longest window of a DATED record in minutes (R22). -/
def longestDated : Nat := 527040

/-- The greatest length byte of a command frame (R170). -/
def maxParams : Nat := 40

/-- The greatest payload of a response frame (R170). -/
def maxPayload : Nat := 60

end Sys2Proof.Config
end

