-- ==== Sys2Proof/Machine/State.lean ====
section
/-! DEFINITION. The machine's state, the reasons a step can stop, and the state after reset.

Every block owns one part of the state. The retained store is a record of its own (R159), so that what a start keeps
and what it replaces can be read off. -/

namespace Sys2Proof.Machine

/-- The state of the T416. -/
structure State where
  /-- the calendar (R1) -/
  cal : Calendar
  /-- the run count (R5) -/
  runCount : RunCount
  /-- a SET TIME taken first has stood in for the calendar's step that is due (R11) -/
  stepReplaced : Bool
  /-- the retained store (R159): clock validity, both tables, epoch, configuration, locks, bindings, mask -/
  ret : Retained
  /-- the retained check value (R159) -/
  check : CheckValue
  /-- the gates' working state (R64) -/
  gates : Vector GateWork 4
  /-- the resolution results (R82) -/
  results : Vector Resolution 16
  /-- the groups' holders (R81) -/
  holders : Vector (Option Chan) 4
  /-- the switching records (R98) -/
  sw : Vector Switching 16
  /-- the groups' changeover stamps (R105) -/
  gapStamps : Vector GapStamp 4
  /-- the Switching Queue, head first (R106) -/
  queue : List QueueEntry
  /-- the last-admission stamp (R109) -/
  lastAdm : RunCount
  /-- the stagger timer's long-past mark (R99) -/
  staggerPast : Bool
  /-- the ALL-OFF# pin's level as the sequencer has taken it (R118): true is asserted -/
  pinTaken : Bool
  /-- the fault records but for the locks (R128) -/
  faults : Vector FaultRec 16
  /-- the key records (R143) -/
  keys : Vector KeyRec 8
  /-- the pending marks (R177) -/
  att : Pending
  /-- the host link (R169, R171) -/
  link : Link
  /-- the supply supervisor (R154) -/
  sup : Supervisor
  /-- what blocks have handed on and receivers have not yet taken (R6) -/
  mail : Mail
  /-- the model's own: which of the free values of Config the next loss of the backup domain reads -/
  freeCount : Nat
  /-- the commands that wait, first in, first out -/
  pending : List Instr
  deriving DecidableEq, Repr

/-- The faults a step can stop with: none. The manual gives every command and event an effect, and none that stops the
part. -/
inductive Fault
  deriving DecidableEq, Repr

/-- The refusals a step can answer. -/
inductive Refusal where
  /-- A command that has no meaning yet; raised by an arm of `exec` alone, and by no arm now. Safe. -/
  | notModelled (mnemonic : String)
  deriving DecidableEq, Repr

/-! ### Cold values -/

/-- A FREE program slot at generation 0 with reason NONE (R15). -/
def ProgSlot.cold : ProgSlot := ⟨none, 0, .none⟩

/-- A FREE override slot at generation 0 with reason NONE (R44). -/
def OvrSlot.cold : OvrSlot := ⟨none, 0, .none⟩

/-- A gate's cold configuration (R74). -/
def GateConfig.cold : GateConfig := ⟨false, 64, 192, 4⟩

/-- A gate's cold working state (R74). -/
def GateWork.cold : GateWork := ⟨.auto, .disabled, 0, .none, 0, false⟩

/-- A channel record's cold values (R76). -/
def ChanRec.cold : ChanRec := ⟨.switch, none, .normal, 0, 0, 0, 0, 2⟩

/-- A resolution result's cold values (R82). -/
def Resolution.cold : Resolution := ⟨.fallback, .fallback, 0, ⟨.fallback, 0⟩, 0, false⟩

/-- A switching record's cold values (R125). -/
def Switching.cold : Switching := ⟨.off, 0, 0, 0, false, 0, false, 0, false⟩

/-- A group's cold changeover stamp (R125). -/
def GapStamp.cold : GapStamp := ⟨0, false⟩

/-- A fault record's cold values (R139). -/
def FaultRec.cold : FaultRec := ⟨0, 0, none, false⟩

/-- A key record's cold and warm values (R153): debounced level pressed, count 0, IDLE. -/
def KeyRec.start : KeyRec := ⟨true, 0, .idle⟩

/-- The calendar's cold contents, 2000-01-01 00:00:00.0 (R13). -/
def Calendar.cold : Calendar := ⟨2000, 1, 1, 0, 0, 0, 0⟩

/-- The retained store's cold contents (R13, R15, R44, R61, R74, R76, R81, R125, R139, R153, R178). -/
def Retained.cold : Retained where
  clockValid := false
  programs := tabConst 96 .cold
  overrides := tabConst 16 .cold
  epoch := 0
  resume := .keep
  gates := tabConst 4 .cold
  channels := tabConst 16 .cold
  gaps := tabConst 4 0
  stagger := Config.coldStagger
  hostLatch := false
  locks := tabConst 16 false
  bindings := tabConst 8 none
  panelLocked := false
  mask := 0

/-- No pending mark. -/
def Pending.none : Pending := ⟨0, 0, 0, 0, 0, false, false, false, false, false, false⟩

/-- Nothing handed on. -/
def Mail.empty : Mail := ⟨[], [], tabConst 8 [], [], [], [], []⟩

/-- The link's values at the end of every start (R175), with nothing shifted out yet. -/
def Link.start : Link := ⟨.idle, false, Option.none, []⟩

/-- The machine right after reset: a cold start has just ended with the ALL-OFF# pin released, so the supervisor is
RUNNING, every block holds its cold values, and START and CLOCK are pending (R163). The supply levels are the nominal
ones of the electrical summary. DESIGN CHOICE, notes/assumptions/1.md. -/
def State.reset : State where
  cal := .cold
  runCount := 0
  stepReplaced := false
  ret := .cold
  check := ⟨.cold⟩
  gates := tabConst 4 .cold
  results := tabConst 16 .cold
  holders := tabConst 4 none
  sw := tabConst 16 .cold
  gapStamps := tabConst 4 .cold
  queue := []
  lastAdm := 0
  staggerPast := false
  pinTaken := false
  faults := tabConst 16 .cold
  keys := tabConst 8 .start
  att := { Pending.none with clock := true, start := true }
  link := .start
  sup := ⟨.running, 5000, 3000, false, false, 0, false, false⟩
  mail := .empty
  freeCount := 0
  pending := []

end Sys2Proof.Machine
end

