-- ==== Sys2Proof/Machine/Flags.lean ====
section
/-! DEFINITION. The attention unit (10_the_host_link_and_attention.md): raising flags, ATTN#, and the status byte's
indications that other blocks own. -/

namespace Sys2Proof.Machine

/-- Raising channel flags of the CHANNEL category (R177); a flag already pending stays one. -/
def State.raiseChannels (cs : ChanSet) (s : State) : State :=
  { s with att := { s.att with channel := s.att.channel ||| cs } }

/-- Raising a channel's CHANNEL flag. -/
def State.raiseChannel (ch : Chan) (s : State) : State := s.raiseChannels (BitVec.twoPow 16 ch.val)

/-- Raising a channel's FAULT flag (R137). -/
def State.raiseFault (ch : Chan) (s : State) : State :=
  { s with att := { s.att with fault := s.att.fault ||| BitVec.twoPow 16 ch.val } }

/-- Raising PROGRAM flags (R36). -/
def State.raisePrograms (hs : BitVec 96) (s : State) : State :=
  { s with att := { s.att with program := s.att.program ||| hs } }

/-- Raising OVERRIDE flags (R57). -/
def State.raiseOverrides (os : BitVec 16) (s : State) : State :=
  { s with att := { s.att with override := s.att.override ||| os } }

/-- Raising a gate's GATE flag (R73). -/
def State.raiseGate (g : GateIdx) (s : State) : State :=
  { s with att := { s.att with gate := s.att.gate ||| BitVec.twoPow 4 g.val } }

/-- Raising the CLOCK flag. -/
def State.raiseClock (s : State) : State := { s with att := { s.att with clock := true } }

/-- Raising the START flag. -/
def State.raiseStart (s : State) : State := { s with att := { s.att with start := true } }

/-- Raising the ALL-OFF flag (R118). -/
def State.raiseAllOff (s : State) : State := { s with att := { s.att with allOff := true } }

/-- Raising the RESPONSE flag (R172). -/
def State.raiseResponse (s : State) : State := { s with att := { s.att with response := true } }

/-- Raising the OVERRUN flag of the LINK category (R169). -/
def State.raiseOverrun (s : State) : State := { s with att := { s.att with overrun := true } }

/-- Raising the FRAMING flag of the LINK category (R169). -/
def State.raiseFraming (s : State) : State := { s with att := { s.att with framing := true } }

/-- The ten categories' "a flag is pending" bits, in the mask's bit order (R186). -/
def Pending.categories (p : Pending) : BitVec 10 :=
  let bit (i : Nat) (b : Bool) : BitVec 10 := if b then BitVec.twoPow 10 i else 0
  bit 0 (p.channel != 0) ||| bit 1 (p.fault != 0) ||| bit 2 (p.program != 0) ||| bit 3 (p.override != 0)
    ||| bit 4 (p.gate != 0) ||| bit 5 p.clock ||| bit 6 p.start ||| bit 7 p.allOff ||| bit 8 p.response
    ||| bit 9 (p.overrun || p.framing)

/-- ATTN# is asserted: the supervisor is RUNNING and a pending flag lies in an enabled category (R178). -/
def State.attn (s : State) : Bool :=
  decide (s.sup.state = .running) && (s.att.categories &&& s.ret.mask) != 0

/-- The ALL-OFF condition is in force: the pin is asserted or the host latch is set (R118). -/
def State.allOff (s : State) : Bool := s.pinTaken || s.ret.hostLatch

end Sys2Proof.Machine
end

