-- ==== Sys2Proof/Machine/Ops.lean ====
section
/-! DEFINITION. The shared operations over the state: changes of the retained store with its check value, the mail,
timers on the run count, channel sets, and the guard of RUNNING. -/

namespace Sys2Proof.Machine

/-! ### Channel sets -/

/-- The channels of a set in ascending order. -/
def chansOf (cs : ChanSet) : List Chan := (List.finRange 16).filter fun c => cs.getLsbD c.val

/-- The set of the channels that satisfy a test. -/
def chansWhere (p : Chan → Bool) : ChanSet :=
  (List.finRange 16).foldl (fun acc c => if p c then acc ||| BitVec.twoPow 16 c.val else acc) 0

/-! ### Timers (R6) -/

/-- A timer started at `start` with `len` tenths has elapsed at run count `now`: the difference modulo 2^32 is at least
the length (R6). DEDUCED, notes/assumptions/7.md. -/
def elapsed (now start : RunCount) (len : Nat) : Bool := decide (len ≤ (now - start).toNat)

/-- The tenths a timer still has to run, 0 once it has elapsed. -/
def remaining (now start : RunCount) (len : Nat) : Nat := len - (now - start).toNat

/-- A timer with a long-past mark has elapsed: its mark is set or the difference has reached its length (R99). -/
def elapsedOrPast (past : Bool) (now start : RunCount) (len : Nat) : Bool := past || elapsed now start len

/-- The tenths a timer with a long-past mark still has to run. -/
def remainingUnlessPast (past : Bool) (now start : RunCount) (len : Nat) : Nat :=
  if past then 0 else remaining now start len

/-! ### The retained store -/

/-- Every change of the retained store brings the retained check value up to date in the same change (R159). -/
def State.setRet (r : Retained) (s : State) : State := { s with ret := r, check := ⟨r⟩ }

/-- The check of the retained store at STARTING (R159): the check value held is that of a store equal to the present one,
or collides with the present one's. -/
def State.checkAgrees (s : State) : Bool :=
  if s.check.store = s.ret then true else Config.checkCollides s.check.store s.ret

/-- The table epoch advances by `n`, 65535 followed by 0 (R38). -/
def State.advanceEpoch (n : Nat) (s : State) : State :=
  s.setRet { s.ret with epoch := s.ret.epoch + BitVec.ofNat 16 n }

/-! ### Single entries of the tables -/

/-- Replacing one switching record. -/
def State.setSw (ch : Chan) (w : Switching) (s : State) : State := { s with sw := s.sw.set ch w }

/-- Replacing one fault record. -/
def State.setFault (ch : Chan) (f : FaultRec) (s : State) : State := { s with faults := s.faults.set ch f }

/-- Replacing one group's changeover stamp. -/
def State.setGap (g : Group) (x : GapStamp) (s : State) : State := { s with gapStamps := s.gapStamps.set g.idx x }

/-- Replacing one gate's working state. -/
def State.setGate (g : GateIdx) (w : GateWork) (s : State) : State := { s with gates := s.gates.set g w }

/-- Replacing one key record. -/
def State.setKey (k : KeyIdx) (r : KeyRec) (s : State) : State := { s with keys := s.keys.set k r }

/-- Replacing one channel record. -/
def State.setChanRec (ch : Chan) (r : ChanRec) (s : State) : State :=
  s.setRet { s.ret with channels := s.ret.channels.set ch r }

/-- Setting or clearing one channel's lock (R128). -/
def State.setLock (ch : Chan) (b : Bool) (s : State) : State :=
  s.setRet { s.ret with locks := s.ret.locks.set ch b }

/-- A channel's record. -/
def State.chan (s : State) (ch : Chan) : ChanRec := s.ret.channels[ch]

/-! ### The mail -/

/-- Handing the record store a minute boundary (R8). -/
def State.postBoundary (b : Boundary) (s : State) : State :=
  { s with mail := { s.mail with boundaries := s.mail.boundaries ++ [b] } }

/-- Handing the record store a gate change report (R67). -/
def State.postGateReport (g : GateIdx) (st : GateState) (s : State) : State :=
  { s with mail := { s.mail with gateReports := s.mail.gateReports ++ [(g, st)] } }

/-- Handing the record store a key's request (R148, R149). -/
def State.postKeyRequest (k : KeyIdx) (r : KeyRequest) (s : State) : State :=
  { s with mail := { s.mail with keyRequests := s.mail.keyRequests.set k (s.mail.keyRequests[k] ++ [r]) } }

/-- Handing the resolver one re-resolution request; an event that concerns no channel hands on none (R34, R49). -/
def State.request (cs : ChanSet) (s : State) : State :=
  if cs = 0 then s else { s with mail := { s.mail with requests := s.mail.requests ++ [cs] } }

/-- Handing the record store one verdict report; an event that changed no verdict hands on none (R91). -/
def State.postVerdicts (vs : List (Chan × Verdict)) (s : State) : State :=
  if vs = [] then s else { s with mail := { s.mail with verdictReports := s.mail.verdictReports ++ [vs] } }

/-- Handing the sequencer one hand-off; an event that changed no effective target hands on none (R90). -/
def State.postHandOff (ts : List (Chan × Level)) (s : State) : State :=
  if ts = [] then s else { s with mail := { s.mail with handOffs := s.mail.handOffs ++ [ts] } }

/-- Handing the resolver one applied-level report; an event that changed no group member's level between 0 and non-zero
hands on none (R115). -/
def State.postLevels (cs : ChanSet) (s : State) : State :=
  if cs = 0 then s else { s with mail := { s.mail with levelReports := s.mail.levelReports ++ [cs] } }

/-- What waits at a place of a list of events handed on, 0 the oldest, and what is left of the list. -/
def waitingAt {α : Type} (l : List α) (place : Nat) : Option (α × List α) :=
  l[place]?.map fun x => (x, l.eraseIdx place)

/-! ### The guard of RUNNING -/

/-- An event of a block other than the supervisor is taken while the supervisor is RUNNING; in the other states it is not
taken and changes nothing (R42, R61, R82, R124, R157, R158). -/
def whileRunning (f : State → State) (s : State) : State :=
  if s.sup.state = .running then f s else s

end Sys2Proof.Machine
end

