-- ==== Sys2Proof/Machine/Gates.lean ====
section
/-! DEFINITION. The gate unit (04_sensor_gates.md): samples, counting, configuration and forcing. -/

namespace Sys2Proof.Machine

/-! ### Counting one sample -/

/-- The state a run toward a direction ends in. -/
def Direction.goal : Direction → GateState → GateState
  | .towardLow, _ => .low
  | .towardHigh, _ => .high
  | .none, st => st

/-- The direction a sample counts toward, `none` where it does not count (R65, R66, R68). -/
def countsToward (cfg : GateConfig) (w : GateWork) (sample : Byte) : Direction :=
  match w.mode, w.state with
  | .auto, .low => if cfg.high.toNat ≤ sample.toNat then .towardHigh else .none
  | .auto, .high => if sample.toNat ≤ cfg.low.toNat then .towardLow else .none
  | .auto, .unknown => if cfg.high.toNat ≤ sample.toNat then .towardHigh else .towardLow
  | .auto, .disabled | .forcedLow, _ | .forcedHigh, _ => .none

/-- The gate's counter, direction and state after a sample has been counted (R65, R66): a sample that does not count sets
the counter to 0; one that continues the run raises it; one that turns the run restarts it at 1; a counter that reaches
the debounce count changes the state. -/
def count (cfg : GateConfig) (w : GateWork) (sample : Byte) : GateWork :=
  match countsToward cfg w sample with
  | .none => { w with counter := 0, direction := .none }
  | d =>
    let c := if w.direction = .none ∨ w.direction = d then w.counter + 1 else 1
    if cfg.debounce.val ≤ c then { w with counter := 0, direction := .none, state := d.goal w.state }
    else { w with counter := c, direction := d }

/-- The gate after it has taken a sample: the sample becomes the last sample, marked valid, and is then counted or not
(R63, R65, R66, R68). -/
def takeSample (cfg : GateConfig) (w : GateWork) (sample : Byte) : GateWork :=
  { count cfg w sample with sample := sample, sampleValid := true }

/-! ### Changes of state (R67) -/

/-- A gate's working state becomes `w`; a change of state raises the GATE flag and hands the record store a report, and
an operation that leaves the state as it was does neither (R67). -/
def State.changeGate (g : GateIdx) (w : GateWork) (s : State) : State :=
  let old := s.gates[g].state
  let s := s.setGate g w
  if w.state = old then s else (s.raiseGate g).postGateReport g w.state

/-- One gate takes one sample (R63). -/
def State.sampleGate (g : GateIdx) (sample : Byte) (s : State) : State :=
  s.changeGate g (takeSample s.ret.gates[g] s.gates[g] sample)

/-- A round of the converter: AIN0 to AIN3 in that order, each sample taken by its gate as its conversion completes (R63). A
round interrupted by a fall of the supply takes the first `completed` samples only. -/
def State.converterRound (a0 a1 a2 a3 : Byte) (completed : Fin 5) (s : State) : State :=
  (([(0, a0), (1, a1), (2, a2), (3, a3)] : List (GateIdx × Byte)).take completed.val).foldl
    (fun s x => s.sampleGate x.1 x.2) s

/-! ### Commands -/

/-- The working state after a CONFIGURE GATE, from the enabled choice before and after (R69). -/
def GateWork.configure (w : GateWork) (before after : Bool) : GateWork :=
  match before, after with
  | false, false => { w with counter := 0, direction := .none }
  | false, true => { w with state := .unknown, mode := .auto, counter := 0, direction := .none }
  | true, false => { w with state := .disabled, mode := .auto, counter := 0, direction := .none }
  | true, true => { w with counter := 0, direction := .none }

/-- CONFIGURE GATE's change (R69). -/
def State.configureGate (g : GateIdx) (cfg : GateConfig) (s : State) : State :=
  let before := s.ret.gates[g].enabled
  let s := s.setRet { s.ret with gates := s.ret.gates.set g cfg }
  s.changeGate g (s.gates[g].configure before cfg.enabled)

/-- The working state after a SET GATE MODE on an enabled gate (R70). -/
def GateWork.force (w : GateWork) (m : GateMode) : GateWork :=
  match m with
  | .forcedLow => { w with mode := .forcedLow, counter := 0, direction := .none, state := .low }
  | .forcedHigh => { w with mode := .forcedHigh, counter := 0, direction := .none, state := .high }
  | .auto => if w.mode = .auto then w else { w with mode := .auto, counter := 0, direction := .none }

/-- SET GATE MODE's change on an enabled gate (R70). -/
def State.setGateMode (g : GateIdx) (m : GateMode) (s : State) : State :=
  s.changeGate g (s.gates[g].force m)

/-! ### Warm start -/

/-- A gate's working state at a warm start (R75). -/
def GateWork.warm (enabled : Bool) : GateWork :=
  { GateWork.cold with state := if enabled then .unknown else .disabled }

/-- The gate unit's part of a warm start (R75): no flag, no report. -/
def State.warmGates (s : State) : State :=
  { s with gates := tab fun g => GateWork.warm s.ret.gates[g].enabled }

end Sys2Proof.Machine
end

