-- ==== Sys2Proof/Machine/Calendar.lean ====
section
/-! DEFINITION. The Calendar unit (01_time_bases.md): the calendar's advance, weekdays, stamps, and the step of the time
base. -/

namespace Sys2Proof.Machine

/-- A leap year within the calendar's range (R1). -/
def leapYear (y : Nat) : Bool := y % 4 == 0

/-- The length of a month (R1). -/
def monthLength (y m : Nat) : Nat :=
  if m = 2 then (if leapYear y then 29 else 28)
  else if m = 4 ∨ m = 6 ∨ m = 9 ∨ m = 11 then 30 else 31

/-- The days of a year before the first of a month. -/
def daysBeforeMonth (y : Nat) : Nat → Nat
  | 0 => 0
  | 1 => 0
  | m + 2 => daysBeforeMonth y (m + 1) + monthLength y (m + 1)

/-- The days from 2000-01-01 to the first of January of a year of the calendar's range. -/
def daysBeforeYear (y : Nat) : Nat := (y - 2000) * 365 + (y - 2000 + 3) / 4

/-- The days from 2000-01-01 to a date. -/
def dayNumber (y m d : Nat) : Nat := daysBeforeYear y + daysBeforeMonth y m + (d - 1)

/-- The weekday of a date, 0 Monday to 6 Sunday: 2000-01-01 is a Saturday (R2). -/
def weekday (y m d : Nat) : Nat := (dayNumber y m d + 5) % 7

/-- The calendar's contents are within the ranges of R1. -/
def Calendar.inRange (c : Calendar) : Bool :=
  decide (2000 ≤ c.year ∧ c.year ≤ 2099 ∧ 1 ≤ c.month ∧ c.month ≤ 12 ∧ 1 ≤ c.day ∧ c.day ≤ monthLength c.year c.month
    ∧ c.hour ≤ 23 ∧ c.minute ≤ 59 ∧ c.second ≤ 59 ∧ c.tenth ≤ 9)

/-- The present calendar time: seconds and tenths left out (R4). -/
def Calendar.present (c : Calendar) : Stamp := ⟨c.year, c.month, c.day, c.hour * 60 + c.minute⟩

/-- A stamp is a stamp by R4. -/
def Stamp.inRange (t : Stamp) : Bool :=
  decide (2000 ≤ t.year ∧ t.year ≤ 2099 ∧ 1 ≤ t.month ∧ t.month ≤ 12 ∧ 1 ≤ t.day ∧ t.day ≤ monthLength t.year t.month
    ∧ t.minute ≤ 1439)

/-- A stamp is earlier than another: by year, then month, then day, then minute of day (R4). -/
def Stamp.before (a b : Stamp) : Bool :=
  decide (a.year < b.year ∨ (a.year = b.year ∧ (a.month < b.month ∨ (a.month = b.month ∧
    (a.day < b.day ∨ (a.day = b.day ∧ a.minute < b.minute))))))

/-- A stamp is at or before another (R4). -/
def Stamp.atOrBefore (a b : Stamp) : Bool := !b.before a

/-- The minutes from 2000-01-01 00:00 to a stamp, every day counted as 1440 minutes (R4). -/
def Stamp.minutes (t : Stamp) : Nat := dayNumber t.year t.month t.day * 1440 + t.minute

/-- The number of minutes from an earlier stamp to a later one (R4). -/
def minutesBetween (a b : Stamp) : Nat := b.minutes - a.minutes

/-- The last instant of the calendar's range, 2099-12-31 23:59:59.9 (R9). -/
def Calendar.last : Calendar := ⟨2099, 12, 31, 23, 59, 59, 9⟩

/-- The calendar one tenth later (R1), the year rollover of R9 included. -/
def Calendar.advance (c : Calendar) : Calendar :=
  if c = .last then .cold
  else if c.tenth < 9 then { c with tenth := c.tenth + 1 }
  else if c.second < 59 then { c with tenth := 0, second := c.second + 1 }
  else if c.minute < 59 then { c with tenth := 0, second := 0, minute := c.minute + 1 }
  else if c.hour < 23 then { c with tenth := 0, second := 0, minute := 0, hour := c.hour + 1 }
  else if c.day < monthLength c.year c.month then
    { c with tenth := 0, second := 0, minute := 0, hour := 0, day := c.day + 1 }
  else if c.month < 12 then
    { c with tenth := 0, second := 0, minute := 0, hour := 0, day := 1, month := c.month + 1 }
  else { c with tenth := 0, second := 0, minute := 0, hour := 0, day := 1, month := 1, year := c.year + 1 }

/-- The advance from these contents takes the second from 59 to 0: a minute boundary (R8). -/
def Calendar.atBoundary (c : Calendar) : Bool := decide (c.second = 59 ∧ 9 ≤ c.tenth)

/-- The year rollover makes the clock INVALID, whatever it was before, and raises CLOCK while the supervisor is RUNNING
(R9, R158). -/
def State.invalidateClock (s : State) : State :=
  let s := s.setRet { s.ret with clockValid := false }
  if s.sup.state = .running then s.raiseClock else s

/-- The calendar's part of a step of the time base (R1): a rollover makes the clock INVALID (R9), and a minute boundary is
handed on while RUNNING and only then (R8). -/
def State.advanceCalendar (s : State) : State :=
  let c := s.cal
  let s := { s with cal := c.advance }
  let s := if c = .last then s.invalidateClock else s
  if s.sup.state = .running ∧ c.atBoundary then s.postBoundary ⟨s.cal.present, s.ret.clockValid⟩ else s

/-- One step of the time base in a supervisor state in which a supply is present: the run count advances (R5); the calendar
advances with it, unless a SET TIME taken first has replaced this step's advance (R11); STARTING lasts one step longer
(R161). -/
def State.advanceTime (s : State) : State :=
  let s := { s with runCount := s.runCount + 1 }
  let s := if s.stepReplaced then { s with stepReplaced := false } else s.advanceCalendar
  match s.sup.state with
  | .starting => { s with sup := { s.sup with startingFor := s.sup.startingFor + 1 } }
  | .running | .retention | .off => s

/-- The time base runs in RUNNING, STARTING and RETENTION and is stopped in OFF (R3). -/
def State.tick (s : State) : State := if s.sup.state = .off then s else s.advanceTime

/-- The values of a SET TIME (R10). -/
structure TimeValue where
  year : Nat
  month : Nat
  day : Nat
  hour : Nat
  minute : Nat
  second : Nat
  deriving DecidableEq, Repr

/-- The calendar takes a set time with tenth 0, the clock becomes VALID and CLOCK is raised (R10). Where a step of the
advance is due and is taken after the SET TIME, that step is not taken from the calendar (R11). -/
def State.loadTime (v : TimeValue) (stepDue : Bool) (s : State) : State :=
  let s := { s with
    cal := ⟨v.year, v.month, v.day, v.hour, v.minute, v.second, 0⟩, stepReplaced := s.stepReplaced || stepDue }
  (s.setRet { s.ret with clockValid := true }).raiseClock

end Sys2Proof.Machine
end

