-- ==== Sys2Proof/Machine/Link.lean ====
section
/-! DEFINITION. The host link (10_the_host_link_and_attention.md): the check byte, transactions, the status byte, the link
states, and the taking of a command at its completion. -/

namespace Sys2Proof.Machine

/-! ### The check byte (R170) -/

/-- One bit of the CRC-8 with polynomial x^8+x^2+x+1, most significant bit first. -/
def crcBit (c : Byte) : Byte := if c.getMsbD 0 then (c <<< 1) ^^^ 0x07 else c <<< 1

/-- One byte of the CRC-8. -/
def crcByte (c b : Byte) : Byte :=
  crcBit (crcBit (crcBit (crcBit (crcBit (crcBit (crcBit (crcBit (c ^^^ b))))))))

/-- The CRC-8 of a frame's bytes before the check, initial value 0 (R170). -/
def crc8 (bytes : List Byte) : Byte := bytes.foldl crcByte 0

/-! ### Codes -/

/-- A result code's byte (R176). -/
def ResultCode.byte : ResultCode → Byte
  | .ok => 0 | .badCheck => 1 | .badLength => 2 | .unknownCommand => 3 | .badParameter => 4 | .noSuchRecord => 5
  | .stale => 6 | .tableFull => 7 | .past => 8 | .notPermitted => 9 | .epochMoved => 10 | .notYet => 14
  | .noResponse => 15

/-- The codes of the thirty-six commands (11_command_reference.md, "The commands at a glance"). -/
def commandCodes : List Byte :=
  [0x01, 0x02, 0x10, 0x11, 0x12, 0x13, 0x14, 0x15, 0x16, 0x20, 0x21, 0x22, 0x23, 0x24, 0x30, 0x31, 0x32, 0x33, 0x34,
   0x35, 0x38, 0x39, 0x3A, 0x40, 0x41, 0x42, 0x48, 0x49, 0x4A, 0x50, 0x51, 0x52, 0x53, 0x54, 0x5E, 0x5F]

/-- A response frame: echo, result, length, payload and check (R170). -/
def Response.frame (r : Response) : List Byte :=
  let body := r.echo :: r.result.byte :: BitVec.ofNat 8 r.payload.length :: r.payload
  body ++ [crc8 body]

/-- What the host sends after 0xC3 for a command: code, length, parameters and a good check (R170). -/
def commandFrame (code : Byte) (params : List Byte) : List Byte :=
  let body := code :: BitVec.ofNat 8 params.length :: params
  body ++ [crc8 body]

/-! ### The status byte (R168) -/

/-- The status byte as the part stands. -/
def State.statusByte (s : State) : Byte :=
  let bit (i : Nat) (b : Bool) : Byte := if b then BitVec.twoPow 8 i else 0
  let ready := match s.link.state with
    | .ready _ => true
    | .idle | .receiving _ | .executing _ => false
  let executing := match s.link.state with
    | .executing _ => true
    | .idle | .receiving _ | .ready _ => false
  bit 7 true ||| bit 5 ready ||| bit 4 executing ||| bit 3 s.attn ||| bit 2 s.allOff ||| bit 1 s.ret.clockValid
    ||| bit 0 s.link.stickyError

/-! ### Errors (R169) -/

/-- The link goes to a state. -/
def State.setLink (st : LinkState) (s : State) : State := { s with link := { s.link with state := st } }

/-- An error is flagged: the sticky error is set, and the transaction in progress remembers it (R169). -/
def State.flagError (s : State) : State :=
  { s with link := { s.link with
      stickyError := true
      transaction := s.link.transaction.map fun t => { t with flagged := true } } }

/-- FRAMING is flagged (R169). -/
def State.flagFraming (s : State) : State := s.flagError.raiseFraming

/-- OVERRUN is flagged (R169). -/
def State.flagOverrun (s : State) : State := s.flagError.raiseOverrun

/-! ### The end of a transaction -/

/-- A frame cut short by the rise of CS# is discarded, and FRAMING is flagged (R171). -/
def State.discardPartial (s : State) : State :=
  match s.link.state with
  | .receiving _ => (s.setLink .idle).flagFraming
  | .idle | .executing _ | .ready _ => s

/-- A FETCH that shifted out the held response to the end of its check empties the response slot (R173). -/
def State.releaseResponse (t : Transaction) (s : State) : State :=
  match s.link.state with
  | .ready _ => if t.collected then s.setLink .idle else s
  | .idle | .receiving _ | .executing _ => s

/-- The sticky error is cleared at the rise of CS# if the transaction's status byte showed it and was completely shifted out,
and nothing was flagged after that byte began (R169). -/
def State.settleSticky (s : State) : State :=
  match s.link.transaction with
  | some t => { s with link := { s.link with
      stickyError := s.link.stickyError && !(t.sawError && t.named && !t.flagged), transaction := none } }
  | none => s

/-- The rise of CS# ends the transaction in progress (R169, R171, R173). One whose first byte is not complete is not taken, and
changes nothing else (R167). -/
def State.endTransaction (s : State) : State :=
  match s.link.transaction with
  | some t => ((s.discardPartial).releaseResponse t).settleSticky
  | none => s

/-! ### The start of a transaction -/

/-- CS# falls and the status byte begins, reporting the part as it stands (R167, R168). A transaction still in progress has
ended, since CS# rose in between. DEDUCED, notes/assumptions/17.md. -/
def State.beginTransaction (s : State) : State :=
  let s := s.endTransaction
  { s with link := { s.link with
      transaction := some ⟨s.link.stickyError, false, false, false⟩
      miso := [s.statusByte] } }

/-- The first byte has been taken, and the part shifts out the bytes given after the status byte (R167). -/
def State.shiftOut (shifted : List Byte) (collected : Bool) (s : State) : State :=
  { s with link := { s.link with
      transaction := s.link.transaction.map fun t => { t with named := true, collected := collected }
      miso := s.link.miso ++ shifted } }

/-- Zeros shifted out for further bytes clocked (R167). -/
def zeros (n : Nat) : List Byte := List.replicate n 0

/-- The first `n` bytes of a frame followed by zeros (R173). -/
def clockOut (frame : List Byte) (n : Nat) : List Byte := frame.take n ++ zeros (n - frame.length)

/-- A transaction while the supervisor is not RUNNING, or one whose CS# fell before the start instant, is not taken: every byte
reads 0xFF (R158, R167). -/
def State.deafTransaction (n : Nat) (s : State) : State :=
  { s with link := { s.link with miso := List.replicate (n + 1) 0xFF } }

/-- The eighth bit of the first byte: a transaction that has begun is named, and one that the part did not see begin is not
taken. A first byte already taken is not taken again. -/
def State.nameTransaction (n : Nat) (act : State → State) (s : State) : State :=
  match s.link.transaction with
  | some t => if t.named then s else act s
  | none => s.deafTransaction n

/-- A row of a transaction of one status byte and `n` further bytes, with what its first byte does: taken while RUNNING, and
not taken elsewhere (R158, R167). -/
def transact (part : FirstByte) (n : Nat) (act : State → State) (s : State) : State :=
  if s.sup.state = .running then
    match part with
    | .whole => s.beginTransaction.nameTransaction n act
    | .begins => s.beginTransaction
    | .taken => s.nameTransaction n act
  else match part with
    | .whole | .taken => s.deafTransaction n
    | .begins => s.deafTransaction 0

/-- The first byte of a STATUS transaction is taken (R167). -/
def State.nameStatus (n : Nat) (s : State) : State := s.shiftOut (zeros n) false

/-- A response the link makes itself fills the response slot and raises RESPONSE (R171). -/
def State.linkResponse (code : Byte) (result : ResultCode) (s : State) : State :=
  (s.setLink (.ready ⟨code, result, []⟩)).raiseResponse

/-- The frame is judged as its bytes arrive (R171). -/
def State.receive (bytes : List Byte) (s : State) : State :=
  match bytes with
  | [] | [_] => s.setLink (.receiving bytes)
  | code :: len :: rest =>
    if Config.maxParams < len.toNat then s.linkResponse code .badLength
    else match rest.drop len.toNat with
      | [] => s.setLink (.receiving bytes)
      | check :: _ =>
        if check ≠ crc8 (code :: len :: rest.take len.toNat) then s.linkResponse code .badCheck
        else if code ∈ commandCodes then s.setLink (.executing ⟨code, rest.take len.toNat⟩)
        else s.linkResponse code .unknownCommand

/-- The first byte of a COMMAND transaction is taken: received in IDLE, refused with OVERRUN in EXECUTING and READY (R171). -/
def State.nameCommand (bytes : List Byte) (s : State) : State :=
  let s := s.shiftOut (zeros bytes.length) false
  match s.link.state with
  | .idle => s.receive bytes
  | .receiving _ | .executing _ | .ready _ => s.flagOverrun

/-- The frame a FETCH shifts out, by the link state as its first byte is taken (R173). -/
def LinkState.fetched : LinkState → Response
  | .ready r => r
  | .executing c => ⟨c.code, .notYet, []⟩
  | .idle | .receiving _ => ⟨0, .noResponse, []⟩

/-- A response is held. -/
def LinkState.isReady : LinkState → Bool
  | .ready _ => true
  | .idle | .receiving _ | .executing _ => false

/-- The first byte of a FETCH transaction is taken, in which `n` bytes are clocked after it: the frame is the one that the link
state gives at that moment (R173, R174). -/
def State.nameFetch (n : Nat) (s : State) : State :=
  let frame := s.link.state.fetched.frame
  s.shiftOut (clockOut frame n) (s.link.state.isReady && decide (frame.length ≤ n))

/-- A first byte that names no transaction is taken (R167). -/
def State.nameNone (n : Nat) (s : State) : State := (s.shiftOut (zeros n) false).flagFraming

/-- CS# rises before a command frame's check byte is complete: FRAMING is flagged and the transaction ends (R169, R171). -/
def State.riseMidFrame (s : State) : State :=
  match s.link.state with
  | .receiving _ => s.endTransaction
  | .idle | .executing _ | .ready _ => s

/-! ### Completion (R172) -/

/-- What an owner answers at a command's completion: the state after its change, the result and the payload. -/
structure Answer where
  state : State
  result : ResultCode
  payload : List Byte

/-- The response fills the response slot, the link goes to READY and RESPONSE is raised, in one change (R172). -/
def Answer.respond (a : Answer) (code : Byte) : State :=
  (a.state.setLink (.ready ⟨code, a.result, a.payload⟩)).raiseResponse

/-- The command in the command slot, while the supervisor is RUNNING and the slot holds a command of this code. -/
def State.slot (s : State) (code : Byte) : Option (List Byte) :=
  match s.sup.state, s.link.state with
  | .running, .executing c => if c.code = code then some c.params else none
  | _, _ => none

/-- The owner takes the command of this code at its completion (R172). Where no such command is in EXECUTING there is no
completion, and nothing changes. DEDUCED, notes/assumptions/5.md. -/
def complete (code : Byte) (owner : List Byte → State → Answer) (s : State) : State :=
  match s.slot code with
  | some params => (owner params s).respond code
  | none => s

/-- A command that passes every check is answered OK. -/
def answerOk (s : State) (payload : List Byte) : Answer := ⟨s, .ok, payload⟩

/-- A command that fails a check changes no state of its owner (R187). -/
def refuse (s : State) (result : ResultCode) : Answer := ⟨s, result, []⟩

/-- BAD-PARAMETER with the index of the offending parameter byte (R176). -/
def badParameter (s : State) (index : Nat) : Answer := ⟨s, .badParameter, [BitVec.ofNat 8 index]⟩

/-- The length and field checks of a command, then its owner's part on what they read (R187). -/
def checked {α : Type} (read : Except Nat α) (s : State) (f : α → Answer) : Answer :=
  match read with
  | .ok a => f a
  | .error index => badParameter s index

end Sys2Proof.Machine
end

