-- ==== Sys2Proof/Machine/Operands.lean ====
section
/-! DEFINITION. The parameter layouts of the thirty-six commands and their length and field checks (11_command_reference.md,
R187, R188). Each reader answers what the parameters say, or the index that BAD-PARAMETER carries. -/

namespace Sys2Proof.Machine

/-! ### Bytes -/

/-- A 2-byte field, least significant byte first (R180). -/
def word16 (lo hi : Byte) : Nat := lo.toNat + 256 * hi.toNat

/-- A channel set on the wire (R180). -/
def wireSet (lo hi : Byte) : ChanSet := hi ++ lo

/-- The high four bits of a byte. -/
def highNibble (b : Byte) : Nat := b.toNat / 16

/-- The low four bits of a byte. -/
def lowNibble (b : Byte) : Level := Fin.ofNat 16 b.toNat

/-- The index of a failed length check: the first byte missing or the first surplus one (R187). -/
def lengthIndex (n expected : Nat) : Nat := min n expected

/-- Going on if a check holds, else BAD-PARAMETER with an index. -/
def require {α : Type} (b : Bool) (index : Nat) (k : Except Nat α) : Except Nat α := if b then k else .error index

/-- Parameters of a fixed length 0. -/
def readNone (ps : List Byte) : Except Nat Unit :=
  if ps = [] then .ok () else .error (lengthIndex ps.length 0)

/-- One parameter byte. -/
def readByte (ps : List Byte) : Except Nat Byte :=
  match ps with
  | [b] => .ok b
  | _ => .error (lengthIndex ps.length 1)

/-- A number as an index below `n`, or an error. -/
def asFin (n : Nat) (v index : Nat) : Except Nat (Fin n) :=
  if h : v < n then .ok ⟨v, h⟩ else .error index

/-- A channel number, 0 to 15 (R188). -/
def readChanByte (b : Byte) (index : Nat) : Except Nat Chan := asFin 16 b.toNat index

/-- A handle, numbered from 1, as a slot index (R188). -/
def readHandle (n : Nat) (b : Byte) (index : Nat) : Except Nat (Fin n) :=
  if b.toNat = 0 then .error index else asFin n (b.toNat - 1) index

/-! ### Names -/

/-- A handle and a generation. -/
structure Name (n : Nat) where
  slot : Fin n
  gen : Gen
  deriving DecidableEq, Repr

/-- A handle byte and a generation byte at indices 0 and 1 (R188). -/
def readNameBytes (n : Nat) (h g : Byte) : Except Nat (Name n) :=
  match readHandle n h 0, asFin 16 g.toNat 1 with
  | .ok i, .ok gen => .ok ⟨i, gen⟩
  | .error e, _ => .error e
  | .ok _, .error e => .error e

/-- Parameters of a handle and a generation. -/
def readName (n : Nat) (ps : List Byte) : Except Nat (Name n) :=
  match ps with
  | [h, g] => readNameBytes n h g
  | _ => .error (lengthIndex ps.length 2)

/-! ### Time -/

/-- A calendar stamp, each part a field of its own (R188). -/
def readStamp (y mo d m0 m1 : Byte) (index : Nat) : Except Nat Stamp :=
  let t : Stamp := ⟨2000 + y.toNat, mo.toNat, d.toNat, word16 m0 m1⟩
  require (decide (y.toNat ≤ 99)) index <|
  require (decide (1 ≤ t.month ∧ t.month ≤ 12)) (index + 1) <|
  require (decide (1 ≤ t.day ∧ t.day ≤ monthLength t.year t.month)) (index + 2) <|
  require (decide (t.minute ≤ 1439)) (index + 3) (.ok t)

/-- SET TIME's parameters (R190). -/
def readSetTime (ps : List Byte) : Except Nat TimeValue :=
  match ps with
  | [y, mo, d, h, mi, se] =>
    let v : TimeValue := ⟨2000 + y.toNat, mo.toNat, d.toNat, h.toNat, mi.toNat, se.toNat⟩
    require (decide (y.toNat ≤ 99)) 0 <|
    require (decide (1 ≤ v.month ∧ v.month ≤ 12)) 1 <|
    require (decide (1 ≤ v.day ∧ v.day ≤ monthLength v.year v.month)) 2 <|
    require (decide (v.hour ≤ 23)) 3 <|
    require (decide (v.minute ≤ 59)) 4 <|
    require (decide (v.second ≤ 59)) 5 (.ok v)
  | _ => .error (lengthIndex ps.length 6)

/-! ### Program definitions (R181, R191) -/

/-- A condition, where present: gate in bits 6 to 5, sense in bit 4 (R181). -/
def readCondition (b : Byte) : Option Condition :=
  if b.getLsbD 7 then
    some ⟨Fin.ofNat 4 (b.toNat / 32), if b.getLsbD 4 then .high else .low⟩
  else none

/-- The fields of a definition that every kind shares, from record bytes 2 to 5. -/
def sharedDef (kp cl t0 t1 : Byte) (timing : Timing) : ProgDef :=
  ⟨timing, Fin.ofNat 8 kp.toNat, lowNibble cl, wireSet t0 t1, readCondition cl⟩

/-- The targets must not be empty (R191). -/
def requireTargets {α : Type} (t0 t1 : Byte) (base : Nat) (k : Except Nat α) : Except Nat α :=
  require (decide (wireSet t0 t1 ≠ 0)) (base + 2) k

/-- DAILY timing (R21, R191). -/
def readDaily (days on0 on1 off0 off1 : Byte) (base : Nat) : Except Nat Timing :=
  let set : BitVec 7 := days.setWidth 7
  let on := word16 on0 on1
  let off := word16 off0 off1
  require (decide (set ≠ 0)) (base + 4) <|
  require (decide (on ≤ 1439)) (base + 5) <|
  require (decide (off ≤ 1439 ∧ off ≠ on)) (base + 7) (.ok (.daily set on off))

/-- DATED timing, from its two stamps (R22, R191). -/
def readDated (start stop : Except Nat Stamp) (base : Nat) : Except Nat Timing :=
  match start, stop with
  | .ok a, .ok b =>
    require (a.before b && decide (minutesBetween a b ≤ Config.longestDated)) (base + 9) (.ok (.dated a b))
  | .error e, _ => .error e
  | .ok _, .error e => .error e

/-- CYCLE timing, from its anchor (R23, R191). -/
def readCycle (anchor : Except Nat Stamp) (p0 p1 o0 o1 : Byte) (base : Nat) : Except Nat Timing :=
  match anchor with
  | .error e => .error e
  | .ok a =>
    let period := word16 p0 p1
    let onLength := word16 o0 o1
    require (decide (2 ≤ period ∧ period ≤ 1440)) (base + 9) <|
    require (decide (1 ≤ onLength ∧ onLength + 1 ≤ period)) (base + 11) (.ok (.cycle a period onLength))

/-- The length of a definition by its kind code: 9 for DAILY, 14 for DATED, 13 for CYCLE. -/
def definitionLength (code : Nat) : Option Nat :=
  if code = 0 then some 9 else if code = 1 then some 14 else if code = 2 then some 13 else none

/-- The kind code and then the length of a command whose definition begins at parameter byte `base` (R187, R191). -/
def requireDefinitionLength {α : Type} (kp : Byte) (length base : Nat) (k : Except Nat α) : Except Nat α :=
  match definitionLength (highNibble kp) with
  | none => .error base
  | some n => require (decide (length = base + n)) (lengthIndex length (base + n)) k

/-- The definition that begins at parameter byte `base`, its kind and length already checked (R191). -/
def readDefinition (ps : List Byte) (base : Nat) : Except Nat ProgDef :=
  match ps.drop base with
  | [kp, cl, t0, t1, days, on0, on1, off0, off1] =>
    requireTargets t0 t1 base ((readDaily days on0 on1 off0 off1 base).map (sharedDef kp cl t0 t1))
  | [kp, cl, t0, t1, y, mo, d, m0, m1, y', mo', d', m0', m1'] =>
    requireTargets t0 t1 base
      ((readDated (readStamp y mo d m0 m1 (base + 4)) (readStamp y' mo' d' m0' m1' (base + 9)) base).map
        (sharedDef kp cl t0 t1))
  | [kp, cl, t0, t1, y, mo, d, m0, m1, p0, p1, o0, o1] =>
    requireTargets t0 t1 base
      ((readCycle (readStamp y mo d m0 m1 (base + 4)) p0 p1 o0 o1 base).map (sharedDef kp cl t0 t1))
  | _ => .error ps.length

/-- CREATE PROGRAM's parameters: whether the record is created DISABLED, and its definition (R191, R192). A frame too short to
hold the kind fails the length check (R187). -/
def readCreateProgram (ps : List Byte) : Except Nat (Bool × ProgDef) :=
  match ps with
  | options :: kp :: _ =>
    requireDefinitionLength kp ps.length 1 <|
    (readDefinition ps 1).map fun d => (options.getLsbD 0, d)
  | [] | [_] => .error ps.length

/-- EDIT PROGRAM's parameters, checked in the order of R193: the handle and the generation, then the definition, whose kind
code is checked before the length (R191). A frame too short to hold the kind fails the length check (R187).
DEDUCED, notes/assumptions/14.md. -/
def readEditProgram (ps : List Byte) : Except Nat (Name 96 × ProgDef) :=
  match ps with
  | h :: g :: kp :: _ =>
    match readNameBytes 96 h g with
    | .ok n =>
      requireDefinitionLength kp ps.length 2 <|
      (readDefinition ps 2).map fun d => (n, d)
    | .error e => .error e
  | [] | [_] | [_, _] => .error ps.length

/-- LIST PROGRAMS's parameters: the cursor and the epoch the host saw (R197). -/
def readListPrograms (ps : List Byte) : Except Nat (Nat × BitVec 16) :=
  match ps with
  | [c, e0, e1] => require (decide (c.toNat ≤ 96)) 0 (.ok (c.toNat, e1 ++ e0))
  | _ => .error (lengthIndex ps.length 3)

/-! ### Overrides -/

/-- Minutes of 1 to 1440. -/
def minutesInRange (m : Nat) : Bool := decide (1 ≤ m ∧ m ≤ 1440)

/-- CREATE OVERRIDE's parameters (R198). -/
def readCreateOverride (ps : List Byte) : Except Nat Creation :=
  match ps with
  | [kl, c0, c1, m0, m1] =>
    let cs := wireSet c0 c1
    let make (d : Duration) : Creation := ⟨.host, lowNibble kl, cs, d⟩
    require (decide (highNibble kl ≤ 2)) 0 <|
    require (decide (cs ≠ 0)) 1 <|
    if highNibble kl = 0 then
      require (minutesInRange (word16 m0 m1)) 3 (.ok (make (.timed (word16 m0 m1))))
    else if highNibble kl = 1 then .ok (make .untilNext)
    else .ok (make .latched)
  | _ => .error (lengthIndex ps.length 5)

/-- EXTEND OVERRIDE's parameters (R199). -/
def readExtendOverride (ps : List Byte) : Except Nat (Name 16 × Nat) :=
  match ps with
  | [h, g, m0, m1] =>
    match readNameBytes 16 h g with
    | .ok n => require (minutesInRange (word16 m0 m1)) 2 (.ok (n, word16 m0 m1))
    | .error e => .error e
  | _ => .error (lengthIndex ps.length 4)

/-- RELEASE CHANNELS's parameters (R201). -/
def readChannelSet (ps : List Byte) : Except Nat ChanSet :=
  match ps with
  | [c0, c1] => require (decide (wireSet c0 c1 ≠ 0)) 0 (.ok (wireSet c0 c1))
  | _ => .error (lengthIndex ps.length 2)

/-- The two forms of READ OVERRIDES, told apart by length (R202). -/
inductive OverridesQuery where
  | page (first : OvrIdx)
  | single (name : Name 16)
  deriving DecidableEq, Repr

/-- READ OVERRIDES's parameters (R202). -/
def readOverridesQuery (ps : List Byte) : Except Nat OverridesQuery :=
  match ps with
  | [f] => (readHandle 16 f 0).map .page
  | [h, g] => (readNameBytes 16 h g).map .single
  | _ => .error (lengthIndex ps.length 2)

/-- SET RESUME POLICY's parameter (R215). -/
def readResumePolicy (ps : List Byte) : Except Nat ResumePolicy :=
  match readByte ps with
  | .ok b => if b = 0 then .ok .keep else if b = 1 then .ok .drop else .error 0
  | .error e => .error e

/-! ### Channels and groups -/

/-- A group code: 0 none, 1 to 4 A to D (R183). -/
def groupOfCode (code : Nat) : Option Group :=
  if code = 0 then none else some (Group.ofIdx (Fin.ofNat 4 (code - 1)))

/-- What CONFIGURE CHANNEL carries (R203). -/
structure ChannelConfig where
  chan : Chan
  kind : ChanKind
  group : Option Group
  queueClass : QueueClass
  deriving DecidableEq, Repr

/-- CONFIGURE CHANNEL's parameters (R203). -/
def readConfigureChannel (ps : List Byte) : Except Nat ChannelConfig :=
  match ps with
  | [c, b] =>
    match readChanByte c 0 with
    | .ok ch =>
      let code := b.toNat / 8 % 8
      require (decide (code ≤ 4)) 1
        (.ok ⟨ch, if b.getLsbD 7 then .dimmed else .switch, groupOfCode code, if b.getLsbD 6 then .first else .normal⟩)
    | .error e => .error e
  | _ => .error (lengthIndex ps.length 2)

/-- What SET CHANNEL TIMING carries (R204). -/
structure ChannelTiming where
  chan : Chan
  minOn : Byte
  minOff : Byte
  ramp : Fin 16
  retry : Fin 4
  deriving DecidableEq, Repr

/-- SET CHANNEL TIMING's parameters (R204). -/
def readChannelTiming (ps : List Byte) : Except Nat ChannelTiming :=
  match ps with
  | [c, on, off, r, t] =>
    match readChanByte c 0, asFin 16 r.toNat 3, asFin 4 t.toNat 4 with
    | .ok ch, .ok ramp, .ok retry => .ok ⟨ch, on, off, ramp, retry⟩
    | .error e, _, _ => .error e
    | .ok _, .error e, _ => .error e
    | .ok _, .ok _, .error e => .error e
  | _ => .error (lengthIndex ps.length 5)

/-- SET FALLBACK's parameters (R205). -/
def readFallback (ps : List Byte) : Except Nat (Chan × Level) :=
  match ps with
  | [c, l] => (readChanByte c 0).map fun ch => (ch, lowNibble l)
  | _ => .error (lengthIndex ps.length 2)

/-- A channel as the one parameter (R206, R207). -/
def readChan (ps : List Byte) : Except Nat Chan :=
  match readByte ps with
  | .ok b => readChanByte b 0
  | .error e => .error e

/-- CONFIGURE GROUP's parameters (R208). -/
def readConfigureGroup (ps : List Byte) : Except Nat (Group × Byte) :=
  match ps with
  | [g, gap] => require (decide (1 ≤ g.toNat ∧ g.toNat ≤ 4)) 0 (.ok (Group.ofIdx (Fin.ofNat 4 (g.toNat - 1)), gap))
  | _ => .error (lengthIndex ps.length 2)

/-! ### Gates -/

/-- CONFIGURE GATE's parameters (R211). -/
def readConfigureGate (ps : List Byte) : Except Nat (GateIdx × GateConfig) :=
  match ps with
  | [g, e, low, high, d] =>
    match asFin 4 g.toNat 0 with
    | .ok gate =>
      require (decide (low.toNat ≤ 254)) 2 <|
      require (decide (1 ≤ high.toNat ∧ low.toNat < high.toNat)) 3 <|
      require (decide (1 ≤ d.toNat ∧ d.toNat ≤ 15)) 4
        (.ok (gate, ⟨e.getLsbD 7, low, high, Fin.ofNat 16 d.toNat⟩))
    | .error e => .error e
  | _ => .error (lengthIndex ps.length 5)

/-- A gate mode's code (R185). -/
def gateModeOfCode (b : Byte) (index : Nat) : Except Nat GateMode :=
  if b = 0 then .ok .auto else if b = 1 then .ok .forcedLow else if b = 2 then .ok .forcedHigh else .error index

/-- SET GATE MODE's parameters (R212). -/
def readGateMode (ps : List Byte) : Except Nat (GateIdx × GateMode) :=
  match ps with
  | [g, m] =>
    match asFin 4 g.toNat 0, gateModeOfCode m 1 with
    | .ok gate, .ok mode => .ok (gate, mode)
    | .error e, _ => .error e
    | .ok _, .error e => .error e
  | _ => .error (lengthIndex ps.length 2)

/-! ### Keys -/

/-- An action's code: `none` for NONE (R185). -/
def actionOfCode (code index : Nat) : Except Nat (Option KeyAction) :=
  if code = 0 then .ok none
  else if code = 1 then .ok (some .toggle)
  else if code = 2 then .ok (some .on)
  else if code = 3 then .ok (some .off)
  else if code = 4 then .ok (some .release)
  else .error index

/-- A binding's duration from its code and its minutes; only TIMED reads the minutes (R147, R213). -/
def readDuration (code minutes : Nat) : Except Nat Duration :=
  if code = 1 then require (minutesInRange minutes) 5 (.ok (.timed minutes))
  else if code = 2 then .ok .untilNext
  else if code = 3 then .ok .latched
  else .error 4

/-- BIND KEY's parameters, checked in the order of R147 (R213). -/
def readBindKey (ps : List Byte) : Except Nat (KeyIdx × Option Binding) :=
  match ps with
  | [k, al, c0, c1, dk, m0, m1] =>
    match readHandle 8 k 0, actionOfCode (highNibble al) 1 with
    | .ok key, .ok none => .ok (key, none)
    | .ok key, .ok (some action) =>
      require (decide (wireSet c0 c1 ≠ 0)) 2 <|
      require (decide (lowNibble al ≠ 0)) 1 <|
      (readDuration (highNibble dk) (word16 m0 m1)).map fun d => (key, some ⟨action, wireSet c0 c1, lowNibble al, d⟩)
    | .error e, _ => .error e
    | .ok _, .error e => .error e
  | _ => .error (lengthIndex ps.length 7)

/-- READ KEY BINDING's parameter (R214). -/
def readKey (ps : List Byte) : Except Nat KeyIdx :=
  match readByte ps with
  | .ok b => readHandle 8 b 0
  | .error e => .error e

/-- SET ATTENTION MASK's parameters: bits 10 to 15 are ignored (R186, R215). -/
def readMask (ps : List Byte) : Except Nat (BitVec 10) :=
  match ps with
  | [m0, m1] => .ok (BitVec.setWidth 10 (m1 ++ m0))
  | _ => .error (lengthIndex ps.length 2)

end Sys2Proof.Machine
end

