-- ==== Sys2Proof/Machine/Programs.lean ====
section
/-! DEFINITION. The Program Table (02_the_program_table.md): windows, evaluation, retirement, and the events the record
store takes on it. -/

namespace Sys2Proof.Machine

/-! ### Windows -/

/-- The present time lies in one of the record's windows (R21 to R23). -/
def Timing.inWindow (t : Timing) (now : Stamp) : Bool :=
  match t with
  | .daily days on off =>
    let wd := weekday now.year now.month now.day
    let today := days.getLsbD wd
    let yesterday := days.getLsbD ((wd + 6) % 7)
    if on < off then today && decide (on ≤ now.minute) && decide (now.minute < off)
    else (today && decide (on ≤ now.minute)) || (yesterday && decide (now.minute < off))
  | .dated start stop => start.atOrBefore now && now.before stop
  | .cycle anchor period onLength =>
    anchor.atOrBefore now && decide (minutesBetween anchor now % period < onLength)

/-- A DATED record's end stamp is at or before the present time (R35); no other record passes the test. -/
def Timing.ended (t : Timing) (now : Stamp) : Bool :=
  match t with
  | .dated _ stop => stop.atOrBefore now
  | .daily _ _ _ | .cycle _ _ _ => false

/-! ### Evaluation -/

/-- The state a gate must be in for a sense (R20). -/
def Sense.gateState : Sense → GateState
  | .low => .low
  | .high => .high

/-- A record's condition is absent or satisfied by the gate's state as the gate unit holds it (R20). -/
def ProgDef.satisfied (d : ProgDef) (gates : Vector GateWork 4) : Bool :=
  match d.condition with
  | none => true
  | some c => decide (gates[c.gate].state = c.sense.gateState)

/-- What an evaluation judges a record against: the run count of the step, the present time, the clock validity and the
gates (R25). -/
structure Present where
  runCount : RunCount
  time : Stamp
  valid : Bool
  gates : Vector GateWork 4

/-- The present as the state holds it. -/
def State.present (s : State) : Present := ⟨s.runCount, s.cal.present, s.ret.clockValid, s.gates⟩

/-- The activation stamp of a record that comes out ACTIVE: the one it had if it was ACTIVE, otherwise the run count of
the step (R26). -/
def ProgState.activate (old : ProgState) (now : RunCount) : ProgState :=
  match old with
  | .active since => .active since
  | .disabled | .untimed | .waiting | .suppressed => .active now

/-- The state of an enabled record under a definition (R25). -/
def ProgDef.judge (d : ProgDef) (p : Present) (old : ProgState) : ProgState :=
  if !p.valid then .untimed
  else if !d.timing.inWindow p.time then .waiting
  else if !d.satisfied p.gates then .suppressed
  else old.activate p.runCount

/-- Evaluating a record; a DISABLED record stays DISABLED (R25). -/
def ProgRec.evaluate (r : ProgRec) (p : Present) : ProgRec :=
  if r.state = .disabled then r else { r with state := r.defn.judge p r.state }

/-! ### Slots -/

/-- A slot becomes FREE: its generation advances and its last retirement reason is set (R17). -/
def ProgSlot.free (s : ProgSlot) (reason : ProgReason) : ProgSlot := ⟨none, s.gen + 1, reason⟩

/-- The definition of a slot's record while it is ACTIVE: what the slot contributes to resolution (R83). -/
def ProgSlot.activeDef (s : ProgSlot) : Option ProgDef :=
  match s.live with
  | some r => match r.state with
    | .active _ => some r.defn
    | .disabled | .untimed | .waiting | .suppressed => none
  | none => none

/-- The slot's record passes the retirement test (R35). -/
def ProgSlot.ended (s : ProgSlot) (now : Stamp) : Bool :=
  match s.live with
  | some r => r.defn.timing.ended now
  | none => false

/-- The channels one slot names in an event's request, from its contents before and after the event (R34). -/
def ProgSlot.concern (before after : ProgSlot) : ChanSet :=
  match before.activeDef, after.activeDef with
  | none, none => 0
  | some d, none => d.targets
  | none, some e => e.targets
  | some d, some e =>
    if d.level = e.level ∧ d.priority = e.priority ∧ d.targets = e.targets then 0 else d.targets ||| e.targets

/-- The channels an event names in its one request, each once (R34). -/
def concerned (before after : Vector ProgSlot 96) : ChanSet :=
  (List.finRange 96).foldl (fun acc i => acc ||| ProgSlot.concern before[i] after[i]) 0

/-- The record store's table becomes `t`, and the event's request is handed on (R34). -/
def State.setPrograms (t : Vector ProgSlot 96) (s : State) : State :=
  (s.setRet { s.ret with programs := t }).request (concerned s.ret.programs t)

/-- One slot's contents are replaced in an event of its own. -/
def State.setProgram (i : ProgIdx) (x : ProgSlot) (s : State) : State :=
  s.setPrograms (s.ret.programs.set i x)

/-! ### Events that evaluate the table -/

/-- The retirement test is made on every DATED record while the validity carried is VALID (R27, R28, R35). -/
def retires (p : Present) (x : ProgSlot) : Bool := p.valid && x.ended p.time

/-- One slot at an event that tests and evaluates the whole table. -/
def ProgSlot.retireOrEvaluate (x : ProgSlot) (p : Present) : ProgSlot :=
  if retires p x then x.free .ended else { x with live := x.live.map fun r => r.evaluate p }

/-- The handles that retire at an event. -/
def retiring (p : Present) (t : Vector ProgSlot 96) : BitVec 96 :=
  (List.finRange 96).foldl (fun acc i => if retires p t[i] then acc ||| BitVec.twoPow 96 i.val else acc) 0

/-- How many records retire at an event. -/
def retiringCount (p : Present) (t : Vector ProgSlot 96) : Nat :=
  ((List.finRange 96).filter fun i => retires p t[i]).length

/-- A minute boundary or a time set, judged against `p`: retirements with their flags and epoch advances, then every
remaining record's evaluation, then one request (R27, R28, R34, R35). -/
def State.evaluateTable (p : Present) (s : State) : State :=
  let t := s.ret.programs
  let s := s.setPrograms (tab fun i => t[i].retireOrEvaluate p)
  (s.advanceEpoch (retiringCount p t)).raisePrograms (retiring p t)

/-- The record store takes a minute boundary (R27). -/
def State.takeBoundary (b : Boundary) (s : State) : State :=
  s.evaluateTable ⟨s.runCount, b.time, b.valid, s.gates⟩

/-- The record store takes the oldest minute boundary handed on, if there is one. -/
def State.takeOldestBoundary (s : State) : State :=
  match s.mail.boundaries with
  | [] => s
  | b :: rest => { s with mail := { s.mail with boundaries := rest } }.takeBoundary b

/-- The record store takes every minute boundary handed on, oldest first: a boundary handed on before a time set is taken
before it (R6, R41). -/
def State.takeBoundaries (s : State) : State :=
  s.mail.boundaries.foldl (fun s b => s.takeBoundary b) { s with mail := { s.mail with boundaries := [] } }

/-- The record store takes a time set, against the calendar as set and with the clock VALID (R28). -/
def State.takeTimeSet (s : State) : State := s.evaluateTable s.present

/-- The record store takes a gate change report: every record that is not DISABLED and whose condition names the gate is
evaluated (R29). -/
def State.takeGateReport (g : GateIdx) (s : State) : State :=
  let p := s.present
  let t := s.ret.programs
  s.setPrograms (tab fun i =>
    match t[i].live with
    | some r => match r.defn.condition with
      | some c => if c.gate = g then { t[i] with live := some (r.evaluate p) } else t[i]
      | none => t[i]
    | none => t[i])

/-! ### Commands on one record -/

/-- The lowest-numbered FREE slot (R18). -/
def freeProgram (t : Vector ProgSlot 96) : Option ProgIdx :=
  (List.finRange 96).find? fun i => t[i].live.isNone

/-- A new record in a slot: created DISABLED, or enabled and evaluated at once (R18). -/
def newRecord (d : ProgDef) (disabled : Bool) (p : Present) : ProgRec :=
  if disabled then ⟨d, .disabled⟩ else (ProgRec.mk d .untimed).evaluate p

/-- CREATE PROGRAM's change in a FREE slot (R18). -/
def State.createProgram (i : ProgIdx) (d : ProgDef) (disabled : Bool) (s : State) : State :=
  let x : ProgSlot := ⟨some (newRecord d disabled s.present), s.ret.programs[i].gen, .none⟩
  (s.setProgram i x).advanceEpoch 1

/-- EDIT PROGRAM's change of a live record (R32). -/
def State.editProgram (i : ProgIdx) (r : ProgRec) (d : ProgDef) (s : State) : State :=
  let x := s.ret.programs[i]
  (s.setProgram i { x with live := some (ProgRec.evaluate ⟨d, r.state⟩ s.present) }).advanceEpoch 1

/-- ENABLE PROGRAM's change of a live record (R30). -/
def State.enableProgram (i : ProgIdx) (r : ProgRec) (s : State) : State :=
  if r.state = .disabled then
    let x := s.ret.programs[i]
    (s.setProgram i { x with live := some (ProgRec.evaluate ⟨r.defn, .untimed⟩ s.present) }).advanceEpoch 1
  else s

/-- DISABLE PROGRAM's change of a live record (R31). -/
def State.disableProgram (i : ProgIdx) (r : ProgRec) (s : State) : State :=
  if r.state = .disabled then s
  else
    let x := s.ret.programs[i]
    (s.setProgram i { x with live := some { r with state := .disabled } }).advanceEpoch 1

/-- DELETE PROGRAM's change of a live record (R33). -/
def State.deleteProgram (i : ProgIdx) (s : State) : State :=
  (s.setProgram i (s.ret.programs[i].free .deleted)).advanceEpoch 1

/-! ### Warm start -/

/-- A record that is ACTIVE takes the resumption instant as its stamp (R43). -/
def ProgSlot.restamp (x : ProgSlot) (now : RunCount) : ProgSlot :=
  { x with live := x.live.map fun r =>
      match r.state with
      | .active _ => { r with state := .active now }
      | .disabled | .untimed | .waiting | .suppressed => r }

/-- The record store's part of a warm start on the Program Table: retirements, evaluations and equal stamps (R43). The
request is absorbed into the full resolution (R61, R97). -/
def State.warmPrograms (s : State) : State :=
  let p := s.present
  let t := s.ret.programs
  let s := s.setRet { s.ret with
    programs := tab fun i => (t[i].retireOrEvaluate p).restamp p.runCount }
  (s.advanceEpoch (retiringCount p t)).raisePrograms (retiring p t)

end Sys2Proof.Machine
end

