-- ==== Sys2Proof/Machine/Overrides.lean ====
section
/-! DEFINITION. The Override Table (03_overrides.md): withdrawal, retirement, creation, expiry, and settlement at a warm
start. -/

namespace Sys2Proof.Machine

/-! ### One slot -/

/-- A slot becomes FREE: its generation advances and its last retirement reason is set (R51). -/
def OvrSlot.free (x : OvrSlot) (reason : OvrReason) : OvrSlot := ⟨none, x.gen + 1, reason⟩

/-- The channels a slot's live record holds. -/
def OvrSlot.channels (x : OvrSlot) : ChanSet :=
  match x.live with
  | some r => r.channels
  | none => 0

/-- Channels leave a record's set, and an UNTIL-NEXT record's baselines for them leave its list (R50). -/
def OvrRec.withdraw (r : OvrRec) (cs : ChanSet) : OvrRec :=
  { r with
    channels := r.channels &&& ~~~cs
    kind := match r.kind with
      | .untilNext bs => .untilNext (bs.filter fun b => !cs.getLsbD b.1.val)
      | .timed start minutes => .timed start minutes
      | .latched => .latched }

/-- The named channels are withdrawn from the slot's record; a record left empty retires with the operation's reason
(R50). -/
def OvrSlot.withdraw (x : OvrSlot) (cs : ChanSet) (reason : OvrReason) : OvrSlot :=
  match x.live with
  | none => x
  | some r =>
    if r.channels &&& cs = 0 then x
    else if r.channels &&& ~~~cs = 0 then x.free reason
    else { x with live := some (r.withdraw cs) }

/-- The record's timer has elapsed at a run count (R53); only a TIMED record has one. -/
def OvrRec.expired (r : OvrRec) (now : RunCount) : Bool :=
  match r.kind with
  | .timed start minutes => elapsed now start (minutes * 600)
  | .untilNext _ | .latched => false

/-- A TIMED record's expiry on the run count: the timer start plus the length (R6, R48). -/
def expiryOf (start : RunCount) (minutes : Nat) : RunCount := start + BitVec.ofNat 32 (minutes * 600)

/-! ### Operations on the table -/

/-- How many records one operation shrinks or retires. -/
def changedCount (before after : Vector OvrSlot 16) : Nat :=
  ((List.finRange 16).filter fun i => decide (before[i] ≠ after[i])).length

/-- The slots that one operation frees. -/
def freedSlots (before after : Vector OvrSlot 16) : BitVec 16 :=
  chansWhere fun i => before[i].live.isSome && after[i].live.isNone

/-- The channels that left live records in one operation. -/
def leftChannels (before after : Vector OvrSlot 16) : ChanSet :=
  (List.finRange 16).foldl (fun acc i => acc ||| (before[i].channels &&& ~~~after[i].channels)) 0

/-- One operation of withdrawals and retirements: the epoch advances once for each record that shrinks or retires, and
each freed slot's OVERRIDE flag is raised (R38, R50, R51, R57). -/
def State.settleOverrides (t : Vector OvrSlot 16) (s : State) : State :=
  let old := s.ret.overrides
  ((s.setRet { s.ret with overrides := t }).advanceEpoch (changedCount old t)).raiseOverrides (freedSlots old t)

/-- The table with the named channels withdrawn (R50). -/
def withdrawn (t : Vector OvrSlot 16) (cs : ChanSet) (reason : OvrReason) : Vector OvrSlot 16 :=
  tab fun i => t[i].withdraw cs reason

/-- The table with every live record that satisfies a test retired as a whole (R51). -/
def retiredWhole (t : Vector OvrSlot 16) (test : OvrIdx → OvrRec → Bool) (reason : OvrReason) : Vector OvrSlot 16 :=
  tab fun i => match t[i].live with
    | some r => if test i r then t[i].free reason else t[i]
    | none => t[i]

/-- An operation of withdrawals and retirements with its one request (R49). -/
def State.endOverrides (t : Vector OvrSlot 16) (s : State) : State :=
  let old := s.ret.overrides
  (s.settleOverrides t).request (leftChannels old t)

/-- The record store takes a release (R56). -/
def State.releaseChannels (cs : ChanSet) (s : State) : State :=
  s.endOverrides (withdrawn s.ret.overrides cs .cancelled)

/-- One live record retires as a whole (R51). -/
def State.retireOverride (i : OvrIdx) (reason : OvrReason) (s : State) : State :=
  s.endOverrides (retiredWhole s.ret.overrides (fun j _ => decide (j = i)) reason)

/-- CANCEL OVERRIDE's change of a live record (R55). -/
def State.cancelOverride (i : OvrIdx) (s : State) : State := s.retireOverride i .cancelled

/-- The record store takes the expiry of a TIMED record whose timer has elapsed (R53); an expiry that finds no such record
changes nothing (R59). -/
def State.expireOverride (i : OvrIdx) (s : State) : State :=
  match s.ret.overrides[i].live with
  | some r => if r.expired s.runCount then s.retireOverride i .expired else s
  | none => s

/-- EXTEND OVERRIDE's change of a live TIMED record (R54). -/
def State.extendOverride (i : OvrIdx) (r : OvrRec) (minutes : Nat) (s : State) : State :=
  let x := s.ret.overrides[i]
  (s.setRet { s.ret with
    overrides := s.ret.overrides.set i { x with live := some { r with kind := .timed s.runCount minutes } } }).advanceEpoch 1

/-! ### Creation (R48) -/

/-- The lowest-numbered FREE slot. -/
def freeOverride (t : Vector OvrSlot 16) : Option OvrIdx :=
  (List.finRange 16).find? fun i => t[i].live.isNone

/-- The kind of a new record: a TIMED record's timer starts at created-at, an UNTIL-NEXT record takes the verdicts the
resolver holds as its baselines (R48). -/
def Creation.kind (c : Creation) (now : RunCount) (results : Vector Resolution 16) : OvrKind :=
  match c.duration with
  | .timed minutes => .timed now minutes
  | .untilNext => .untilNext ((chansOf c.channels).map fun ch => (ch, results[ch].verdict))
  | .latched => .latched

/-- The record a creation places (R48). -/
def Creation.record (c : Creation) (now : RunCount) (results : Vector Resolution 16) : OvrRec :=
  ⟨c.origin, c.level, c.channels, c.kind now results, now⟩

/-- Placing a new record in a FREE slot: the slot keeps its generation and its reason becomes NONE (R44, R48). -/
def State.placeOverride (i : OvrIdx) (r : OvrRec) (s : State) : State :=
  let x : OvrSlot := ⟨some r, s.ret.overrides[i].gen, .none⟩
  (s.setRet { s.ret with overrides := s.ret.overrides.set i x }).advanceEpoch 1

/-- Steps 1 and 2 of a creation: supersession and the retirement of emptied records (R48). -/
def State.supersede (cs : ChanSet) (s : State) : State :=
  s.settleOverrides (withdrawn s.ret.overrides cs .superseded)

/-- The record store takes a valid creation request (R48). The live sets are disjoint and not empty, so a slot is always
FREE for a valid request; were none FREE, the record would not be placed. DEDUCED, notes/assumptions/20.md. -/
def State.createOverride (c : Creation) (s : State) : State :=
  let s := s.supersede c.channels
  match freeOverride s.ret.overrides with
  | some i => (s.placeOverride i (c.record s.runCount s.results)).request c.channels
  | none => s

/-! ### Verdict comparison (R52, R62) -/

/-- The channel's baseline in an UNTIL-NEXT record, if the record holds one for it. -/
def OvrRec.baseline (r : OvrRec) (ch : Chan) : Option Verdict :=
  match r.kind with
  | .untilNext bs => (bs.find? fun b => decide (b.1 = ch)).map (·.2)
  | .timed _ _ | .latched => none

/-- A channel's new verdict differs in source or level from the baseline of the UNTIL-NEXT record that holds it (R52). -/
def moved (t : Vector OvrSlot 16) (ch : Chan) (v : Verdict) : Bool :=
  (List.finRange 16).any fun i => match t[i].live with
    | some r => r.channels.getLsbD ch.val && (match r.baseline ch with
      | some b => decide (b ≠ v)
      | none => false)
    | none => false

/-- The record store settles reported verdicts as one operation: channels whose verdict differs from their baseline are
withdrawn, and emptied records retire PROGRAM-CHANGED (R52, R62). -/
def State.settleVerdicts (vs : List (Chan × Verdict)) (s : State) : State :=
  let cs := chansWhere fun ch => vs.any fun v => decide (v.1 = ch) && moved s.ret.overrides ch v.2
  s.endOverrides (withdrawn s.ret.overrides cs .programChanged)

/-- The record store's single comparison at a warm start under KEEP (R62). -/
def State.compareBaselines (s : State) : State :=
  match s.ret.resume with
  | .keep => s.settleVerdicts ((List.finRange 16).map fun ch => (ch, s.results[ch].verdict))
  | .drop => s

/-- The settlement of the table at a warm start (R61). The request is absorbed into the full resolution. -/
def State.warmOverrides (s : State) : State :=
  match s.ret.resume with
  | .drop => s.settleOverrides (retiredWhole s.ret.overrides (fun _ _ => true) .restart)
  | .keep => s.settleOverrides (retiredWhole s.ret.overrides (fun _ r => r.expired s.runCount) .expired)

end Sys2Proof.Machine
end

