-- ==== Sys2Proof/Machine/Resolver.lean ====
section
/-! DEFINITION. The resolver (05_resolution_and_interlock_groups.md): candidates, ranking, group arbitration, and what
each event hands on. -/

namespace Sys2Proof.Machine

/-! ### Candidates and ranking (R83 to R85) -/

/-- An ACTIVE program as a candidate. -/
structure ProgCand where
  slot : ProgIdx
  gen : Gen
  priority : Fin 8
  level : Level
  stamp : RunCount
  deriving DecidableEq, Repr

/-- An override as a candidate. -/
structure OvrCand where
  slot : OvrIdx
  gen : Gen
  level : Level
  origin : Origin
  deriving DecidableEq, Repr

/-- A candidate for a channel (R83). -/
inductive Candidate where
  | override (c : OvrCand)
  | program (c : ProgCand)
  | fallback (level : Level)
  deriving DecidableEq, Repr

/-- The source a candidate stands for. -/
def Candidate.source : Candidate → Source
  | .override c => .override c.slot c.gen
  | .program c => .program c.slot c.gen
  | .fallback _ => .fallback

/-- A candidate's rank (R83). -/
def Candidate.rank : Candidate → Rank
  | .override _ => .override
  | .program c => .program c.priority
  | .fallback _ => .fallback

/-- The level a candidate asks for. -/
def Candidate.level : Candidate → Level
  | .override c => c.level
  | .program c => c.level
  | .fallback l => l

/-- Ranks as numbers in the order of strength: the fallback below 0, then 0 to 7, then 8. -/
def Rank.strength : Rank → Nat
  | .fallback => 0
  | .program p => p.val + 1
  | .override => 9

/-- The override candidates of a channel: the live records whose set holds it, of which there is at most one (R83). -/
def overrideCands (t : Vector OvrSlot 16) (ch : Chan) : List Candidate :=
  (List.finRange 16).filterMap fun i => match t[i].live with
    | some r => if r.channels.getLsbD ch.val then some (.override ⟨i, t[i].gen, r.level, r.origin⟩) else none
    | none => none

/-- The program candidates of a channel in handle order: the ACTIVE records whose targets hold it (R83). -/
def programCands (t : Vector ProgSlot 96) (ch : Chan) : List ProgCand :=
  (List.finRange 96).filterMap fun i => match t[i].live with
    | some r => match r.state with
      | .active since =>
        if r.defn.targets.getLsbD ch.val then some ⟨i, t[i].gen, r.defn.priority, r.defn.level, since⟩ else none
      | .disabled | .untimed | .waiting | .suppressed => none
    | none => none

/-- A stamp's age at the present run count (R84). -/
def age (now stamp : RunCount) : Nat := (now - stamp).toNat

/-- Program `a` stands before program `b`: higher priority, then the later stamp (the smaller age), then the lower handle
(R84). -/
def ProgCand.standsBefore (now : RunCount) (a b : ProgCand) : Bool :=
  decide (b.priority < a.priority ∨ (a.priority = b.priority ∧ (age now a.stamp < age now b.stamp ∨
    (age now a.stamp = age now b.stamp ∧ a.slot < b.slot))))

/-- Placing a program in an ordered list of programs. -/
def insertProg (now : RunCount) (c : ProgCand) : List ProgCand → List ProgCand
  | [] => [c]
  | d :: rest => if c.standsBefore now d then c :: d :: rest else d :: insertProg now c rest

/-- The programs in the order of R84. -/
def sortProgs (now : RunCount) (cs : List ProgCand) : List ProgCand := cs.foldr (insertProg now) []

/-- A channel's candidates with the override left out, in the order of R84; the fallback stands last. -/
def programRanking (s : State) (ch : Chan) : List Candidate :=
  (sortProgs s.runCount (programCands s.ret.programs ch)).map .program ++ [.fallback (s.chan ch).fallback]

/-- The ranking of a channel's candidates (R84). -/
def ranking (s : State) (ch : Chan) : List Candidate :=
  overrideCands s.ret.overrides ch ++ programRanking s ch

/-- The first candidate of a ranking, which always holds the fallback. -/
def firstOf (cs : List Candidate) (fallback : Level) : Candidate := cs.headD (.fallback fallback)

/-- The program-only verdict (R85). -/
def verdictOf (s : State) (ch : Chan) : Verdict :=
  let c := firstOf (programRanking s ch) (s.chan ch).fallback
  ⟨c.source, c.level⟩

/-- A channel ranked afresh: its governing source, rank, resolved level and verdict (R85). Its effective target and mark
stand until arbitration. -/
def rankAfresh (s : State) (ch : Chan) (r : Resolution) : Resolution :=
  let c := firstOf (ranking s ch) (s.chan ch).fallback
  { r with source := c.source, rank := c.rank, level := c.level, verdict := verdictOf s ch }

/-! ### Group arbitration (R86, R87) -/

/-- The contenders of a group: the members whose resolved level is not 0, in channel order (R86). -/
def contenders (s : State) (res : Vector Resolution 16) (g : Group) : List Chan :=
  (List.finRange 16).filter fun ch => decide ((s.chan ch).group = some g ∧ res[ch].level ≠ 0)

/-- Contender `b` beats contender `a` of a lower channel number: by rank, then by a non-zero applied level (R86). -/
def beats (s : State) (res : Vector Resolution 16) (a b : Chan) : Bool :=
  decide (res[a].rank.strength < res[b].rank.strength ∨
    (res[a].rank.strength = res[b].rank.strength ∧ s.sw[a].applied = 0 ∧ s.sw[b].applied ≠ 0))

/-- The strongest contender after `a` of a list in channel order. -/
def strongest (s : State) (res : Vector Resolution 16) : Chan → List Chan → Chan
  | a, [] => a
  | a, b :: rest => strongest s res (if beats s res a b then b else a) rest

/-- A group's holder (R86). -/
def arbitrate (s : State) (res : Vector Resolution 16) (g : Group) : Option Chan :=
  match contenders s res g with
  | [] => none
  | a :: rest => some (strongest s res a rest)

/-- A channel's effective target and INHIBITED mark (R87). -/
def settleTarget (s : State) (holders : Vector (Option Chan) 4) (ch : Chan) (r : Resolution) : Resolution :=
  match (s.chan ch).group with
  | none => { r with target := r.level, inhibited := false }
  | some g =>
    if holders[g.idx] = some ch then { r with target := r.level, inhibited := false }
    else { r with target := 0, inhibited := decide (r.level ≠ 0) }

/-! ### Events (R89 to R92) -/

/-- What an event recomputes: the channels ranked afresh, the groups arbitrated, and a channel whose target is computed
though neither covers it (a channel that has just left a group, R78). -/
structure Scope where
  ranked : ChanSet
  groups : List Group
  also : ChanSet
  deriving DecidableEq, Repr

/-- The groups that have a channel of the set as a member (R89). -/
def groupsOf (s : State) (cs : ChanSet) : List Group :=
  Group.all.filter fun g => (chansOf cs).any fun ch => decide ((s.chan ch).group = some g)

/-- The results with the event's channels ranked afresh. -/
def rankedResults (s : State) (sc : Scope) : Vector Resolution 16 :=
  tab fun ch => if sc.ranked.getLsbD ch.val then rankAfresh s ch s.results[ch] else s.results[ch]

/-- The holders with the event's groups arbitrated. -/
def arbitratedHolders (s : State) (sc : Scope) : Vector (Option Chan) 4 :=
  tab fun i => if Group.ofIdx i ∈ sc.groups then arbitrate s (rankedResults s sc) (Group.ofIdx i) else s.holders[i]

/-- The event computes the channel's effective target: it is ranked, named beside, or a member of a group arbitrated
(R89). -/
def inScope (s : State) (sc : Scope) (ch : Chan) : Bool :=
  sc.ranked.getLsbD ch.val || sc.also.getLsbD ch.val || match (s.chan ch).group with
    | some g => decide (g ∈ sc.groups)
    | none => false

/-- The results an event of the resolver reaches (R89). -/
def resolved (s : State) (sc : Scope) : Vector Resolution 16 :=
  tab fun ch =>
    let r := (rankedResults s sc)[ch]
    if inScope s sc ch then settleTarget s (arbitratedHolders s sc) ch r else r

/-- The hand-off of an event: every channel whose effective target changed, with the new one, in ascending order (R90). -/
def handOffOf (before after : Vector Resolution 16) : List (Chan × Level) :=
  ((List.finRange 16).filter fun ch => decide (before[ch].target ≠ after[ch].target)).map fun ch =>
    (ch, after[ch].target)

/-- The verdict report of an event: every channel whose verdict changed, with the new one (R91). -/
def verdictReportOf (before after : Vector Resolution 16) : List (Chan × Verdict) :=
  ((List.finRange 16).filter fun ch => decide (before[ch].verdict ≠ after[ch].verdict)).map fun ch =>
    (ch, after[ch].verdict)

/-- The channels whose governing source changed (R92). -/
def sourceChanges (before after : Vector Resolution 16) : ChanSet :=
  chansWhere fun ch => decide (before[ch].source ≠ after[ch].source)

/-- The resolver takes an event: it recomputes what the event concerns, then hands on one hand-off, one verdict report and
the CHANNEL flags (R89 to R92). -/
def State.resolve (sc : Scope) (s : State) : State :=
  let after := resolved s sc
  (({ s with results := after, holders := arbitratedHolders s sc }.postHandOff (handOffOf s.results after)).postVerdicts
    (verdictReportOf s.results after)).raiseChannels (sourceChanges s.results after)

/-- The event of a re-resolution request (R89). -/
def State.takeRequest (cs : ChanSet) (s : State) : State := s.resolve ⟨cs, groupsOf s cs, 0⟩

/-- The event of an applied-level report: the members' groups are arbitrated (R88). -/
def State.takeLevelReport (cs : ChanSet) (s : State) : State := s.resolve ⟨0, groupsOf s cs, 0⟩

/-- SET FALLBACK's change, and its event (R80). -/
def State.setFallback (ch : Chan) (l : Level) (s : State) : State :=
  (s.setChanRec ch { s.chan ch with fallback := l }).takeRequest (BitVec.twoPow 16 ch.val)

/-- The groups a change of membership arbitrates: the one left and the one joined, each that is not none (R78). -/
def membershipGroups (left joined : Option Group) : List Group := left.toList ++ joined.toList

/-- CONFIGURE CHANNEL's change; a change of group is an event of its own (R77, R78). -/
def State.configureChannel (ch : Chan) (kind : ChanKind) (group : Option Group) (cls : QueueClass) (s : State) : State :=
  let left := (s.chan ch).group
  let s := s.setChanRec ch { s.chan ch with kind := kind, group := group, queueClass := cls }
  if left = group then s else s.resolve ⟨0, membershipGroups left group, BitVec.twoPow 16 ch.val⟩

/-! ### Warm start (R97) -/

/-- The scope of a warm start: every channel and every group (R97). -/
def Scope.whole : Scope := ⟨BitVec.allOnes 16, Group.all, 0⟩

/-- The resolver's part of a warm start: every channel and group afresh, with no verdict report and no CHANNEL flag. -/
def State.resolveAfresh (s : State) : State :=
  { s with results := resolved s .whole, holders := arbitratedHolders s .whole }

/-- The warm start's hand-off: every channel whose effective target is not 0 (R97). -/
def warmHandOff (res : Vector Resolution 16) : List (Chan × Level) :=
  ((List.finRange 16).filter fun ch => decide (res[ch].target ≠ 0)).map fun ch => (ch, res[ch].target)

end Sys2Proof.Machine
end

