-- ==== Sys2Proof/Machine/Sequencer.lean ====
section
/-! DEFINITION. The switching sequencer and the Switching Queue (06_the_switching_sequencer_and_the_switching_queue.md),
and the output stage's states FAULTED and LOCKED where the two meet (07_output_stage_and_load_faults.md). -/

namespace Sys2Proof.Machine

/-! ### One channel -/

/-- A channel goes to a switching state; a change of state or of HOLD reason raises its CHANNEL flag (R116). -/
def State.goTo (ch : Chan) (st : SwState) (s : State) : State :=
  if s.sw[ch].state = st then s else (s.setSw ch { s.sw[ch] with state := st }).raiseChannel ch

/-- The applied level of a driven channel becomes another non-zero level; the output stage drives it (R115). -/
def State.apply (ch : Chan) (l : Level) (s : State) : State := s.setSw ch { s.sw[ch] with applied := l }

/-- A ramp stops (R112). -/
def State.stopRamp (ch : Chan) (s : State) : State := s.setSw ch { s.sw[ch] with ramping := false }

/-- A ramp step begins: the ramp stamp is set to the present run count (R113). -/
def State.beginRampStep (ch : Chan) (ramping : Bool) (s : State) : State :=
  s.setSw ch { s.sw[ch] with rampStamp := s.runCount, ramping := ramping }

/-- The changeover stamp of a channel's group, if it is a member of one, is set to the present run count (R105). -/
def State.stampGroup (ch : Chan) (s : State) : State :=
  match (s.chan ch).group with
  | some g => s.setGap g ⟨s.runCount, false⟩
  | none => s

/-- A channel drops from a non-zero applied level to 0: its off stamp and its group's changeover stamp are made, any ramp
stops (R112), the clean-run timer stops (R131) and the overcurrent filter falls to 0 (R129). -/
def State.drop (ch : Chan) (s : State) : State :=
  let s := s.setSw ch { s.sw[ch] with applied := 0, offStamp := s.runCount, minOffPast := false, ramping := false }
  (s.setFault ch { s.faults[ch] with cleanRunning := false, filterTime := 0 }).stampGroup ch

/-- A channel enters OFF from a non-zero applied level (R112). -/
def State.switchOff (ch : Chan) (s : State) : State := (s.drop ch).goTo ch .off

/-- The channel ramps: it is DIMMED with a non-zero ramp step (R113). -/
def ramps (r : ChanRec) : Bool := decide (r.kind = .dimmed ∧ r.ramp ≠ 0)

/-- The channel's min-on timer has elapsed (R99). -/
def State.minOnElapsed (s : State) (ch : Chan) : Bool :=
  elapsedOrPast s.sw[ch].minOnPast s.runCount s.sw[ch].admStamp ((s.chan ch).minOn.toNat * 10)

/-- The channel's min-off timer has elapsed (R99). -/
def State.minOffElapsed (s : State) (ch : Chan) : Bool :=
  elapsedOrPast s.sw[ch].minOffPast s.runCount s.sw[ch].offStamp ((s.chan ch).minOff.toNat * 10)

/-- The group's changeover gap has elapsed (R99, R105). -/
def State.gapElapsed (s : State) (g : Group) : Bool :=
  elapsedOrPast s.gapStamps[g.idx].past s.runCount s.gapStamps[g.idx].stamp s.ret.gaps[g.idx].toNat

/-- The stagger timer has elapsed (R99, R109). -/
def State.staggerElapsed (s : State) : Bool :=
  elapsedOrPast s.staggerPast s.runCount s.lastAdm s.ret.stagger.toNat

/-- The ramp timer of a channel has elapsed; it has no long-past mark (R99). -/
def State.rampElapsed (s : State) (ch : Chan) : Bool :=
  elapsed s.runCount s.sw[ch].rampStamp (s.chan ch).ramp.val

/-- The end of a channel's drive once its min-on has elapsed: FADING for a channel that ramps, OFF for any other (R102,
R111). DEDUCED, notes/assumptions/12.md. -/
def State.endDrive (ch : Chan) (s : State) : State :=
  if ramps (s.chan ch) then (s.beginRampStep ch false).goTo ch .fading else s.switchOff ch

/-- A channel in ON heads for a level: at once, or by a ramp that runs on or starts; a level equal to the applied one ends
a ramp (R102, R113). -/
def State.headFor (ch : Chan) (l : Level) (s : State) : State :=
  if ramps (s.chan ch) then
    if s.sw[ch].applied = l then s.stopRamp ch
    else if s.sw[ch].ramping then s
    else s.beginRampStep ch true
  else (s.apply ch l).stopRamp ch

/-! ### The Switching Queue (R106 to R109) -/

/-- Where an entry is placed: FIRST after every FIRST entry and before every NORMAL one, NORMAL after every entry
(R107). -/
def placeEntry (q : List QueueEntry) (e : QueueEntry) : List QueueEntry :=
  match e.queueClass with
  | .first => q.filter (fun x => decide (x.queueClass = .first)) ++ e ::
      q.filter (fun x => decide (x.queueClass ≠ .first))
  | .normal => q ++ [e]

/-- A channel goes to QUEUED and enters the Switching Queue with its queue class and its target (R106, R107). -/
def State.enqueue (ch : Chan) (s : State) : State :=
  { s with queue := placeEntry s.queue ⟨ch, (s.chan ch).queueClass, s.sw[ch].target⟩ }.goTo ch .queued

/-- A channel's entry is removed and the entries behind it close up (R108). -/
def State.dequeue (ch : Chan) (s : State) : State :=
  { s with queue := s.queue.filter fun e => decide (e.chan ≠ ch) }

/-- A channel's entry takes another level in place (R108). -/
def State.relevel (ch : Chan) (l : Level) (s : State) : State :=
  { s with queue := s.queue.map fun e => if e.chan = ch then { e with level := l } else e }

/-- The level an admission starts a channel at: 1 below a higher target on a channel that ramps, otherwise the entry's
level (R109). -/
def admissionLevel (r : ChanRec) (l : Level) : Level := if ramps r && decide (1 < l) then 1 else l

/-- A channel that has left the queue is admitted: ON at its admission level, the min-on dwell, the stagger timer and the
clean-run timer start, and a ramp starts below a higher level (R109, R113, R131). -/
def State.admitEntry (e : QueueEntry) (s : State) : State :=
  let ch := e.chan
  let l := admissionLevel (s.chan ch) e.level
  let s := s.setSw ch { s.sw[ch] with
    applied := l, admStamp := s.runCount, minOnPast := false,
    rampStamp := if l = e.level then s.sw[ch].rampStamp else s.runCount, ramping := decide (l ≠ e.level) }
  let s := s.setFault ch { s.faults[ch] with cleanRunning := true }
  { s with lastAdm := s.runCount, staggerPast := false }.goTo ch .on

/-- The head is admitted while the stagger timer has elapsed; with a stagger interval of 0 the queue empties in one step
(R109). The number bounds the admissions. -/
def State.admitUpTo : Nat → State → State
  | 0, s => s
  | n + 1, s =>
    match s.queue with
    | [] => s
    | e :: rest => if s.staggerElapsed then State.admitUpTo n ({ s with queue := rest }.admitEntry e) else s

/-- The test for admission (R109). -/
def State.admitDue (s : State) : State := s.admitUpTo s.queue.length

/-! ### Eligibility (R103) -/

/-- A channel is a member of a group. -/
def State.memberOf (s : State) (ch : Chan) (g : Group) : Bool := decide ((s.chan ch).group = some g)

/-- A group is busy for a member while another member has a non-zero applied level or the changeover gap has not
elapsed (R103). -/
def State.groupBusy (s : State) (ch : Chan) (g : Group) : Bool :=
  (List.finRange 16).any (fun o => decide (o ≠ ch ∧ s.sw[o].applied ≠ 0) && s.memberOf o g) || !s.gapElapsed g

/-- The channel's group, if it is a member of one, is busy for it. -/
def State.blockedByGroup (s : State) (ch : Chan) : Bool :=
  match (s.chan ch).group with
  | some g => s.groupBusy ch g
  | none => false

/-- The eligibility tests, in their order (R103). -/
def State.testEligible (ch : Chan) (s : State) : State :=
  if s.allOff then s.goTo ch (.hold .allOff)
  else if !s.minOffElapsed ch then s.goTo ch (.hold .dwell)
  else if s.blockedByGroup ch then s.goTo ch (.hold .group)
  else s.enqueue ch

/-- The channels of a list that satisfy a test as the state then stands make the eligibility tests, one after another. -/
def State.retest (test : State → Chan → Bool) (chs : List Chan) (s : State) : State :=
  chs.foldl (fun s ch => if test s ch then s.testEligible ch else s) s

/-! ### Events of the sequencer -/

/-- The group members whose applied level changed between 0 and non-zero (R115). -/
def levelChanges (before after : State) : ChanSet :=
  chansWhere fun ch => (before.chan ch).group.isSome &&
    decide ((before.sw[ch].applied = 0) ≠ (after.sw[ch].applied = 0))

/-- The channel at the head of the queue. -/
def State.head (s : State) : Option Chan := s.queue.head?.map (·.chan)

/-- An event brings the test for admission: another channel, or none, has come to the head (R108, R109), or a channel has
entered the queue (R107). -/
def admissionTested (before after : State) : Bool :=
  decide (after.head ≠ before.head) || after.queue.any fun e => before.queue.all fun x => decide (x.chan ≠ e.chan)

/-- An event of the sequencer, taken whole: its change, then the test for admission where the event brings one (R107,
R108, R109), then one applied-level report (R115). DEDUCED, notes/assumptions/10.md. -/
def sequencerEvent (f : State → State) (s : State) : State :=
  let t := f s
  let u := if admissionTested s t then t.admitDue else t
  u.postLevels (levelChanges s u)

/-- A new target 0 reaches a channel (R101, R102). -/
def State.targetZero (ch : Chan) (s : State) : State :=
  match s.sw[ch].state with
  | .off => s
  | .hold _ => s.goTo ch .off
  | .queued => (s.dequeue ch).goTo ch .off
  | .on => if s.minOnElapsed ch then s.endDrive ch else (s.stopRamp ch).goTo ch .ending
  | .ending | .fading | .faulted | .locked => s

/-- A new non-zero target reaches a channel (R101, R102). -/
def State.targetNonZero (ch : Chan) (l : Level) (s : State) : State :=
  match s.sw[ch].state with
  | .off => s.testEligible ch
  | .hold _ => s
  | .queued => s.relevel ch l
  | .on => s.headFor ch l
  | .ending | .fading => (s.goTo ch .on).headFor ch l
  | .faulted | .locked => s

/-- Recording a hand-off's targets (R100). -/
def State.recordTargets (ts : List (Chan × Level)) (s : State) : State :=
  ts.foldl (fun s t => s.setSw t.1 { s.sw[t.1] with target := t.2 }) s

/-- A hand-off's first pass: the channels that go to 0 (R100). -/
def State.passZero (ts : List (Chan × Level)) (s : State) : State :=
  ts.foldl (fun s t => if t.2 = 0 then s.targetZero t.1 else s) s

/-- A hand-off's second pass: the channels that rise or change level (R100). -/
def State.passNonZero (ts : List (Chan × Level)) (s : State) : State :=
  ts.foldl (fun s t => if t.2 = 0 then s else s.targetNonZero t.1 t.2) s

/-- The sequencer takes a hand-off, whose channels stand in ascending order (R100). -/
def State.takeHandOff (ts : List (Chan × Level)) (s : State) : State :=
  sequencerEvent (fun s => ((s.recordTargets ts).passZero ts).passNonZero ts) s

/-! ### Timer expiries -/

/-- The expiry of the stagger timer (R109). -/
def State.staggerExpiry (s : State) : State := sequencerEvent State.admitDue s

/-- The end of a min-on wait, where the channel is ENDING and its min-on has elapsed (R111). -/
def State.endMinOn (ch : Chan) (s : State) : State :=
  if s.sw[ch].state = .ending ∧ s.minOnElapsed ch then s.endDrive ch else s

/-- The end of a min-off wait, where the channel is in HOLD(DWELL) and its min-off has elapsed (R104). -/
def State.endMinOff (ch : Chan) (s : State) : State :=
  if s.sw[ch].state = .hold .dwell ∧ s.minOffElapsed ch then s.testEligible ch else s

/-- The end of a group's changeover gap, where it has elapsed: every member in HOLD(GROUP) makes the tests again
(R104). -/
def State.endGap (g : Group) (s : State) : State :=
  if s.gapElapsed g then
    s.retest (fun s ch => s.memberOf ch g && decide (s.sw[ch].state = .hold .group)) (List.finRange 16)
  else s

/-- One level toward a target. -/
def towards (l target : Level) : Level := if l < target then l + 1 else if target < l then l - 1 else l

/-- One ramp step of a channel in ON: one level toward the target, and the next step begins unless it is reached (R113). -/
def State.rampStep (ch : Chan) (s : State) : State :=
  let l := towards s.sw[ch].applied s.sw[ch].target
  let s := s.apply ch l
  if l = s.sw[ch].target then s.stopRamp ch else s.beginRampStep ch true

/-- One step of a channel in FADING: one level down, and OFF from level 1 (R114). -/
def State.fadeStep (ch : Chan) (s : State) : State :=
  if s.sw[ch].applied ≤ 1 then s.switchOff ch
  else (s.apply ch (s.sw[ch].applied - 1)).beginRampStep ch false

/-- The end of a ramp step, where the channel is ramping or FADING and its ramp timer has elapsed (R113, R114). -/
def State.endRampStep (ch : Chan) (s : State) : State :=
  if s.rampElapsed ch then
    match s.sw[ch].state with
    | .on => if s.sw[ch].ramping then s.rampStep ch else s
    | .fading => s.fadeStep ch
    | .off | .hold _ | .queued | .ending | .faulted | .locked => s
  else s

/-- A ramp step of 0 completes a ramp or a fade at once (R113, R114). -/
def State.completeRamp (ch : Chan) (s : State) : State :=
  match s.sw[ch].state with
  | .on => if s.sw[ch].ramping then (s.apply ch s.sw[ch].target).stopRamp ch else s
  | .fading => s.switchOff ch
  | .off | .hold _ | .queued | .ending | .faulted | .locked => s

/-- A long-past mark is set once the difference from the start stamp has reached the timer's greatest length (R99). -/
def State.markLongPast (t : LongPastTimer) (s : State) : State :=
  match t with
  | .minOn ch =>
    if elapsed s.runCount s.sw[ch].admStamp Config.longestDwell then s.setSw ch { s.sw[ch] with minOnPast := true } else s
  | .minOff ch =>
    if elapsed s.runCount s.sw[ch].offStamp Config.longestDwell then s.setSw ch { s.sw[ch] with minOffPast := true } else s
  | .gap g =>
    if elapsed s.runCount s.gapStamps[g.idx].stamp Config.longestGap then
      s.setGap g { s.gapStamps[g.idx] with past := true }
    else s
  | .stagger => if elapsed s.runCount s.lastAdm Config.longestGap then { s with staggerPast := true } else s

/-! ### Commands that change a length -/

/-- SET STAGGER's change: a head whose stagger timer is found elapsed under the new interval is admitted (R110). -/
def State.setStagger (interval : Byte) (s : State) : State :=
  (s.setRet { s.ret with stagger := interval }).staggerExpiry

/-- CONFIGURE GROUP's change: a running gap that the new length finds elapsed, which can only be a shorter one, expires in
that step; a gap that had elapsed already is not found so again (R81, R99, R105, R208). DEDUCED,
notes/assumptions/13.md. -/
def State.configureGroup (g : Group) (gap : Byte) (s : State) : State :=
  let t := s.setRet { s.ret with gaps := s.ret.gaps.set g.idx gap }
  if s.gapElapsed g then t else sequencerEvent (State.endGap g) t

/-- The expiries that a record changed from `old` brings for one channel: a shortened dwell or ramp step found elapsed, and
a ramp step of 0 (R99, R104, R111, R113, R114). DEDUCED, notes/assumptions/13.md. -/
def State.retime (ch : Chan) (old : ChanRec) (s : State) : State :=
  let r := s.chan ch
  let s := if r.minOn < old.minOn then s.endMinOn ch else s
  let s := if r.minOff < old.minOff then s.endMinOff ch else s
  if r.ramp = 0 then s.completeRamp ch else if r.ramp < old.ramp then s.endRampStep ch else s

/-- SET CHANNEL TIMING's change (R79, R204). -/
def State.setChannelTiming (ch : Chan) (minOn minOff : Byte) (ramp : Fin 16) (retry : Fin 4) (s : State) : State :=
  sequencerEvent (State.retime ch (s.chan ch))
    (s.setChanRec ch { s.chan ch with minOn := minOn, minOff := minOff, ramp := ramp, retry := retry })

/-! ### The ALL-OFF condition (R118 to R120) -/

/-- The entry of the ALL-OFF condition for one channel (R119). -/
def State.forceOff (ch : Chan) (s : State) : State :=
  match s.sw[ch].state with
  | .on | .ending | .fading =>
    (s.drop ch).goTo ch (if s.sw[ch].target = 0 then .off else .hold .allOff)
  | .queued | .hold _ => s.goTo ch (.hold .allOff)
  | .off | .faulted | .locked => s

/-- The entry of the ALL-OFF condition (R119). -/
def State.enterAllOff (s : State) : State :=
  (List.finRange 16).foldl (fun s ch => s.forceOff ch) { s with queue := [] }.raiseAllOff

/-- The release of the ALL-OFF condition: every channel in HOLD(ALL-OFF) makes the tests (R120). -/
def State.leaveAllOff (s : State) : State :=
  s.raiseAllOff.retest (fun s ch => decide (s.sw[ch].state = .hold .allOff)) (List.finRange 16)

/-- The pin's level as taken or the host latch changes; a change that moves the condition brings its entry or its release
(R118). -/
def State.allOffInput (f : State → State) (s : State) : State :=
  sequencerEvent (fun s =>
    let t := f s
    if s.allOff = t.allOff then t else if t.allOff then t.enterAllOff else t.leaveAllOff) s

/-- A change of the ALL-OFF# pin is taken (R118). -/
def State.takePin (asserted : Bool) (s : State) : State := s.allOffInput fun s => { s with pinTaken := asserted }

/-- The host latch is set or cleared (R118). -/
def State.setLatch (b : Bool) (s : State) : State := s.allOffInput fun s => s.setRet { s.ret with hostLatch := b }

/-! ### Starts -/

/-- A switching record at a warm start: OFF, but for a LOCKED channel, with its stamps at the resumption instant (R126,
R140). -/
def Switching.warm (w : Switching) (locked : Bool) (now : RunCount) : Switching :=
  { w with
    state := if locked then .locked else .off, target := 0, applied := 0, admStamp := now, minOnPast := false,
    offStamp := now, minOffPast := false, ramping := false }

/-- The sequencer's warm values (R126). -/
def State.warmSequencer (s : State) : State :=
  { s with
    sw := tab fun ch => s.sw[ch].warm s.ret.locks[ch] s.runCount
    gapStamps := tabConst 4 ⟨s.runCount, false⟩
    queue := []
    lastAdm := s.runCount
    staggerPast := false }

end Sys2Proof.Machine
end

