-- ==== Sys2Proof/Machine/Output.lean ====
section
/-! DEFINITION. The output stage (07_output_stage_and_load_faults.md): drives, overcurrents, FAULTED and LOCKED. -/

namespace Sys2Proof.Machine

/-! ### Drives (R127) -/

/-- How an output is driven: how many fifteenths of each 5 ms period the driver is on; 15 is on throughout.
DESIGN CHOICE, notes/assumptions/18.md. -/
def State.drive (s : State) (ch : Chan) : Level :=
  if s.sup.state = .running then
    match (s.chan ch).kind with
    | .switch => if s.sw[ch].applied = 0 then 0 else 15
    | .dimmed => s.sw[ch].applied
  else 0

/-! ### Faults (R130 to R134) -/

/-- The channel is driven: ON, ENDING or FADING (R98). -/
def SwState.driven : SwState → Bool
  | .on | .ending | .fading => true
  | .off | .hold _ | .queued | .faulted | .locked => false

/-- A fault count raised by one fault, capped at the retry limit plus one (R130). -/
def raisedCount (count : Nat) (retry : Fin 4) : Nat := min (count + 1) (retry.val + 1)

/-- The channel goes to LOCKED with its lock set, or to FAULTED (R130). -/
def State.restOrLock (ch : Chan) (s : State) : State :=
  if (s.chan ch).retry.val < s.faults[ch].count then (s.setLock ch true).goTo ch .locked else s.goTo ch .faulted

/-- The output stage takes an overcurrent report of a driven channel; a report for a channel that is not driven changes
nothing (R130). -/
def State.takeOvercurrent (ch : Chan) (s : State) : State :=
  if s.sw[ch].state.driven then
    sequencerEvent (fun s =>
      let s := s.setFault ch
        { s.faults[ch] with count := raisedCount s.faults[ch].count (s.chan ch).retry, stamp := some s.runCount }
      ((s.drop ch).restOrLock ch).raiseFault ch) s
  else s

/-- A channel leaves FAULTED or LOCKED for OFF, with no new off stamp, and makes the eligibility tests if its target is
not 0 (R132, R134). -/
def State.handBack (ch : Chan) (s : State) : State :=
  let s := s.goTo ch .off
  if s.sw[ch].target = 0 then s else s.testEligible ch

/-- The retry timer of a FAULTED channel has elapsed, from the fault stamp (R128, R132).
DEDUCED, notes/assumptions/19.md. -/
def State.retryElapsed (s : State) (ch : Chan) : Bool :=
  decide (s.sw[ch].state = .faulted) && match s.faults[ch].stamp with
    | some t => elapsed s.runCount t Config.retryDelay
    | none => false

/-- The expiry of a retry timer; an expiry that finds no FAULTED channel with its delay elapsed changes nothing (R132). -/
def State.retryExpiry (ch : Chan) (s : State) : State :=
  if s.retryElapsed ch then sequencerEvent (State.handBack ch) s else s

/-- The clean-run timer of a channel has elapsed, from the admission stamp (R131). DEDUCED, notes/assumptions/19.md. -/
def State.cleanElapsed (s : State) (ch : Chan) : Bool :=
  s.faults[ch].cleanRunning && elapsed s.runCount s.sw[ch].admStamp Config.cleanRun

/-- The expiry of a clean-run timer: the fault count becomes 0 and the timer is finished until the next admission
(R131). -/
def State.cleanExpiry (ch : Chan) (s : State) : State :=
  if s.cleanElapsed ch then s.setFault ch { s.faults[ch] with count := 0, cleanRunning := false } else s

/-- CLEAR FAULT's change (R134). -/
def State.clearFault (ch : Chan) (s : State) : State :=
  let s := s.setFault ch { s.faults[ch] with count := 0 }
  if s.sw[ch].state = .locked then sequencerEvent (fun s => (s.setLock ch false).handBack ch) s else s

/-! ### Starts -/

/-- The output stage's warm values: every count 0, no stamp, no timer; the locks are kept (R140). -/
def State.warmFaults (s : State) : State := { s with faults := tabConst 16 .cold }

end Sys2Proof.Machine
end

