-- ==== Sys2Proof/Machine/Reports.lean ====
section
/-! DEFINITION. The record and payload layouts (10_the_host_link_and_attention.md, R180 to R186): what READ and LIST commands
report. -/

namespace Sys2Proof.Machine

/-! ### Recurring encodings (R180) -/

/-- A number as one byte. -/
def byte (n : Nat) : Byte := BitVec.ofNat 8 n

/-- A byte of two 4-bit fields. -/
def nibbles (high low : Nat) : Byte := byte (high % 16 * 16 + low % 16)

/-- A bit of a byte. -/
def flagBit (i : Nat) (b : Bool) : Byte := if b then BitVec.twoPow 8 i else 0

/-- A 2-byte field, least significant byte first. -/
def bytes16 (n : Nat) : List Byte := [byte n, byte (n / 256)]

/-- A 4-byte field, least significant byte first. -/
def bytes32 (n : Nat) : List Byte := [byte n, byte (n / 256), byte (n / 65536), byte (n / 16777216)]

/-- A run-count stamp. -/
def stampBytes (t : RunCount) : List Byte := bytes32 t.toNat

/-- A calendar stamp. -/
def calendarStampBytes (t : Stamp) : List Byte := [byte (t.year - 2000), byte t.month, byte t.day] ++ bytes16 t.minute

/-- A channel set. -/
def setBytes (cs : ChanSet) : List Byte := bytes16 cs.toNat

/-- A source byte. -/
def Source.byte : Source → Byte
  | .fallback => 0
  | .program i _ => Machine.byte (i.val + 1)
  | .override i _ => Machine.byte (0x81 + i.val)

/-- A source's generation, 0 for the fallback. -/
def Source.gen : Source → Nat
  | .fallback => 0
  | .program _ g => g.val
  | .override _ g => g.val

/-- A source byte followed by its generation and level byte. -/
def sourceBytes (src : Source) (l : Level) : List Byte := [src.byte, nibbles src.gen l.val]

/-- A program state's code. -/
def ProgState.code : ProgState → Nat
  | .disabled => 1 | .untimed => 2 | .waiting => 3 | .suppressed => 4 | .active _ => 5

/-- A program's last retirement reason. -/
def ProgReason.code : ProgReason → Nat
  | .none => 0 | .deleted => 1 | .ended => 2

/-- An override's last retirement reason. -/
def OvrReason.code : OvrReason → Nat
  | .none => 0 | .expired => 1 | .programChanged => 2 | .cancelled => 3 | .superseded => 4 | .restart => 5

/-- An origin's code. -/
def Origin.code : Origin → Nat
  | .host => 0
  | .key k => k.val + 1

/-- A group's code: 0 none, 1 to 4 A to D. -/
def groupCode : Option Group → Nat
  | none => 0
  | some g => g.idx.val + 1

/-! ### Programs (R181) -/

/-- A kind's code. -/
def Timing.code : Timing → Nat
  | .daily _ _ _ => 0 | .dated _ _ => 1 | .cycle _ _ _ => 2

/-- The timing of a program record. -/
def Timing.bytes : Timing → List Byte
  | .daily days on off => [days.setWidth 8] ++ bytes16 on ++ bytes16 off
  | .dated start stop => calendarStampBytes start ++ calendarStampBytes stop
  | .cycle anchor period onLength => calendarStampBytes anchor ++ bytes16 period ++ bytes16 onLength

/-- The condition and level byte. -/
def conditionByte (c : Option Condition) (l : Level) : Byte :=
  match c with
  | none => byte l.val
  | some c => byte (128 + c.gate.val * 32 + (if c.sense = .high then 16 else 0) + l.val)

/-- The kind and priority byte. -/
def kindPriority (d : ProgDef) : Byte := nibbles d.timing.code d.priority.val

/-- A program definition: the record from byte 2 on. -/
def ProgDef.bytes (d : ProgDef) : List Byte :=
  [kindPriority d, conditionByte d.condition d.level] ++ setBytes d.targets ++ d.timing.bytes

/-- The generation and state byte of a slot: state code 0 for a FREE slot. -/
def ProgSlot.genState (x : ProgSlot) : Byte :=
  nibbles x.gen.val (match x.live with
    | some r => r.state.code
    | none => 0)

/-- A READ PROGRAM report: the record, then the activation stamp while ACTIVE. -/
def programReport (i : ProgIdx) (x : ProgSlot) (r : ProgRec) : List Byte :=
  [byte (i.val + 1), x.genState] ++ r.defn.bytes ++ match r.state with
    | .active since => stampBytes since
    | .disabled | .untimed | .waiting | .suppressed => []

/-- The live handles greater than a cursor, in ascending order, up to eight of them (R39). -/
def listed (t : Vector ProgSlot 96) (cursor : Nat) : List ProgIdx :=
  ((List.finRange 96).filter fun i => decide (cursor < i.val + 1) && t[i].live.isSome).take 8

/-- One entry of a LIST PROGRAMS page. -/
def listEntry (t : Vector ProgSlot 96) (i : ProgIdx) : List Byte :=
  match t[i].live with
  | some r => [byte (i.val + 1), t[i].genState, kindPriority r.defn]
  | none => []

/-- A LIST PROGRAMS page. -/
def programPage (epoch : BitVec 16) (t : Vector ProgSlot 96) (cursor : Nat) : List Byte :=
  let is := listed t cursor
  bytes16 epoch.toNat ++ [byte is.length] ++ (is.map (listEntry t)).flatten

/-! ### Overrides (R182) -/

/-- An override kind's code. -/
def OvrKind.code : OvrKind → Nat
  | .timed _ _ => 0 | .untilNext _ => 1 | .latched => 2

/-- Tenths as minutes, rounded up to a whole minute (R58). -/
def minutesUp (tenths : Nat) : Nat := (tenths + 599) / 600

/-- What a kind adds to a summary. DEDUCED, notes/assumptions/20.md. -/
def OvrKind.bytes (k : OvrKind) (now : RunCount) : List Byte :=
  match k with
  | .timed start minutes =>
    stampBytes (expiryOf start minutes) ++ bytes16 (minutesUp (remaining now start (minutes * 600)))
  | .untilNext bs => (bs.map fun b => sourceBytes b.2.source b.2.level).flatten
  | .latched => []

/-- An override summary. -/
def overrideSummary (i : OvrIdx) (x : OvrSlot) (now : RunCount) : List Byte :=
  match x.live with
  | some r =>
    [byte (i.val + 1), nibbles x.gen.val 1, byte r.origin.code, nibbles r.kind.code r.level.val] ++ setBytes r.channels
      ++ stampBytes r.createdAt ++ r.kind.bytes now
  | none => [byte (i.val + 1), nibbles x.gen.val 0, byte x.reason.code]

/-- The summaries of a page, as many as fit whole in the bytes left, and the first slot not reported (R182). -/
def fitSummaries (t : Vector OvrSlot 16) (now : RunCount) : List OvrIdx → Nat → List Byte × Nat
  | [], _ => ([], 0)
  | i :: rest, left =>
    let b := overrideSummary i t[i] now
    if b.length ≤ left then
      let r := fitSummaries t now rest (left - b.length)
      (b ++ r.1, r.2)
    else ([], i.val + 1)

/-- A READ OVERRIDES page (R182). -/
def overridePage (epoch : BitVec 16) (t : Vector OvrSlot 16) (now : RunCount) (first : OvrIdx) : List Byte :=
  let p := fitSummaries t now ((List.finRange 16).filter fun i => decide (first ≤ i)) (Config.maxPayload - 3)
  bytes16 epoch.toNat ++ [byte p.2] ++ p.1

/-! ### Channels (R183, R184) -/

/-- A rank's code. -/
def Rank.code : Rank → Nat
  | .fallback => 15
  | .program p => p.val
  | .override => 8

/-- A switching state's code. -/
def SwState.code : SwState → Nat
  | .off => 0 | .hold _ => 1 | .queued => 2 | .on => 3 | .ending => 4 | .fading => 5 | .faulted => 6 | .locked => 7

/-- A HOLD reason's code, 0 outside HOLD. -/
def SwState.holdCode : SwState → Nat
  | .hold .allOff => 1
  | .hold .dwell => 2
  | .hold .group => 3
  | .off | .queued | .on | .ending | .fading | .faulted | .locked => 0

/-- The holder of a channel's group, if it is in one and the group has one. -/
def State.holderOf (s : State) (ch : Chan) : Option Chan :=
  match (s.chan ch).group with
  | some g => s.holders[g.idx]
  | none => none

/-- A channel's position in the queue, counting the head as 1, and 0 when it is not QUEUED (R123). -/
def queuePosition (q : List QueueEntry) (ch : Chan) : Nat :=
  match q.findIdx? fun e => decide (e.chan = ch) with
  | some i => i + 1
  | none => 0

/-- The tenths of the changeover gap a member still waits (R123). -/
def State.gapRemaining (s : State) (ch : Chan) : Nat :=
  match (s.chan ch).group with
  | some g => remainingUnlessPast s.gapStamps[g.idx].past s.runCount s.gapStamps[g.idx].stamp s.ret.gaps[g.idx].toNat
  | none => 0

/-- The tenths of a FAULTED channel's retry delay still to run, 0 elsewhere (R138). -/
def State.retryRemaining (s : State) (ch : Chan) : Nat :=
  match s.sw[ch].state, s.faults[ch].stamp with
  | .faulted, some t => remaining s.runCount t Config.retryDelay
  | _, _ => 0

/-- The tenths of a running clean-run timer still to run, 0 elsewhere (R138). -/
def State.cleanRemaining (s : State) (ch : Chan) : Nat :=
  if s.faults[ch].cleanRunning then remaining s.runCount s.sw[ch].admStamp Config.cleanRun else 0

/-- A holder byte: present in bit 7, channel in bits 3 to 0. -/
def holderByte (h : Option Chan) (between : Nat) : Byte :=
  match h with
  | some c => byte (128 + between + c.val)
  | none => byte between

/-- The READ CHANNEL report, 28 bytes (R183). -/
def channelReport (s : State) (ch : Chan) : List Byte :=
  let r := s.chan ch
  let w := s.sw[ch]
  let x := s.results[ch]
  let f := s.faults[ch]
  [byte ch.val,
   flagBit 7 (decide (r.kind = .dimmed)) ||| flagBit 6 (decide (r.queueClass = .first)) ||| byte (groupCode r.group * 8),
   nibbles r.fallback.val r.ramp.val, r.minOn, r.minOff, nibbles r.retry.val f.count]
  ++ sourceBytes x.source x.level ++ [byte x.rank.code] ++ sourceBytes x.verdict.source x.verdict.level
  ++ [flagBit 7 x.inhibited ||| byte x.target.val, holderByte (s.holderOf ch) 0,
      nibbles w.state.code w.state.holdCode, nibbles w.target.val w.applied.val,
      flagBit 7 w.ramping ||| flagBit 6 s.ret.locks[ch] ||| flagBit 5 f.stamp.isSome ||| byte (queuePosition s.queue ch)]
  ++ bytes16 (remainingUnlessPast w.minOnPast s.runCount w.admStamp (r.minOn.toNat * 10))
  ++ bytes16 (remainingUnlessPast w.minOffPast s.runCount w.offStamp (r.minOff.toNat * 10))
  ++ [byte (s.gapRemaining ch)] ++ stampBytes (f.stamp.getD 0) ++ [byte (s.retryRemaining ch)]
  ++ bytes16 (s.cleanRemaining ch)

/-- One entry of the ranked list (R184). -/
def Candidate.bytes : Candidate → List Byte
  | .override c => sourceBytes (.override c.slot c.gen) c.level ++ [byte c.origin.code]
  | .program c => sourceBytes (.program c.slot c.gen) c.level ++ [byte c.priority.val] ++ stampBytes c.stamp
  | .fallback l => [0, byte l.val]

/-- The EXPLAIN CHANNEL payload (R94, R184). The verdict's entry is the first that is not the override. -/
def explainReport (s : State) (ch : Chan) : List Byte :=
  let cs := ranking s ch
  let x := s.results[ch]
  [flagBit 7 x.inhibited ||| byte (cs.length - 8), nibbles x.level.val x.target.val,
   byte ((overrideCands s.ret.overrides ch).length + 1),
   holderByte (s.holderOf ch) (groupCode (s.chan ch).group * 16)]
  ++ ((cs.take 8).map Candidate.bytes).flatten

/-! ### The remaining reports (R185) -/

/-- READ TIME, 13 bytes. -/
def timeReport (s : State) : List Byte :=
  let c := s.cal
  [byte (c.year - 2000), byte c.month, byte c.day, byte c.hour, byte c.minute, byte c.second, byte c.tenth,
   byte (weekday c.year c.month c.day + 1), flagBit 0 s.ret.clockValid] ++ stampBytes s.runCount

/-- One queue entry. -/
def QueueEntry.bytes (e : QueueEntry) : List Byte :=
  [flagBit 7 (decide (e.queueClass = .first)) ||| byte e.chan.val, byte e.level.val]

/-- The tenths before the head may be admitted: 0 once the stagger timer has elapsed or when the queue is empty (R122). -/
def State.headWait (s : State) : Nat :=
  if s.queue = [] then 0 else remainingUnlessPast s.staggerPast s.runCount s.lastAdm s.ret.stagger.toNat

/-- READ QUEUE, 8 bytes and 2 for each entry. -/
def queueReport (s : State) : List Byte :=
  [flagBit 0 s.allOff ||| flagBit 1 s.ret.hostLatch ||| flagBit 2 s.pinTaken ||| flagBit 3 s.staggerPast, s.ret.stagger]
  ++ stampBytes s.lastAdm ++ [byte s.headWait, byte s.queue.length] ++ (s.queue.map QueueEntry.bytes).flatten

/-- A gate mode's code. -/
def GateMode.code : GateMode → Nat
  | .auto => 0 | .forcedLow => 1 | .forcedHigh => 2

/-- A gate state's code. -/
def GateState.code : GateState → Nat
  | .disabled => 0 | .unknown => 1 | .low => 2 | .high => 3

/-- A direction's code. -/
def Direction.code : Direction → Nat
  | .none => 0 | .towardLow => 1 | .towardHigh => 2

/-- One gate's report, 5 bytes. -/
def gateReport (c : GateConfig) (w : GateWork) : List Byte :=
  [flagBit 7 c.enabled ||| byte (w.mode.code * 32) ||| byte (w.state.code * 8) ||| byte (w.direction.code * 2)
     ||| flagBit 0 w.sampleValid,
   c.low, c.high, nibbles c.debounce.val w.counter, w.sample]

/-- READ GATES, 20 bytes. -/
def gatesReport (s : State) : List Byte :=
  ((List.finRange 4).map fun g => gateReport s.ret.gates[g] s.gates[g]).flatten

/-- An action's code. -/
def KeyAction.code : KeyAction → Nat
  | .toggle => 1 | .on => 2 | .off => 3 | .release => 4

/-- A duration kind's code. -/
def Duration.code : Duration → Nat
  | .timed _ => 1 | .untilNext => 2 | .latched => 3

/-- A duration's minutes, 0 when absent. -/
def Duration.minutes : Duration → Nat
  | .timed m => m
  | .untilNext | .latched => 0

/-- A key state's code. -/
def KeyState.code : KeyState → Nat
  | .idle => 0 | .pressed _ => 1 | .long => 2

/-- The tenths a key's hold timer has run while PRESSED, 0 elsewhere (R152). -/
def KeyState.held (st : KeyState) (now : RunCount) : Nat :=
  match st with
  | .pressed since => (now - since).toNat
  | .idle | .long => 0

/-- READ KEY BINDING, 9 bytes. -/
def keyReport (s : State) (k : KeyIdx) : List Byte :=
  let r := s.keys[k]
  let (al, cs, dur, mins) : Byte × ChanSet × Nat × Nat := match s.ret.bindings[k] with
    | some b => (nibbles b.action.code b.level.val, b.channels, b.duration.code, b.duration.minutes)
    | none => (0, 0, 0, 0)
  [byte (k.val + 1), al] ++ setBytes cs ++ [nibbles dur r.state.code] ++ bytes16 mins
  ++ [flagBit 0 r.down ||| flagBit 1 s.ret.panelLocked, byte (r.state.held s.runCount)]

/-- The bytes of a word, least significant first. -/
def wordBytes (n : Nat) : Nat → List Byte
  | 0 => []
  | k + 1 => byte n :: wordBytes (n / 256) k

/-- READ ATTENTION, 20 bytes (R186). -/
def attentionReport (p : Pending) : List Byte :=
  wordBytes p.channel.toNat 2 ++ wordBytes p.fault.toNat 2 ++ wordBytes p.program.toNat 12 ++ wordBytes p.override.toNat 2
  ++ [byte p.gate.toNat ||| flagBit 4 p.clock ||| flagBit 5 p.start ||| flagBit 6 p.allOff ||| flagBit 7 p.response,
      flagBit 0 p.overrun ||| flagBit 1 p.framing]

end Sys2Proof.Machine
end

