-- ==== Sys2Proof/Machine/ExecGates.lean ====
section
/-! DEFINITION. The meanings of the gate unit's rows: CONVERTER_ROUND, CONFIGURE_GATE, SET_GATE_MODE, READ_GATES. -/

namespace Sys2Proof.Machine

/-- CONVERTER_ROUND (R63, R65 to R68). -/
def execConverterRound (a0 a1 a2 a3 : Byte) (s : State) (completed : Fin 5 := 4) : Host.Outcome State Fault Refusal :=
  .next (whileRunning (State.converterRound a0 a1 a2 a3 completed) s)

/-- CONFIGURE_GATE (R69, R211). -/
def execConfigureGate (s : State) : Host.Outcome State Fault Refusal :=
  .next (complete 0x40 (fun ps s =>
    checked (readConfigureGate ps) s fun (g, cfg) => answerOk (s.configureGate g cfg) []) s)

/-- The gate unit takes a SET GATE MODE; a DISABLED gate is answered NOT-PERMITTED (R70, R212). -/
def ownSetGateMode (ps : List Byte) (s : State) : Answer :=
  checked (readGateMode ps) s fun (g, m) =>
    if s.gates[g].state = .disabled then refuse s .notPermitted else answerOk (s.setGateMode g m) []

/-- SET_GATE_MODE (R70, R212). -/
def execSetGateMode (s : State) : Host.Outcome State Fault Refusal := .next (complete 0x41 ownSetGateMode s)

/-- READ_GATES (R72, R212). -/
def execReadGates (s : State) : Host.Outcome State Fault Refusal :=
  .next (complete 0x42 (fun ps s => checked (readNone ps) s fun _ => answerOk s (gatesReport s)) s)

end Sys2Proof.Machine
end

