-- ==== Sys2Proof/Machine/Keys.lean ====
section
/-! DEFINITION. The key panel (08_the_key_panel.md): debouncing, the key state machine, and what a key asks of the record
store. -/

namespace Sys2Proof.Machine

/-! ### Actions (R148, R149) -/

/-- Some bound channel has a non-zero effective target (R148). -/
def anyTarget (results : Vector Resolution 16) (cs : ChanSet) : Bool :=
  (chansOf cs).any fun ch => decide (results[ch].target ≠ 0)

/-- The creation a key hands on, at a level. -/
def Binding.creation (b : Binding) (k : KeyIdx) (level : Level) : KeyRequest :=
  .create ⟨.key k, level, b.channels, b.duration⟩

/-- The request of a key's short action (R148). -/
def Binding.shortAction (b : Binding) (k : KeyIdx) (results : Vector Resolution 16) : KeyRequest :=
  match b.action with
  | .on => b.creation k b.level
  | .off => b.creation k 0
  | .toggle => b.creation k (if anyTarget results b.channels then 0 else b.level)
  | .release => .release b.channels

/-- A key performs its short action: one request, none for the action NONE (R148). DEDUCED, notes/assumptions/9.md. -/
def State.shortAction (k : KeyIdx) (s : State) : State :=
  match s.ret.bindings[k] with
  | some b => s.postKeyRequest k (b.shortAction k s.results)
  | none => s

/-- A key performs its long action: a release of the bound channels, none for the action NONE (R149).
DEDUCED, notes/assumptions/9.md. -/
def State.longAction (k : KeyIdx) (s : State) : State :=
  match s.ret.bindings[k] with
  | some b => s.postKeyRequest k (.release b.channels)
  | none => s

/-! ### The key state machine (R144 to R146) -/

/-- A key goes to a state. -/
def State.setKeyState (k : KeyIdx) (st : KeyState) (s : State) : State := s.setKey k { s.keys[k] with state := st }

/-- The recognition of a press: an IDLE key on an unlocked panel goes to PRESSED (R144). -/
def State.recognisePress (k : KeyIdx) (s : State) : State :=
  match s.keys[k].state with
  | .idle => if s.ret.panelLocked then s else s.setKeyState k (.pressed s.runCount)
  | .pressed _ | .long => s

/-- The recognition of a release: a PRESSED key performs its short action; every key goes to IDLE (R145). -/
def State.recogniseRelease (k : KeyIdx) (s : State) : State :=
  match s.keys[k].state with
  | .pressed _ => (s.shortAction k).setKeyState k .idle
  | .long => s.setKeyState k .idle
  | .idle => s

/-- The debouncer takes a sample (R142): the key record after it, and whether the debounced level changed. -/
def debounce (r : KeyRec) (reading : Bool) : KeyRec × Bool :=
  if reading = r.down then ({ r with count := 0 }, false)
  else if r.count < 2 then ({ r with count := r.count + 1 }, false)
  else ({ r with down := reading, count := 0 }, true)

/-- One key takes a sample (R142). -/
def State.sampleKey (k : KeyIdx) (reading : Bool) (s : State) : State :=
  let d := debounce s.keys[k] reading
  let s := s.setKey k d.1
  if d.2 then (if reading then s.recognisePress k else s.recogniseRelease k) else s

/-- A sample of the eight inputs, taken for each key (R141). The keys do not touch one another, so the order in which they are
taken does not matter. -/
def State.keySample (pressed : BitVec 8) (s : State) : State :=
  (List.finRange 8).foldl (fun s k => s.sampleKey k (pressed.getLsbD k.val)) s

/-- The hold timer of a key in PRESSED has elapsed (R143). -/
def KeyState.heldLong (st : KeyState) (now : RunCount) : Bool :=
  match st with
  | .pressed since => elapsed now since Config.holdTime
  | .idle | .long => false

/-- The expiry of a key's hold timer; an expiry that finds no PRESSED key with its hold elapsed changes nothing (R146,
R151). -/
def State.holdExpiry (k : KeyIdx) (s : State) : State :=
  if s.keys[k].state.heldLong s.runCount then (s.longAction k).setKeyState k .long else s

/-! ### Commands -/

/-- BIND KEY's change (R147). -/
def State.bindKey (k : KeyIdx) (b : Option Binding) (s : State) : State :=
  s.setRet { s.ret with bindings := s.ret.bindings.set k b }

/-- SET PANEL LOCK's change: locking an unlocked panel returns every key to IDLE without action (R150). -/
def State.setPanelLock (locked : Bool) (s : State) : State :=
  let was := s.ret.panelLocked
  let s := s.setRet { s.ret with panelLocked := locked }
  if locked && !was then { s with keys := tab fun k => { s.keys[k] with state := .idle } } else s

end Sys2Proof.Machine
end

