-- ==== Sys2Proof/Machine/ExecKeys.lean ====
section
/-! DEFINITION. The meanings of the key panel's rows: KEY_SAMPLE, HOLD_TIMER_EXPIRY, BIND_KEY, READ_KEY_BINDING,
SET_PANEL_LOCK. -/

namespace Sys2Proof.Machine

/-- KEY_SAMPLE (R141, R142, R144, R145, R148). -/
def execKeySample (pressed : BitVec 8) (s : State) : Host.Outcome State Fault Refusal :=
  .next (whileRunning (State.keySample pressed) s)

/-- HOLD_TIMER_EXPIRY (R146, R149). -/
def execHoldTimerExpiry (k : KeyIdx) (s : State) : Host.Outcome State Fault Refusal :=
  .next (whileRunning (State.holdExpiry k) s)

/-- BIND_KEY (R147, R213). -/
def execBindKey (s : State) : Host.Outcome State Fault Refusal :=
  .next (complete 0x48 (fun ps s => checked (readBindKey ps) s fun (k, b) => answerOk (s.bindKey k b) []) s)

/-- READ_KEY_BINDING (R152, R214). -/
def execReadKeyBinding (s : State) : Host.Outcome State Fault Refusal :=
  .next (complete 0x49 (fun ps s => checked (readKey ps) s fun k => answerOk s (keyReport s k)) s)

/-- SET_PANEL_LOCK (R150, R214). -/
def execSetPanelLock (s : State) : Host.Outcome State Fault Refusal :=
  .next (complete 0x4A (fun ps s =>
    checked (readByte ps) s fun b => answerOk (s.setPanelLock (b.getLsbD 0)) []) s)

end Sys2Proof.Machine
end

