-- ==== Sys2Proof/Machine/ExecLink.lean ====
section
/-! DEFINITION. The meanings of the host link's and the attention unit's rows. -/

namespace Sys2Proof.Machine

/-- STATUS (R167, R168). -/
def execStatus (clocked : Nat) (s : State) (part : FirstByte := .whole) : Host.Outcome State Fault Refusal :=
  .next (transact part clocked (State.nameStatus clocked) s)

/-- COMMAND (R167, R170, R171). -/
def execCommand (bytes : List Byte) (s : State) (part : FirstByte := .whole) : Host.Outcome State Fault Refusal :=
  .next (transact part bytes.length (State.nameCommand bytes) s)

/-- FETCH (R167, R173, R174). -/
def execFetch (clocked : Nat) (s : State) (part : FirstByte := .whole) : Host.Outcome State Fault Refusal :=
  .next (transact part clocked (State.nameFetch clocked) s)

/-- FRAMING (R167, R169, R171). A first byte that names a transaction is no framing error, and changes nothing here. -/
def execFraming (cause : FramingCause) (s : State) : Host.Outcome State Fault Refusal :=
  match cause with
  | .firstByte b part clocked =>
    .next (if b = 0x00 ∨ b = 0xC3 ∨ b = 0x3C then s else transact part clocked (State.nameNone clocked) s)
  | .riseMidFrame => .next (whileRunning State.riseMidFrame s)

/-- TRANSACTION_END (R169, R171, R173). -/
def execTransactionEnd (s : State) : Host.Outcome State Fault Refusal := .next (whileRunning State.endTransaction s)

/-- The attention unit takes a READ ATTENTION: every pending flag is reported and exactly those are cleared (R179). -/
def ownReadAttention (ps : List Byte) (s : State) : Answer :=
  checked (readNone ps) s fun _ => answerOk { s with att := .none } (attentionReport s.att)

/-- READ_ATTENTION (R179, R216). -/
def execReadAttention (s : State) : Host.Outcome State Fault Refusal := .next (complete 0x54 ownReadAttention s)

/-- SET_ATTENTION_MASK (R178, R215). -/
def execSetAttentionMask (s : State) : Host.Outcome State Fault Refusal :=
  .next (complete 0x53 (fun ps s =>
    checked (readMask ps) s fun m => answerOk (s.setRet { s.ret with mask := m }) []) s)

end Sys2Proof.Machine
end

