-- ==== Sys2Proof/Machine/ExecOutput.lean ====
section
/-! DEFINITION. The meanings of the output stage's rows: OVERCURRENT_REPORT, RETRY_TIMER_EXPIRY, CLEAN_RUN_EXPIRY,
CLEAR_FAULT. -/

namespace Sys2Proof.Machine

/-- OVERCURRENT_REPORT (R130). -/
def execOvercurrentReport (ch : Chan) (s : State) : Host.Outcome State Fault Refusal :=
  .next (whileRunning (State.takeOvercurrent ch) s)

/-- RETRY_TIMER_EXPIRY (R132). -/
def execRetryTimerExpiry (ch : Chan) (s : State) : Host.Outcome State Fault Refusal :=
  .next (whileRunning (State.retryExpiry ch) s)

/-- CLEAN_RUN_EXPIRY (R131). -/
def execCleanRunExpiry (ch : Chan) (s : State) : Host.Outcome State Fault Refusal :=
  .next (whileRunning (State.cleanExpiry ch) s)

/-- CLEAR_FAULT (R134, R207). -/
def execClearFault (s : State) : Host.Outcome State Fault Refusal :=
  .next (complete 0x35 (fun ps s => checked (readChan ps) s fun ch => answerOk (s.clearFault ch) []) s)

end Sys2Proof.Machine
end

