-- ==== Sys2Proof/Machine/ExecPrograms.lean ====
section
/-! DEFINITION. The meanings of the Program Table's rows: CREATE_PROGRAM to LIST_PROGRAMS and GATE_CHANGE_REPORT. -/

namespace Sys2Proof.Machine

/-- How a handle and generation are judged against the slot as it stands (R16, R45). -/
inductive Judged (α : Type) where
  | stale
  | free
  | live (r : α)

/-- Judging a name against a slot's generation and record (R16, R45). -/
def judgeName {α : Type} (named present : Gen) (live : Option α) : Judged α :=
  if named ≠ present then .stale
  else match live with
    | none => .free
    | some r => .live r

/-- A program's name judged (R16). -/
def State.namedProgram (s : State) (n : Name 96) : Judged ProgRec :=
  judgeName n.gen s.ret.programs[n.slot].gen s.ret.programs[n.slot].live

/-- A command on a live program: STALE and NO-SUCH-RECORD are answered, a live record goes on (R16, R187). -/
def State.onProgram (s : State) (n : Name 96) (f : ProgRec → Answer) : Answer :=
  match s.namedProgram n with
  | .stale => refuse s .stale
  | .free => refuse s .noSuchRecord
  | .live r => f r

/-- The PAST test of a valid definition: made while the clock is VALID, against the calendar as it stands (R24). -/
def State.isPast (s : State) (d : ProgDef) : Bool := s.ret.clockValid && d.timing.ended s.cal.present

/-- The generation and state byte of a slot as a command leaves it. -/
def State.genStateOf (s : State) (i : ProgIdx) : Byte := s.ret.programs[i].genState

/-- The record store takes a CREATE PROGRAM (R18, R192). -/
def ownCreateProgram (ps : List Byte) (s : State) : Answer :=
  checked (readCreateProgram ps) s fun (disabled, d) =>
    if s.isPast d then refuse s .past
    else match freeProgram s.ret.programs with
      | none => refuse s .tableFull
      | some i =>
        let t := s.createProgram i d disabled
        answerOk t [byte (i.val + 1), t.genStateOf i]

/-- CREATE_PROGRAM (R18, R192). -/
def execCreateProgram (s : State) : Host.Outcome State Fault Refusal := .next (complete 0x10 ownCreateProgram s)

/-- The record store takes an EDIT PROGRAM (R32, R193). -/
def ownEditProgram (ps : List Byte) (s : State) : Answer :=
  checked (readEditProgram ps) s fun (n, d) =>
    s.onProgram n fun r =>
      if s.isPast d then refuse s .past
      else
        let t := s.editProgram n.slot r d
        answerOk t [t.genStateOf n.slot]

/-- EDIT_PROGRAM (R32, R193). -/
def execEditProgram (s : State) : Host.Outcome State Fault Refusal := .next (complete 0x11 ownEditProgram s)

/-- The record store takes a READ PROGRAM (R37, R194). -/
def ownReadProgram (ps : List Byte) (s : State) : Answer :=
  checked (readName 96 ps) s fun n =>
    match s.namedProgram n with
    | .stale => refuse s .stale
    | .free => ⟨s, .noSuchRecord, [byte s.ret.programs[n.slot].reason.code]⟩
    | .live r => answerOk s (programReport n.slot s.ret.programs[n.slot] r)

/-- READ_PROGRAM (R194). -/
def execReadProgram (s : State) : Host.Outcome State Fault Refusal := .next (complete 0x12 ownReadProgram s)

/-- The record store takes an ENABLE PROGRAM (R30, R195). -/
def ownEnableProgram (ps : List Byte) (s : State) : Answer :=
  checked (readName 96 ps) s fun n =>
    s.onProgram n fun r =>
      let t := s.enableProgram n.slot r
      answerOk t [t.genStateOf n.slot]

/-- ENABLE_PROGRAM (R30, R195). -/
def execEnableProgram (s : State) : Host.Outcome State Fault Refusal := .next (complete 0x13 ownEnableProgram s)

/-- The record store takes a DISABLE PROGRAM (R31, R195). -/
def ownDisableProgram (ps : List Byte) (s : State) : Answer :=
  checked (readName 96 ps) s fun n =>
    s.onProgram n fun r =>
      let t := s.disableProgram n.slot r
      answerOk t [t.genStateOf n.slot]

/-- DISABLE_PROGRAM (R31, R195). -/
def execDisableProgram (s : State) : Host.Outcome State Fault Refusal := .next (complete 0x14 ownDisableProgram s)

/-- The record store takes a DELETE PROGRAM; the response gives the slot's new generation (R33, R196). -/
def ownDeleteProgram (ps : List Byte) (s : State) : Answer :=
  checked (readName 96 ps) s fun n =>
    s.onProgram n fun _ =>
      let t := s.deleteProgram n.slot
      answerOk t [byte t.ret.programs[n.slot].gen.val]

/-- DELETE_PROGRAM (R33, R196). -/
def execDeleteProgram (s : State) : Host.Outcome State Fault Refusal := .next (complete 0x15 ownDeleteProgram s)

/-- The record store takes a LIST PROGRAMS (R39, R197). -/
def ownListPrograms (ps : List Byte) (s : State) : Answer :=
  checked (readListPrograms ps) s fun (cursor, epoch) =>
    if cursor ≠ 0 ∧ epoch ≠ s.ret.epoch then ⟨s, .epochMoved, bytes16 s.ret.epoch.toNat⟩
    else answerOk s (programPage s.ret.epoch s.ret.programs cursor)

/-- LIST_PROGRAMS (R39, R197). -/
def execListPrograms (s : State) : Host.Outcome State Fault Refusal := .next (complete 0x16 ownListPrograms s)

/-- The record store takes the oldest gate change report handed on, if there is one (R29, R67). -/
def State.takeOldestGateReport (s : State) : State :=
  match s.mail.gateReports with
  | [] => s
  | g :: rest => { s with mail := { s.mail with gateReports := rest } }.takeGateReport g.1

/-- GATE_CHANGE_REPORT (R29). -/
def execGateChangeReport (s : State) : Host.Outcome State Fault Refusal :=
  .next (whileRunning State.takeOldestGateReport s)

end Sys2Proof.Machine
end

