-- ==== Sys2Proof/Machine/ExecOverrides.lean ====
section
/-! DEFINITION. The meanings of the Override Table's rows: CREATE_OVERRIDE to SET_RESUME_POLICY, and VERDICT_REPORT. -/

namespace Sys2Proof.Machine

/-- An override's name judged (R45). -/
def State.namedOverride (s : State) (n : Name 16) : Judged OvrRec :=
  judgeName n.gen s.ret.overrides[n.slot].gen s.ret.overrides[n.slot].live

/-- A command on a live override: STALE and NO-SUCH-RECORD are answered, a live record goes on (R45, R187). -/
def State.onOverride (s : State) (n : Name 16) (f : OvrRec → Answer) : Answer :=
  match s.namedOverride n with
  | .stale => refuse s .stale
  | .free => refuse s .noSuchRecord
  | .live r => f r

/-- The handle and generation of the slot a creation takes (R48). -/
def State.createdName (c : Creation) (s : State) : List Byte :=
  match freeOverride (s.supersede c.channels).ret.overrides with
  | some i => [byte (i.val + 1), byte (s.supersede c.channels).ret.overrides[i].gen.val]
  | none => []

/-- The record store takes a CREATE OVERRIDE (R48, R198). -/
def ownCreateOverride (ps : List Byte) (s : State) : Answer :=
  checked (readCreateOverride ps) s fun c => answerOk (s.createOverride c) (s.createdName c)

/-- CREATE_OVERRIDE (R198). -/
def execCreateOverride (s : State) : Host.Outcome State Fault Refusal := .next (complete 0x20 ownCreateOverride s)

/-- The record store takes the oldest request that a key handed on, where it is a creation (R48, R148). The requests of two
keys are taken in either order (R151). -/
def State.takeOldestCreation (k : KeyIdx) (s : State) : State :=
  match s.mail.keyRequests[k] with
  | .create c :: rest =>
    { s with mail := { s.mail with keyRequests := s.mail.keyRequests.set k rest } }.createOverride c
  | .release _ :: _ | [] => s

/-- CREATION_REQUEST (R48). -/
def execCreationRequest (s : State) (k : KeyIdx := 0) : Host.Outcome State Fault Refusal :=
  .next (whileRunning (State.takeOldestCreation k) s)

/-- The record store takes an EXTEND OVERRIDE (R54, R199). -/
def ownExtendOverride (ps : List Byte) (s : State) : Answer :=
  checked (readExtendOverride ps) s fun (n, minutes) =>
    s.onOverride n fun r =>
      match r.kind with
      | .timed _ _ => answerOk (s.extendOverride n.slot r minutes) (stampBytes (expiryOf s.runCount minutes))
      | .untilNext _ | .latched => refuse s .notPermitted

/-- EXTEND_OVERRIDE (R54, R199). -/
def execExtendOverride (s : State) : Host.Outcome State Fault Refusal := .next (complete 0x21 ownExtendOverride s)

/-- The record store takes a CANCEL OVERRIDE (R55, R200). -/
def ownCancelOverride (ps : List Byte) (s : State) : Answer :=
  checked (readName 16 ps) s fun n => s.onOverride n fun _ => answerOk (s.cancelOverride n.slot) []

/-- CANCEL_OVERRIDE (R55, R200). -/
def execCancelOverride (s : State) : Host.Outcome State Fault Refusal := .next (complete 0x22 ownCancelOverride s)

/-- The record store takes a RELEASE CHANNELS (R56, R201). -/
def ownReleaseChannels (ps : List Byte) (s : State) : Answer :=
  checked (readChannelSet ps) s fun cs => answerOk (s.releaseChannels cs) []

/-- RELEASE_CHANNELS (R56, R201). -/
def execReleaseChannels (s : State) : Host.Outcome State Fault Refusal := .next (complete 0x23 ownReleaseChannels s)

/-- The record store takes the oldest request that a key handed on, where it is a release (R56, R149, R151). -/
def State.takeOldestRelease (k : KeyIdx) (s : State) : State :=
  match s.mail.keyRequests[k] with
  | .release cs :: rest =>
    { s with mail := { s.mail with keyRequests := s.mail.keyRequests.set k rest } }.releaseChannels cs
  | .create _ :: _ | [] => s

/-- RELEASE (R56). -/
def execRelease (s : State) (k : KeyIdx := 0) : Host.Outcome State Fault Refusal :=
  .next (whileRunning (State.takeOldestRelease k) s)

/-- OVERRIDE_EXPIRY (R53). -/
def execOverrideExpiry (i : OvrIdx) (s : State) : Host.Outcome State Fault Refusal :=
  .next (whileRunning (State.expireOverride i) s)

/-- The record store takes a READ OVERRIDES (R58, R202). -/
def ownReadOverrides (ps : List Byte) (s : State) : Answer :=
  checked (readOverridesQuery ps) s fun q =>
    match q with
    | .page first => answerOk s (overridePage s.ret.epoch s.ret.overrides s.runCount first)
    | .single n => match s.namedOverride n with
      | .stale => refuse s .stale
      | .free => ⟨s, .noSuchRecord, [byte s.ret.overrides[n.slot].reason.code]⟩
      | .live _ =>
        answerOk s (bytes16 s.ret.epoch.toNat ++ overrideSummary n.slot s.ret.overrides[n.slot] s.runCount)

/-- READ_OVERRIDES (R202). -/
def execReadOverrides (s : State) : Host.Outcome State Fault Refusal := .next (complete 0x24 ownReadOverrides s)

/-- SET_RESUME_POLICY (R215). -/
def execSetResumePolicy (s : State) : Host.Outcome State Fault Refusal :=
  .next (complete 0x52 (fun ps s =>
    checked (readResumePolicy ps) s fun p => answerOk (s.setRet { s.ret with resume := p }) []) s)

/-- The record store takes the oldest verdict report handed on, if there is one (R52). -/
def State.takeOldestVerdicts (s : State) : State :=
  match s.mail.verdictReports with
  | [] => s
  | vs :: rest => { s with mail := { s.mail with verdictReports := rest } }.settleVerdicts vs

/-- VERDICT_REPORT (R52). -/
def execVerdictReport (s : State) : Host.Outcome State Fault Refusal := .next (whileRunning State.takeOldestVerdicts s)

end Sys2Proof.Machine
end

