-- ==== Sys2Proof/Machine/ExecResolver.lean ====
section
/-! DEFINITION. The meanings of the resolver's rows: RE_RESOLUTION_REQUEST, APPLIED_LEVEL_REPORT, and the channel and group
commands. -/

namespace Sys2Proof.Machine

/-- The resolver takes the re-resolution request that waits at a place, if there is one (R89, R93).
DEDUCED, notes/assumptions/6.md. -/
def State.takeRequestAt (place : Nat) (s : State) : State :=
  match waitingAt s.mail.requests place with
  | none => s
  | some (cs, rest) => { s with mail := { s.mail with requests := rest } }.takeRequest cs

/-- RE_RESOLUTION_REQUEST (R89, R93). -/
def execReResolutionRequest (s : State) (place : Nat := 0) : Host.Outcome State Fault Refusal :=
  .next (whileRunning (State.takeRequestAt place) s)

/-- The resolver takes the applied-level report that waits at a place, if there is one (R88, R93).
DEDUCED, notes/assumptions/6.md. -/
def State.takeLevelsAt (place : Nat) (s : State) : State :=
  match waitingAt s.mail.levelReports place with
  | none => s
  | some (cs, rest) => { s with mail := { s.mail with levelReports := rest } }.takeLevelReport cs

/-- APPLIED_LEVEL_REPORT (R88, R93). -/
def execAppliedLevelReport (s : State) (place : Nat := 0) : Host.Outcome State Fault Refusal :=
  .next (whileRunning (State.takeLevelsAt place) s)

/-- A channel may be configured: it is OFF or LOCKED, and DIMMED is for CH0 to CH7 (R77). -/
def State.mayConfigure (s : State) (c : ChannelConfig) : Bool :=
  decide (¬(c.kind = .dimmed ∧ 8 ≤ c.chan.val) ∧ (s.sw[c.chan].state = .off ∨ s.sw[c.chan].state = .locked))

/-- The resolver takes a CONFIGURE CHANNEL (R77, R203). -/
def ownConfigureChannel (ps : List Byte) (s : State) : Answer :=
  checked (readConfigureChannel ps) s fun c =>
    if s.mayConfigure c then answerOk (s.configureChannel c.chan c.kind c.group c.queueClass) []
    else refuse s .notPermitted

/-- CONFIGURE_CHANNEL (R77, R78, R203). -/
def execConfigureChannel (s : State) : Host.Outcome State Fault Refusal := .next (complete 0x30 ownConfigureChannel s)

/-- The resolver takes a SET CHANNEL TIMING; a retry limit plus one below the fault count is answered NOT-PERMITTED
(R79, R204). -/
def ownSetChannelTiming (ps : List Byte) (s : State) : Answer :=
  checked (readChannelTiming ps) s fun c =>
    if c.retry.val + 1 < s.faults[c.chan].count then refuse s .notPermitted
    else answerOk (s.setChannelTiming c.chan c.minOn c.minOff c.ramp c.retry) []

/-- SET_CHANNEL_TIMING (R79, R204). -/
def execSetChannelTiming (s : State) : Host.Outcome State Fault Refusal := .next (complete 0x31 ownSetChannelTiming s)

/-- SET_FALLBACK (R80, R205). -/
def execSetFallback (s : State) : Host.Outcome State Fault Refusal :=
  .next (complete 0x32 (fun ps s =>
    checked (readFallback ps) s fun (ch, l) => answerOk (s.setFallback ch l) []) s)

/-- CONFIGURE_GROUP (R81, R208). -/
def execConfigureGroup (s : State) : Host.Outcome State Fault Refusal :=
  .next (complete 0x38 (fun ps s =>
    checked (readConfigureGroup ps) s fun (g, gap) => answerOk (s.configureGroup g gap) []) s)

/-- READ_CHANNEL (R95, R206). -/
def execReadChannel (s : State) : Host.Outcome State Fault Refusal :=
  .next (complete 0x33 (fun ps s => checked (readChan ps) s fun ch => answerOk s (channelReport s ch)) s)

/-- EXPLAIN_CHANNEL (R94, R206). -/
def execExplainChannel (s : State) : Host.Outcome State Fault Refusal :=
  .next (complete 0x34 (fun ps s => checked (readChan ps) s fun ch => answerOk s (explainReport s ch)) s)

end Sys2Proof.Machine
end

