-- ==== Sys2Proof/Machine/ExecSequencer.lean ====
section
/-! DEFINITION. The meanings of the sequencer's rows: HAND_OFF, the timer expiries, the ALL-OFF rows, SET_STAGGER and
READ_QUEUE. -/

namespace Sys2Proof.Machine

/-- The sequencer takes the oldest hand-off, if there is one (R100). -/
def State.takeOldestHandOff (s : State) : State :=
  match s.mail.handOffs with
  | [] => s
  | ts :: rest => { s with mail := { s.mail with handOffs := rest } }.takeHandOff ts

/-- HAND_OFF (R100 to R103, R107). -/
def execHandOff (s : State) : Host.Outcome State Fault Refusal := .next (whileRunning State.takeOldestHandOff s)

/-- STAGGER_EXPIRY (R109). -/
def execStaggerExpiry (s : State) : Host.Outcome State Fault Refusal := .next (whileRunning State.staggerExpiry s)

/-- MIN_ON_EXPIRY (R111); an expiry that finds nothing waiting on it changes nothing (R117). -/
def execMinOnExpiry (ch : Chan) (s : State) : Host.Outcome State Fault Refusal :=
  .next (whileRunning (sequencerEvent (State.endMinOn ch)) s)

/-- MIN_OFF_EXPIRY (R104). -/
def execMinOffExpiry (ch : Chan) (s : State) : Host.Outcome State Fault Refusal :=
  .next (whileRunning (sequencerEvent (State.endMinOff ch)) s)

/-- CHANGEOVER_GAP_EXPIRY (R104). -/
def execChangeoverGapExpiry (g : Group) (s : State) : Host.Outcome State Fault Refusal :=
  .next (whileRunning (sequencerEvent (State.endGap g)) s)

/-- RAMP_TIMER_EXPIRY (R113, R114). -/
def execRampTimerExpiry (ch : Chan) (s : State) : Host.Outcome State Fault Refusal :=
  .next (whileRunning (sequencerEvent (State.endRampStep ch)) s)

/-- LONG_PAST_MARK (R99). -/
def execLongPastMark (t : LongPastTimer) (s : State) : Host.Outcome State Fault Refusal :=
  .next (whileRunning (State.markLongPast t) s)

/-- ALL_OFF_PIN_CHANGE (R118). -/
def execAllOffPinChange (asserted : Bool) (s : State) : Host.Outcome State Fault Refusal :=
  .next (whileRunning (State.takePin asserted) s)

/-- FORCE_ALL_OFF (R118, R210). -/
def execForceAllOff (s : State) : Host.Outcome State Fault Refusal :=
  .next (complete 0x50 (fun ps s => checked (readNone ps) s fun _ => answerOk (s.setLatch true) []) s)

/-- RELEASE_ALL_OFF (R118, R210). -/
def execReleaseAllOff (s : State) : Host.Outcome State Fault Refusal :=
  .next (complete 0x51 (fun ps s => checked (readNone ps) s fun _ => answerOk (s.setLatch false) []) s)

/-- SET_STAGGER (R110, R209). -/
def execSetStagger (s : State) : Host.Outcome State Fault Refusal :=
  .next (complete 0x39 (fun ps s => checked (readByte ps) s fun b => answerOk (s.setStagger b) []) s)

/-- READ_QUEUE (R122, R209). -/
def execReadQueue (s : State) : Host.Outcome State Fault Refusal :=
  .next (complete 0x3A (fun ps s => checked (readNone ps) s fun _ => answerOk s (queueReport s)) s)

end Sys2Proof.Machine
end

