-- ==== Sys2Proof/Machine/Supply.lean ====
section
/-! DEFINITION. The supply supervisor (09_supply_retention_and_starts.md): supply levels, retention, the choice between a
cold and a warm start, and the end of a start. -/

namespace Sys2Proof.Machine

/-! ### Leaving RUNNING -/

/-- What goes inactive when RUNNING is left (R157, R160): the link abandons its transaction, its command and its
response, and whatever blocks had handed on is not taken. DEDUCED, notes/assumptions/16.md. -/
def State.goDark (s : State) : State :=
  { s with link := { s.link with state := .idle, transaction := none }, mail := .empty }

/-- The supervisor goes to a state. -/
def State.setSup (st : SupState) (s : State) : State := { s with sup := { s.sup with state := st } }

/-- The supervisor enters RETENTION from RUNNING or STARTING (R157). -/
def State.enterRetention (s : State) : State := s.goDark.setSup .retention

/-- STARTING begins (R160, R161). -/
def State.enterStarting (s : State) : State :=
  { s with sup := { s.sup with state := .starting, startingFor := 0, qualifying := false } }

/-- RESTART and FACTORY CLEAR take the supervisor from RUNNING to STARTING; FACTORY CLEAR also sets the cold request
(R160). -/
def State.beginStart (cold : Bool) (s : State) : State :=
  let s := s.goDark.enterStarting
  { s with sup := { s.sup with coldRequest := s.sup.coldRequest || cold } }

/-! ### Supply levels (R155, R156) -/

/-- The higher of the two supplies, which powers the backup domain (R154). -/
def Supervisor.backupSupply (u : Supervisor) : Nat := max u.vdd u.vbat

/-- The qualification measurement runs while VDD stands at or above 4.4 V with RST# released (R155). -/
def Supervisor.qualifies (u : Supervisor) : Bool := decide (Config.vddRiseLevel ≤ u.vdd) && !u.rstAsserted

/-- The backup domain loses power: the supervisor is in OFF, and the calendar, the run count, the retained store and the
check value are lost (R156). What they hold from here on is free. -/
def State.loseDomain (s : State) : State :=
  { s with
    cal := Config.lostCalendar s.freeCount
    runCount := Config.lostRunCount s.freeCount
    stepReplaced := false
    ret := Config.lostStore s.freeCount
    check := Config.lostCheck s.freeCount
    sup := { s.sup with state := .off, qualifying := false }
    freeCount := s.freeCount + 1 }

/-- The backup domain powers up from OFF: RETENTION with the backup-lost marker set and the cold request clear (R156). -/
def State.powerUp (s : State) : State :=
  { s with sup := { s.sup with state := .retention, backupLost := true, coldRequest := false,
                               qualifying := s.sup.qualifies } }

/-- RETENTION judges the supply levels: a domain below 1.8 V is lost, one below 2.0 V sets the marker, and the
qualification measurement goes on, starts or restarts from zero (R155, R156). DESIGN CHOICE, notes/assumptions/23.md. -/
def State.judgeLevels (s : State) : State :=
  if s.sup.backupSupply < Config.domainLossLevel then s.loseDomain
  else { s with sup := { s.sup with
    backupLost := s.sup.backupLost || decide (s.sup.backupSupply < Config.backupLostLevel)
    qualifying := s.sup.qualifies } }

/-- The supply levels become those given, and the supervisor takes them in the state it is in (R154 to R157).
DEDUCED, notes/assumptions/15.md. -/
def State.takeLevels (vdd vbat : Nat) (s : State) : State :=
  let s := { s with sup := { s.sup with vdd := vdd, vbat := vbat } }
  match s.sup.state with
  | .running | .starting => if vdd < Config.vddFallLevel then s.enterRetention.judgeLevels else s
  | .retention => s.judgeLevels
  | .off => if s.sup.backupSupply < Config.domainLossLevel then s else s.powerUp

/-- RST# is asserted for 2 µs (R155). -/
def State.assertReset (s : State) : State :=
  let s := { s with sup := { s.sup with rstAsserted := true, qualifying := false } }
  match s.sup.state with
  | .running | .starting => s.enterRetention
  | .retention | .off => s

/-- RST# is released: with VDD qualified the measurement starts from the release (R155). -/
def State.releaseReset (s : State) : State :=
  let s := { s with sup := { s.sup with rstAsserted := false } }
  match s.sup.state with
  | .retention => { s with sup := { s.sup with qualifying := s.sup.qualifies } }
  | .running | .starting | .off => s

/-- The qualification measurement reaches 100 ms (R155); it is found only where it runs. -/
def State.qualified (s : State) : State :=
  if s.sup.state = .retention ∧ s.sup.qualifying then s.enterStarting else s

/-! ### The end of a start (R162 to R164) -/

/-- A start ends as a cold start: the backup-lost marker or the cold request is set, or the check failed (R162). -/
def State.startsCold (s : State) : Bool := s.sup.backupLost || s.sup.coldRequest || !s.checkAgrees

/-- What every start sets alike: RUNNING with both marks clear (R162), no pending flag (R163, R164), the link's values
(R175), the keys' values (R153), the pin as sampled (R124), and nothing handed on. -/
def State.startCommon (pin : Bool) (s : State) : State :=
  { s with
    sup := { s.sup with state := .running, backupLost := false, coldRequest := false, startingFor := 0 }
    att := .none
    link := { Link.start with miso := s.link.miso }
    keys := tabConst 8 .start
    pinTaken := pin
    mail := .empty }

/-- Every block takes its cold values (R163). -/
def State.coldValues (s : State) : State :=
  { s.setRet .cold with
    cal := .cold
    runCount := 0
    stepReplaced := false
    gates := tabConst 4 .cold
    results := tabConst 16 .cold
    holders := tabConst 4 none
    sw := tabConst 16 .cold
    gapStamps := tabConst 4 .cold
    queue := []
    lastAdm := 0
    staggerPast := false
    faults := tabConst 16 .cold }

/-- A cold start ends (R163): START and CLOCK are raised. -/
def State.coldStart (pin : Bool) (s : State) : State := (s.startCommon pin).coldValues.raiseStart.raiseClock

/-- The sequencer takes the warm start's hand-off; the changes made in taking it raise no CHANNEL flag (R116, R126).
DEDUCED, notes/assumptions/20.md. -/
def State.warmTargets (s : State) : State :=
  let t := s.takeHandOff (warmHandOff s.results)
  { t with att := { t.att with channel := s.att.channel } }

/-- A warm start ends, in the order of R164. -/
def State.warmStart (pin : Bool) (s : State) : State :=
  let s := (s.startCommon pin).warmGates.warmFaults.warmSequencer
  let s := s.warmPrograms.warmOverrides
  let s := s.resolveAfresh.warmTargets
  let s := s.compareBaselines.raiseStart
  if s.ret.clockValid then s else s.raiseClock

/-- STARTING ends at a step at least 200 ms after it began; elsewhere there is no such end (R161, R162).
DEDUCED, notes/assumptions/22.md. -/
def State.endStarting (pin : Bool) (s : State) : State :=
  if s.sup.state = .starting ∧ Config.startingSteps ≤ s.sup.startingFor then
    if s.startsCold then s.coldStart pin else s.warmStart pin
  else s

end Sys2Proof.Machine
end

