-- ==== Sys2Proof/Machine/ExecSupply.lean ====
section
/-! DEFINITION. The meanings of the supply supervisor's rows. -/

namespace Sys2Proof.Machine

/-- VDD_FALL (R155, R157): VDD takes the level given. -/
def execVddFall (mv : Nat) (s : State) : Host.Outcome State Fault Refusal := .next (s.takeLevels mv s.sup.vbat)

/-- RST_ASSERT (R155, R157). -/
def execRstAssert (s : State) : Host.Outcome State Fault Refusal := .next s.assertReset

/-- RST_RELEASE (R155). -/
def execRstRelease (s : State) : Host.Outcome State Fault Refusal := .next s.releaseReset

/-- VDD_RISE (R155): VDD takes the level given. -/
def execVddRise (mv : Nat) (s : State) : Host.Outcome State Fault Refusal := .next (s.takeLevels mv s.sup.vbat)

/-- SUPPLY_QUALIFIED (R155, R161). -/
def execSupplyQualified (s : State) : Host.Outcome State Fault Refusal := .next s.qualified

/-- BACKUP_SUPPLY_FALL (R156): VBAT takes the level given. -/
def execBackupSupplyFall (vbat : Nat) (s : State) : Host.Outcome State Fault Refusal := .next (s.takeLevels s.sup.vdd vbat)

/-- BACKUP_DOMAIN_LOSS (R156): both supplies take the levels given. -/
def execBackupDomainLoss (vdd vbat : Nat) (s : State) : Host.Outcome State Fault Refusal := .next (s.takeLevels vdd vbat)

/-- BACKUP_DOMAIN_POWER_UP (R156): both supplies take the levels given. -/
def execBackupDomainPowerUp (vdd vbat : Nat) (s : State) : Host.Outcome State Fault Refusal :=
  .next (s.takeLevels vdd vbat)

/-- VDD_BELOW_QUALIFICATION_THRESHOLD (R155): VDD takes the level given. -/
def execVddBelowQualificationThreshold (mv : Nat) (s : State) : Host.Outcome State Fault Refusal :=
  .next (s.takeLevels mv s.sup.vbat)

/-- STARTING_END (R161 to R164). -/
def execStartingEnd (allOffPin : Bool) (s : State) : Host.Outcome State Fault Refusal := .next (s.endStarting allOffPin)

/-- The supervisor takes a RESTART or a FACTORY CLEAR: one without parameters begins a start and makes no response; one that
carries any is answered BAD-PARAMETER (R160, R172, R217). -/
def takeStart (code : Byte) (cold : Bool) (s : State) : State :=
  match s.slot code with
  | some ps => match readNone ps with
    | .ok _ => s.beginStart cold
    | .error index => (badParameter s index).respond code
  | none => s

/-- RESTART (R160, R217). -/
def execRestart (s : State) : Host.Outcome State Fault Refusal := .next (takeStart 0x5E false s)

/-- FACTORY_CLEAR (R160, R217). -/
def execFactoryClear (s : State) : Host.Outcome State Fault Refusal := .next (takeStart 0x5F true s)

end Sys2Proof.Machine
end

