-- ==== Sys2Proof/Machine/ExecTime.lean ====
section
/-! DEFINITION. The meanings of the time rows: CALENDAR_ADVANCE, MINUTE_BOUNDARY, YEAR_ROLLOVER, READ_TIME, SET_TIME. -/

namespace Sys2Proof.Machine

/-- CALENDAR_ADVANCE: one step of the time base (R1, R3, R5, R8, R9). -/
def execCalendarAdvance (s : State) : Host.Outcome State Fault Refusal := .next s.tick

/-- MINUTE_BOUNDARY: the record store takes the oldest minute boundary handed on (R8, R27). -/
def execMinuteBoundary (s : State) : Host.Outcome State Fault Refusal := .next (whileRunning State.takeOldestBoundary s)

/-- YEAR_ROLLOVER: the step past 2099-12-31 23:59:59.9, whose minute boundary the record store takes in the same step while
RUNNING (R9, R27). On any other calendar no such step is due, and nothing changes. DEDUCED, notes/assumptions/8.md. -/
def execYearRollover (s : State) : Host.Outcome State Fault Refusal :=
  .next (if s.sup.state ≠ .off ∧ s.cal = .last ∧ !s.stepReplaced then whileRunning State.takeBoundaries s.tick else s)

/-- READ_TIME (R12, R189). -/
def execReadTime (s : State) : Host.Outcome State Fault Refusal :=
  .next (complete 0x01 (fun ps s => checked (readNone ps) s fun _ => answerOk s (timeReport s)) s)

/-- The calendar unit takes a SET TIME, and the record store the time set it hands on; a boundary handed on before is taken
before (R10, R11, R28, R41). DEDUCED, notes/assumptions/8.md. -/
def State.takeSetTime (v : TimeValue) (stepDue : Bool) (s : State) : State :=
  (s.takeBoundaries.loadTime v stepDue).takeTimeSet

/-- SET_TIME (R10, R11, R190). -/
def execSetTime (s : State) (stepDue : Bool := false) : Host.Outcome State Fault Refusal :=
  .next (complete 0x02 (fun ps s => checked (readSetTime ps) s fun v => answerOk (s.takeSetTime v stepDue) []) s)

end Sys2Proof.Machine
end

