-- ==== Sys2Proof/Machine/Dispatch.lean ====
section
/-! DEFINITION. The dispatch: one arm for each command, in the table's order. -/

namespace Sys2Proof.Machine

def exec (i : Instr) (s : State) : Host.Outcome State Fault Refusal :=
  match i with
  | .calendarAdvance => Sys2Proof.Machine.execCalendarAdvance s
  | .minuteBoundary => Sys2Proof.Machine.execMinuteBoundary s
  | .yearRollover => Sys2Proof.Machine.execYearRollover s
  | .readTime => Sys2Proof.Machine.execReadTime s
  | .setTime stepDue => Sys2Proof.Machine.execSetTime s stepDue
  | .createProgram => Sys2Proof.Machine.execCreateProgram s
  | .editProgram => Sys2Proof.Machine.execEditProgram s
  | .readProgram => Sys2Proof.Machine.execReadProgram s
  | .enableProgram => Sys2Proof.Machine.execEnableProgram s
  | .disableProgram => Sys2Proof.Machine.execDisableProgram s
  | .deleteProgram => Sys2Proof.Machine.execDeleteProgram s
  | .listPrograms => Sys2Proof.Machine.execListPrograms s
  | .reResolutionRequest place => Sys2Proof.Machine.execReResolutionRequest s place
  | .verdictReport => Sys2Proof.Machine.execVerdictReport s
  | .gateChangeReport => Sys2Proof.Machine.execGateChangeReport s
  | .createOverride => Sys2Proof.Machine.execCreateOverride s
  | .creationRequest k => Sys2Proof.Machine.execCreationRequest s k
  | .extendOverride => Sys2Proof.Machine.execExtendOverride s
  | .cancelOverride => Sys2Proof.Machine.execCancelOverride s
  | .releaseChannels => Sys2Proof.Machine.execReleaseChannels s
  | .release k => Sys2Proof.Machine.execRelease s k
  | .overrideExpiry slot => Sys2Proof.Machine.execOverrideExpiry slot s
  | .readOverrides => Sys2Proof.Machine.execReadOverrides s
  | .setResumePolicy => Sys2Proof.Machine.execSetResumePolicy s
  | .converterRound ain0 ain1 ain2 ain3 completed => Sys2Proof.Machine.execConverterRound ain0 ain1 ain2 ain3 s completed
  | .configureGate => Sys2Proof.Machine.execConfigureGate s
  | .setGateMode => Sys2Proof.Machine.execSetGateMode s
  | .readGates => Sys2Proof.Machine.execReadGates s
  | .configureChannel => Sys2Proof.Machine.execConfigureChannel s
  | .setChannelTiming => Sys2Proof.Machine.execSetChannelTiming s
  | .setFallback => Sys2Proof.Machine.execSetFallback s
  | .configureGroup => Sys2Proof.Machine.execConfigureGroup s
  | .readChannel => Sys2Proof.Machine.execReadChannel s
  | .explainChannel => Sys2Proof.Machine.execExplainChannel s
  | .appliedLevelReport place => Sys2Proof.Machine.execAppliedLevelReport s place
  | .handOff => Sys2Proof.Machine.execHandOff s
  | .staggerExpiry => Sys2Proof.Machine.execStaggerExpiry s
  | .minOnExpiry ch => Sys2Proof.Machine.execMinOnExpiry ch s
  | .minOffExpiry ch => Sys2Proof.Machine.execMinOffExpiry ch s
  | .changeoverGapExpiry g => Sys2Proof.Machine.execChangeoverGapExpiry g s
  | .rampTimerExpiry ch => Sys2Proof.Machine.execRampTimerExpiry ch s
  | .longPastMark t => Sys2Proof.Machine.execLongPastMark t s
  | .allOffPinChange asserted => Sys2Proof.Machine.execAllOffPinChange asserted s
  | .forceAllOff => Sys2Proof.Machine.execForceAllOff s
  | .releaseAllOff => Sys2Proof.Machine.execReleaseAllOff s
  | .setStagger => Sys2Proof.Machine.execSetStagger s
  | .readQueue => Sys2Proof.Machine.execReadQueue s
  | .overcurrentReport ch => Sys2Proof.Machine.execOvercurrentReport ch s
  | .retryTimerExpiry ch => Sys2Proof.Machine.execRetryTimerExpiry ch s
  | .cleanRunExpiry ch => Sys2Proof.Machine.execCleanRunExpiry ch s
  | .clearFault => Sys2Proof.Machine.execClearFault s
  | .keySample pressed => Sys2Proof.Machine.execKeySample pressed s
  | .holdTimerExpiry k => Sys2Proof.Machine.execHoldTimerExpiry k s
  | .bindKey => Sys2Proof.Machine.execBindKey s
  | .readKeyBinding => Sys2Proof.Machine.execReadKeyBinding s
  | .setPanelLock => Sys2Proof.Machine.execSetPanelLock s
  | .vddFall millivolts => Sys2Proof.Machine.execVddFall millivolts s
  | .rstAssert => Sys2Proof.Machine.execRstAssert s
  | .rstRelease => Sys2Proof.Machine.execRstRelease s
  | .vddRise millivolts => Sys2Proof.Machine.execVddRise millivolts s
  | .supplyQualified => Sys2Proof.Machine.execSupplyQualified s
  | .backupSupplyFall vbat => Sys2Proof.Machine.execBackupSupplyFall vbat s
  | .backupDomainLoss vdd vbat => Sys2Proof.Machine.execBackupDomainLoss vdd vbat s
  | .backupDomainPowerUp vdd vbat => Sys2Proof.Machine.execBackupDomainPowerUp vdd vbat s
  | .startingEnd allOffPin => Sys2Proof.Machine.execStartingEnd allOffPin s
  | .restart => Sys2Proof.Machine.execRestart s
  | .factoryClear => Sys2Proof.Machine.execFactoryClear s
  | .status clocked part => Sys2Proof.Machine.execStatus clocked s part
  | .command bytes part => Sys2Proof.Machine.execCommand bytes s part
  | .fetch clocked part => Sys2Proof.Machine.execFetch clocked s part
  | .framing cause => Sys2Proof.Machine.execFraming cause s
  | .transactionEnd => Sys2Proof.Machine.execTransactionEnd s
  | .readAttention => Sys2Proof.Machine.execReadAttention s
  | .setAttentionMask => Sys2Proof.Machine.execSetAttentionMask s
  | .vddBelowQualificationThreshold millivolts => Sys2Proof.Machine.execVddBelowQualificationThreshold millivolts s

end Sys2Proof.Machine
end

