-- ==== Sys2Proof/Safety.lean ====
section
/-! DEFINITION. What counts as a sound state of the part, and the words in which the statements speak: a command standing in
the command slot, its answer, and the invariants that the manual's rules state of every moment. -/

namespace Sys2Proof.Machine

/-! ### Host commands -/

/-- The supervisor is RUNNING and the link is EXECUTING a command of this code with these parameters (R172). -/
def State.holds (s : State) (code : Byte) (params : List Byte) : Prop :=
  s.sup.state = .running ∧ s.link.state = .executing ⟨code, params⟩

/-- The state in which a completion has filled the response slot, taken the link to READY and raised RESPONSE, with nothing
else changed (R172). -/
def State.answered (s : State) (code : Byte) (result : ResultCode) (payload : List Byte) : State :=
  { s with
    link := { s.link with state := .ready ⟨code, result, payload⟩ }
    att := { s.att with response := true } }

/-- The code of a host command's row (11_command_reference.md); no other row has one. -/
def hostCode : Instr → Option Byte
  | .readTime => some 0x01 | .setTime _ => some 0x02 | .createProgram => some 0x10 | .editProgram => some 0x11
  | .readProgram => some 0x12 | .enableProgram => some 0x13 | .disableProgram => some 0x14 | .deleteProgram => some 0x15
  | .listPrograms => some 0x16 | .createOverride => some 0x20 | .extendOverride => some 0x21
  | .cancelOverride => some 0x22 | .releaseChannels => some 0x23 | .readOverrides => some 0x24
  | .configureChannel => some 0x30 | .setChannelTiming => some 0x31 | .setFallback => some 0x32
  | .readChannel => some 0x33 | .explainChannel => some 0x34 | .clearFault => some 0x35 | .configureGroup => some 0x38
  | .setStagger => some 0x39 | .readQueue => some 0x3A | .configureGate => some 0x40 | .setGateMode => some 0x41
  | .readGates => some 0x42 | .bindKey => some 0x48 | .readKeyBinding => some 0x49 | .setPanelLock => some 0x4A
  | .forceAllOff => some 0x50 | .releaseAllOff => some 0x51 | .setResumePolicy => some 0x52
  | .setAttentionMask => some 0x53 | .readAttention => some 0x54 | .restart => some 0x5E | .factoryClear => some 0x5F
  | .calendarAdvance | .minuteBoundary | .yearRollover | .reResolutionRequest _ | .verdictReport | .gateChangeReport
  | .creationRequest _ | .release _ | .overrideExpiry _ | .converterRound _ _ _ _ _ | .appliedLevelReport _ | .handOff
  | .staggerExpiry | .minOnExpiry _ | .minOffExpiry _ | .changeoverGapExpiry _ | .rampTimerExpiry _ | .longPastMark _
  | .allOffPinChange _ | .overcurrentReport _ | .retryTimerExpiry _ | .cleanRunExpiry _ | .keySample _
  | .holdTimerExpiry _ | .vddFall _ | .rstAssert | .rstRelease | .vddRise _ | .supplyQualified | .backupSupplyFall _
  | .backupDomainLoss _ _ | .backupDomainPowerUp _ _ | .startingEnd _ | .status _ _ | .command _ _ | .fetch _ _ | .framing _
  | .transactionEnd | .vddBelowQualificationThreshold _ => none

/-- The parameter length of a host command, where its entry gives one length (R189 to R217). -/
def fixedLength : Instr → Option Nat
  | .readTime | .readGates | .readQueue | .forceAllOff | .releaseAllOff | .readAttention | .restart | .factoryClear => some 0
  | .readChannel | .explainChannel | .clearFault | .setStagger | .readKeyBinding | .setPanelLock | .setResumePolicy => some 1
  | .readProgram | .enableProgram | .disableProgram | .deleteProgram | .cancelOverride | .releaseChannels
  | .configureChannel | .setFallback | .configureGroup | .setGateMode | .setAttentionMask => some 2
  | .listPrograms => some 3
  | .extendOverride => some 4
  | .createOverride | .setChannelTiming | .configureGate => some 5
  | .setTime _ => some 6
  | .bindKey => some 7
  | .createProgram | .editProgram | .readOverrides
  | .calendarAdvance | .minuteBoundary | .yearRollover | .reResolutionRequest _ | .verdictReport | .gateChangeReport
  | .creationRequest _ | .release _ | .overrideExpiry _ | .converterRound _ _ _ _ _ | .appliedLevelReport _ | .handOff
  | .staggerExpiry | .minOnExpiry _ | .minOffExpiry _ | .changeoverGapExpiry _ | .rampTimerExpiry _ | .longPastMark _
  | .allOffPinChange _ | .overcurrentReport _ | .retryTimerExpiry _ | .cleanRunExpiry _ | .keySample _
  | .holdTimerExpiry _ | .vddFall _ | .rstAssert | .rstRelease | .vddRise _ | .supplyQualified | .backupSupplyFall _
  | .backupDomainLoss _ _ | .backupDomainPowerUp _ _ | .startingEnd _ | .status _ _ | .command _ _ | .fetch _ _ | .framing _
  | .transactionEnd | .vddBelowQualificationThreshold _ => none

/-! ### The checks of a command's parameters (R187, R188) -/

/-- The index that goes with the first check of a list that fails, the checks made in their order. -/
def firstFailing : List (Bool × Nat) → Option Nat
  | [] => none
  | (holds, index) :: rest => if holds then firstFailing rest else some index

/-- A parameter byte as a number; 0 where the frame has none. -/
def byteAt (ps : List Byte) (i : Nat) : Nat := (ps.getD i 0).toNat

/-- A 2-byte parameter, least significant byte first. -/
def wordAt (ps : List Byte) (i : Nat) : Nat := byteAt ps i + 256 * byteAt ps (i + 1)

/-- A frame of `n` parameter bytes; else the index of the first byte missing or surplus. -/
def lengthCheck (ps : List Byte) (n : Nat) : Bool × Nat := (decide (ps.length = n), min ps.length n)

/-- A parameter in a range, at its index. -/
def rangeCheck (value low high index : Nat) : Bool × Nat := (decide (low ≤ value ∧ value ≤ high), index)

/-- A handle of 1 to `n` at index 0, and a generation of 0 to 15 at index 1. -/
def nameChecks (ps : List Byte) (n : Nat) : List (Bool × Nat) :=
  [rangeCheck (byteAt ps 0) 1 n 0, rangeCheck (byteAt ps 1) 0 15 1]

/-- The four parts of a calendar stamp that begins at an index (R188). -/
def stampChecks (ps : List Byte) (i : Nat) : List (Bool × Nat) :=
  [rangeCheck (byteAt ps i) 0 99 i, rangeCheck (byteAt ps (i + 1)) 1 12 (i + 1),
   rangeCheck (byteAt ps (i + 2)) 1 (monthLength (2000 + byteAt ps i) (byteAt ps (i + 1))) (i + 2),
   rangeCheck (wordAt ps (i + 3)) 0 1439 (i + 3)]

/-- The minutes of a calendar stamp that begins at an index. -/
def stampMinutes (ps : List Byte) (i : Nat) : Nat :=
  (Stamp.mk (2000 + byteAt ps i) (byteAt ps (i + 1)) (byteAt ps (i + 2)) (wordAt ps (i + 3))).minutes

/-- A program definition that begins at index `b`: the kind, the length that goes with it, the targets, and the timing of the
kind (R191). -/
def definitionChecks (ps : List Byte) (b : Nat) : List (Bool × Nat) :=
  let kind := byteAt ps b / 16
  [rangeCheck kind 0 2 b, lengthCheck ps (b + if kind = 0 then 9 else if kind = 1 then 14 else 13),
   (decide (wordAt ps (b + 2) ≠ 0), b + 2)] ++
  if kind = 0 then
    [(decide (byteAt ps (b + 4) % 128 ≠ 0), b + 4), rangeCheck (wordAt ps (b + 5)) 0 1439 (b + 5),
     (decide (wordAt ps (b + 7) ≤ 1439 ∧ wordAt ps (b + 7) ≠ wordAt ps (b + 5)), b + 7)]
  else if kind = 1 then
    stampChecks ps (b + 4) ++ stampChecks ps (b + 9) ++
      [rangeCheck (stampMinutes ps (b + 9)) (stampMinutes ps (b + 4) + 1) (stampMinutes ps (b + 4) + 527040) (b + 9)]
  else
    stampChecks ps (b + 4) ++
      [rangeCheck (wordAt ps (b + 9)) 2 1440 (b + 9), rangeCheck (wordAt ps (b + 11)) 1 (wordAt ps (b + 9) - 1) (b + 11)]

/-- The length and field checks of a host command, in the order its entry gives (R187 to R217). A field whose check waits on
another field passes where the other does not ask for it. -/
def paramChecks (ps : List Byte) : Instr → List (Bool × Nat)
  | .readTime | .readGates | .readQueue | .forceAllOff | .releaseAllOff | .readAttention | .restart | .factoryClear =>
    [lengthCheck ps 0]
  | .setStagger | .setPanelLock => [lengthCheck ps 1]
  | .setAttentionMask => [lengthCheck ps 2]
  | .setTime _ =>
    [lengthCheck ps 6, rangeCheck (byteAt ps 0) 0 99 0, rangeCheck (byteAt ps 1) 1 12 1,
     rangeCheck (byteAt ps 2) 1 (monthLength (2000 + byteAt ps 0) (byteAt ps 1)) 2, rangeCheck (byteAt ps 3) 0 23 3,
     rangeCheck (byteAt ps 4) 0 59 4, rangeCheck (byteAt ps 5) 0 59 5]
  | .createProgram => (decide (2 ≤ ps.length), ps.length) :: definitionChecks ps 1
  | .editProgram => (decide (3 ≤ ps.length), ps.length) :: (nameChecks ps 96 ++ definitionChecks ps 2)
  | .readProgram | .enableProgram | .disableProgram | .deleteProgram => lengthCheck ps 2 :: nameChecks ps 96
  | .listPrograms => [lengthCheck ps 3, rangeCheck (byteAt ps 0) 0 96 0]
  | .createOverride =>
    [lengthCheck ps 5, rangeCheck (byteAt ps 0 / 16) 0 2 0, (decide (wordAt ps 1 ≠ 0), 1),
     (decide (byteAt ps 0 / 16 = 0 → 1 ≤ wordAt ps 3 ∧ wordAt ps 3 ≤ 1440), 3)]
  | .extendOverride => lengthCheck ps 4 :: (nameChecks ps 16 ++ [rangeCheck (wordAt ps 2) 1 1440 2])
  | .cancelOverride => lengthCheck ps 2 :: nameChecks ps 16
  | .releaseChannels => [lengthCheck ps 2, (decide (wordAt ps 0 ≠ 0), 0)]
  | .readOverrides =>
    [(decide (ps.length = 1 ∨ ps.length = 2), min ps.length 2), rangeCheck (byteAt ps 0) 1 16 0,
     (decide (ps.length = 2 → byteAt ps 1 ≤ 15), 1)]
  | .setResumePolicy => [lengthCheck ps 1, rangeCheck (byteAt ps 0) 0 1 0]
  | .configureChannel =>
    [lengthCheck ps 2, rangeCheck (byteAt ps 0) 0 15 0, rangeCheck (byteAt ps 1 / 8 % 8) 0 4 1]
  | .setChannelTiming =>
    [lengthCheck ps 5, rangeCheck (byteAt ps 0) 0 15 0, rangeCheck (byteAt ps 3) 0 15 3, rangeCheck (byteAt ps 4) 0 3 4]
  | .setFallback => [lengthCheck ps 2, rangeCheck (byteAt ps 0) 0 15 0]
  | .readChannel | .explainChannel | .clearFault => [lengthCheck ps 1, rangeCheck (byteAt ps 0) 0 15 0]
  | .configureGroup => [lengthCheck ps 2, rangeCheck (byteAt ps 0) 1 4 0]
  | .configureGate =>
    [lengthCheck ps 5, rangeCheck (byteAt ps 0) 0 3 0, rangeCheck (byteAt ps 2) 0 254 2,
     rangeCheck (byteAt ps 3) (max 1 (byteAt ps 2 + 1)) 255 3, rangeCheck (byteAt ps 4) 1 15 4]
  | .setGateMode => [lengthCheck ps 2, rangeCheck (byteAt ps 0) 0 3 0, rangeCheck (byteAt ps 1) 0 2 1]
  | .bindKey =>
    let action := byteAt ps 1 / 16
    let duration := byteAt ps 4 / 16
    [lengthCheck ps 7, rangeCheck (byteAt ps 0) 1 8 0, rangeCheck action 0 4 1,
     (decide (action ≠ 0 → wordAt ps 2 ≠ 0), 2), (decide (action ≠ 0 → byteAt ps 1 % 16 ≠ 0), 1),
     (decide (action ≠ 0 → 1 ≤ duration ∧ duration ≤ 3), 4),
     (decide (action ≠ 0 → duration = 1 → 1 ≤ wordAt ps 5 ∧ wordAt ps 5 ≤ 1440), 5)]
  | .readKeyBinding => [lengthCheck ps 1, rangeCheck (byteAt ps 0) 1 8 0]
  | .calendarAdvance | .minuteBoundary | .yearRollover | .reResolutionRequest _ | .verdictReport | .gateChangeReport
  | .creationRequest _ | .release _ | .overrideExpiry _ | .converterRound _ _ _ _ _ | .appliedLevelReport _ | .handOff
  | .staggerExpiry | .minOnExpiry _ | .minOffExpiry _ | .changeoverGapExpiry _ | .rampTimerExpiry _ | .longPastMark _
  | .allOffPinChange _ | .overcurrentReport _ | .retryTimerExpiry _ | .cleanRunExpiry _ | .keySample _
  | .holdTimerExpiry _ | .vddFall _ | .rstAssert | .rstRelease | .vddRise _ | .supplyQualified | .backupSupplyFall _
  | .backupDomainLoss _ _ | .backupDomainPowerUp _ _ | .startingEnd _ | .status _ _ | .command _ _ | .fetch _ _ | .framing _
  | .transactionEnd | .vddBelowQualificationThreshold _ => []

/-- A row that only a RUNNING part takes: the events of every block but the calendar unit and the supervisor, the host
commands, and the rise of CS#. -/
def takenWhileRunning : Instr → Bool
  | .calendarAdvance | .yearRollover | .vddFall _ | .rstAssert | .rstRelease | .vddRise _ | .supplyQualified
  | .backupSupplyFall _ | .backupDomainLoss _ _ | .backupDomainPowerUp _ _ | .startingEnd _ | .status _ _ | .command _ _
  | .fetch _ _ | .framing (.firstByte _ _ _) | .vddBelowQualificationThreshold _ => false
  | .minuteBoundary | .readTime | .setTime _ | .createProgram | .editProgram | .readProgram | .enableProgram
  | .disableProgram | .deleteProgram | .listPrograms | .reResolutionRequest _ | .verdictReport | .gateChangeReport
  | .createOverride | .creationRequest _ | .extendOverride | .cancelOverride | .releaseChannels | .release _
  | .overrideExpiry _ | .readOverrides | .setResumePolicy | .converterRound _ _ _ _ _ | .configureGate | .setGateMode
  | .readGates | .configureChannel | .setChannelTiming | .setFallback | .configureGroup | .readChannel | .explainChannel
  | .appliedLevelReport _ | .handOff | .staggerExpiry | .minOnExpiry _ | .minOffExpiry _ | .changeoverGapExpiry _
  | .rampTimerExpiry _ | .longPastMark _ | .allOffPinChange _ | .forceAllOff | .releaseAllOff | .setStagger | .readQueue
  | .overcurrentReport _ | .retryTimerExpiry _ | .cleanRunExpiry _ | .clearFault | .keySample _ | .holdTimerExpiry _
  | .bindKey | .readKeyBinding | .setPanelLock | .restart | .factoryClear | .framing .riseMidFrame | .transactionEnd
  | .readAttention | .setAttentionMask => true

/-- A row that brings new supply levels, in which the backup domain may lose its power (R156). -/
def bringsSupplyLevels : Instr → Bool
  | .vddFall _ | .vddRise _ | .vddBelowQualificationThreshold _ | .backupSupplyFall _ | .backupDomainLoss _ _
  | .backupDomainPowerUp _ _ => true
  | .calendarAdvance | .minuteBoundary | .yearRollover | .readTime | .setTime _ | .createProgram | .editProgram
  | .readProgram | .enableProgram | .disableProgram | .deleteProgram | .listPrograms | .reResolutionRequest _
  | .verdictReport | .gateChangeReport | .createOverride | .creationRequest _ | .extendOverride | .cancelOverride
  | .releaseChannels | .release _ | .overrideExpiry _ | .readOverrides | .setResumePolicy | .converterRound _ _ _ _ _
  | .configureGate | .setGateMode | .readGates | .configureChannel | .setChannelTiming | .setFallback
  | .configureGroup | .readChannel | .explainChannel | .appliedLevelReport _ | .handOff | .staggerExpiry
  | .minOnExpiry _ | .minOffExpiry _ | .changeoverGapExpiry _ | .rampTimerExpiry _ | .longPastMark _
  | .allOffPinChange _ | .forceAllOff | .releaseAllOff | .setStagger | .readQueue | .overcurrentReport _
  | .retryTimerExpiry _ | .cleanRunExpiry _ | .clearFault | .keySample _ | .holdTimerExpiry _ | .bindKey
  | .readKeyBinding | .setPanelLock | .rstAssert | .rstRelease | .supplyQualified | .startingEnd _ | .restart
  | .factoryClear | .status _ _ | .command _ _ | .fetch _ _ | .framing _ | .transactionEnd | .readAttention
  | .setAttentionMask => false

/-- One request for a set of channels, and none for the empty set (R34, R49). -/
def asRequest (cs : ChanSet) : List ChanSet := if cs = 0 then [] else [cs]

/-- Tenths of a second from 2000-01-01 00:00:00.0 to the calendar's contents. -/
def Calendar.tenths (c : Calendar) : Nat :=
  (((dayNumber c.year c.month c.day * 24 + c.hour) * 60 + c.minute) * 60 + c.second) * 10 + c.tenth

/-- A valid program definition: at least one target, and the ranges of its kind (R21 to R24, R191). -/
def ProgDef.Valid (d : ProgDef) : Prop :=
  d.targets ≠ 0 ∧ match d.timing with
  | .daily days on off => days ≠ 0 ∧ on ≤ 1439 ∧ off ≤ 1439 ∧ off ≠ on
  | .dated start stop => start.inRange = true ∧ stop.inRange = true ∧ start.minutes < stop.minutes ∧
      stop.minutes ≤ start.minutes + 527040
  | .cycle anchor period onLength => anchor.inRange = true ∧ 2 ≤ period ∧ period ≤ 1440 ∧ 1 ≤ onLength ∧
      onLength < period

/-- What an event that tests and evaluates the whole Program Table against `p` does to it (R27, R28, R34, R35, R36). -/
structure EvaluatesTable (p : Present) (s t : State) : Prop where
  /-- a passed DATED record frees its slot while the validity carried is VALID; every other record is evaluated -/
  slots : ∀ i : ProgIdx, t.ret.programs[i] = match s.ret.programs[i].live with
    | none => s.ret.programs[i]
    | some r =>
      if p.valid = true ∧ r.defn.timing.ended p.time = true then ⟨none, s.ret.programs[i].gen + 1, .ended⟩
      else { s.ret.programs[i] with live := some (r.evaluate p) }
  /-- the epoch advances once for each record retired -/
  epoch : t.ret.epoch = s.ret.epoch + BitVec.ofNat 16 ((List.finRange 96).filter fun i =>
    s.ret.programs[i].live.isSome && t.ret.programs[i].live.isNone).length
  /-- the retired handles' flags are raised -/
  flags : ∀ i : ProgIdx, t.att.program.getLsbD i.val =
    (s.att.program.getLsbD i.val || (s.ret.programs[i].live.isSome && t.ret.programs[i].live.isNone))
  /-- one request names the channels concerned -/
  request : t.mail.requests = s.mail.requests ++ asRequest (concerned s.ret.programs t.ret.programs)

/-- What the resolver hands on at the end of an event, from its results before and after (R90 to R92). -/
structure Concludes (s t : State) : Prop where
  /-- one hand-off of the changed effective targets -/
  handOff : t.mail.handOffs = s.mail.handOffs ++ (match handOffOf s.results t.results with
    | [] => []
    | ts => [ts])
  /-- one report of the changed verdicts -/
  verdicts : t.mail.verdictReports = s.mail.verdictReports ++ (match verdictReportOf s.results t.results with
    | [] => []
    | vs => [vs])
  /-- the CHANNEL flags of the changed governing sources -/
  flags : ∀ ch : Chan, t.att.channel.getLsbD ch.val =
    (s.att.channel.getLsbD ch.val || decide (s.results[ch].source ≠ t.results[ch].source))

/-- The effective target and INHIBITED mark of a channel are those of R87 for its resolved level, its group and the group's
holder. -/
def State.settled (s : State) (ch : Chan) : Prop :=
  match (s.chan ch).group with
  | none => s.results[ch].target = s.results[ch].level ∧ s.results[ch].inhibited = false
  | some g =>
    if s.holders[g.idx] = some ch then
      s.results[ch].target = s.results[ch].level ∧ s.results[ch].inhibited = false
    else s.results[ch].target = 0 ∧ (s.results[ch].inhibited = true ↔ s.results[ch].level ≠ 0)

/-- The results and holders after an event that ranks `ranked` afresh and arbitrates `groups`, `also` being a channel that has
just left its group (R78, R85 to R89): a channel ranked takes the first candidate of its ranking and its verdict; a group
arbitrated takes its holder; the channels ranked, the channel that left, and the members of the groups take their effective
target and mark; everything else is kept. -/
structure Resolves (ranked also : ChanSet) (groups : List Group) (s t : State) : Prop where
  rankedAfresh : ∀ ch : Chan, ranked.getLsbD ch.val = true →
    ∃ c, (ranking t ch).head? = some c ∧ t.results[ch].source = c.source ∧ t.results[ch].rank = c.rank ∧
      t.results[ch].level = c.level ∧ t.results[ch].verdict = verdictOf t ch
  kept : ∀ ch : Chan, ranked.getLsbD ch.val = false →
    t.results[ch].source = s.results[ch].source ∧ t.results[ch].rank = s.results[ch].rank ∧
    t.results[ch].level = s.results[ch].level ∧ t.results[ch].verdict = s.results[ch].verdict
  holders : ∀ g : Group, t.holders[g.idx] = if g ∈ groups then arbitrate t t.results g else s.holders[g.idx]
  targets : ∀ ch : Chan,
    ranked.getLsbD ch.val = true ∨ also.getLsbD ch.val = true ∨ (∃ g ∈ groups, (t.chan ch).group = some g) →
    t.settled ch
  still : ∀ ch : Chan,
    ¬(ranked.getLsbD ch.val = true ∨ also.getLsbD ch.val = true ∨ (∃ g ∈ groups, (t.chan ch).group = some g)) →
    t.results[ch].target = s.results[ch].target ∧ t.results[ch].inhibited = s.results[ch].inhibited

/-! ### The first byte of a transaction -/

/-- The row takes the first byte of a transaction (R167), `x` being the transaction as its first byte began and `before` what the
part has shifted out by the end of it: where the row stands for the whole byte, no transaction is in progress and the status byte
begins in the same step; where it stands for the eighth bit, the transaction has begun and its first byte has not been taken. -/
def State.TakesFirstByte (s : State) (part : FirstByte) (x : Transaction) (before : List Byte) : Prop :=
  s.sup.state = .running ∧
  ((part = .whole ∧ s.link.transaction = none ∧ x = ⟨s.link.stickyError, false, false, false⟩ ∧ before = [s.statusByte]) ∨
   (part = .taken ∧ s.link.transaction = some x ∧ x.named = false ∧ before = s.link.miso))

/-! ### What the sequencer does with one channel -/

/-- A channel that drops from a non-zero applied level to 0 and goes to a state: its off stamp and its group's changeover stamp
are made, any ramp stops, the clean-run timer stops and the overcurrent filter falls to 0, its CHANNEL flag is raised, and a
group member is reported to the resolver (R105, R112, R115, R116, R129, R131). -/
def State.dropped (s : State) (ch : Chan) (st : SwState) : State :=
  { s with
    sw := s.sw.set ch { s.sw[ch] with
      state := st, applied := 0, offStamp := s.runCount, minOffPast := false, ramping := false }
    faults := s.faults.set ch { s.faults[ch] with cleanRunning := false, filterTime := 0 }
    gapStamps := match s.ret.channels[ch].group with
      | some g => s.gapStamps.set g.idx ⟨s.runCount, false⟩
      | none => s.gapStamps
    att := { s.att with channel := s.att.channel ||| BitVec.twoPow 16 ch.val }
    mail := match s.ret.channels[ch].group with
      | some _ => { s.mail with levelReports := s.mail.levelReports ++ [BitVec.twoPow 16 ch.val] }
      | none => s.mail }

/-- A channel that ramps starts below the level it is admitted at: it is DIMMED with a ramp step, and the level is above 1
(R109, R113). -/
def risesTo (r : ChanRec) (l : Level) : Bool := decide (r.kind = .dimmed ∧ r.ramp ≠ 0 ∧ 1 < l)

/-- The switching record of a channel admitted at a level: ON, at 1 where it rises to the level by a ramp that starts, with the
min-on dwell started (R109, R113). -/
def admittedRecord (r : ChanRec) (now : RunCount) (w : Switching) (l : Level) : Switching :=
  { w with
    state := .on, applied := if risesTo r l then 1 else l, admStamp := now, minOnPast := false,
    rampStamp := if risesTo r l then now else w.rampStamp, ramping := risesTo r l }

/-- A channel admitted at a level: its record as `admittedRecord` gives it, the stagger timer and the clean-run timer started, its
CHANNEL flag raised, and a group member reported (R109, R113, R131). -/
def State.admitted (s : State) (ch : Chan) (l : Level) : State :=
  { s with
    sw := s.sw.set ch (admittedRecord s.ret.channels[ch] s.runCount s.sw[ch] l)
    faults := s.faults.set ch { s.faults[ch] with cleanRunning := true }
    lastAdm := s.runCount
    staggerPast := false
    att := { s.att with channel := s.att.channel ||| BitVec.twoPow 16 ch.val }
    mail := match s.ret.channels[ch].group with
      | some _ => { s.mail with levelReports := s.mail.levelReports ++ [BitVec.twoPow 16 ch.val] }
      | none => s.mail }

/-- A channel changes state, raising its CHANNEL flag; in the state it has, nothing changes (R116). -/
def State.moved (s : State) (ch : Chan) (st : SwState) : State :=
  if s.sw[ch].state = st then s
  else { s with
    sw := s.sw.set ch { s.sw[ch] with state := st }
    att := { s.att with channel := s.att.channel ||| BitVec.twoPow 16 ch.val } }

/-- The channel's group is busy for it: another member has a non-zero applied level, or the changeover gap has not run from the
group's stamp, its long-past mark being clear (R99, R103). -/
def State.busyFor (s : State) (ch : Chan) : Prop :=
  ∃ g, s.ret.channels[ch].group = some g ∧
    ((∃ o : Chan, o ≠ ch ∧ s.ret.channels[o].group = some g ∧ s.sw[o].applied ≠ 0) ∨
      (s.gapStamps[g.idx].past = false ∧
        (s.runCount - s.gapStamps[g.idx].stamp).toNat < s.ret.gaps[g.idx].toNat))

/-- The channel's min-off timer has elapsed (R99). -/
def State.minOffOver (s : State) (ch : Chan) : Prop :=
  s.sw[ch].minOffPast = true ∨ s.ret.channels[ch].minOff.toNat * 10 ≤ (s.runCount - s.sw[ch].offStamp).toNat

/-- The channel's min-on timer has elapsed (R99). -/
def State.minOnOver (s : State) (ch : Chan) : Prop :=
  s.sw[ch].minOnPast = true ∨ s.ret.channels[ch].minOn.toNat * 10 ≤ (s.runCount - s.sw[ch].admStamp).toNat

/-- The stagger timer has elapsed (R99). -/
def State.staggerOver (s : State) : Prop :=
  s.staggerPast = true ∨ s.ret.stagger.toNat ≤ (s.runCount - s.lastAdm).toNat

/-- The Switching Queue with a new entry in its place: FIRST after the FIRST entries, NORMAL at the end (R107). -/
def queueWith (q : List QueueEntry) (e : QueueEntry) : List QueueEntry :=
  if e.queueClass = .first then
    q.filter (fun x => decide (x.queueClass = .first)) ++ [e] ++ q.filter (fun x => decide (x.queueClass ≠ .first))
  else q ++ [e]

/-- The switching record of a driven channel that heads for a non-zero level in ON: at once, or by a ramp that runs on or
starts (R102, R113). -/
def headed (r : ChanRec) (now : RunCount) (w : Switching) (l : Level) : Switching :=
  if r.kind = .dimmed ∧ r.ramp ≠ 0 then
    if w.applied = l then { w with ramping := false }
    else if w.ramping = true then w
    else { w with rampStamp := now, ramping := true }
  else { w with applied := l, ramping := false }

/-- What the entry of the ALL-OFF condition does (R119): driven channels drop to 0 with their stamps, the queue empties, waiting
channels go to HOLD(ALL-OFF), and OFF, FAULTED and LOCKED channels stay. -/
structure EntersAllOff (s t : State) : Prop where
  driven : ∀ ch : Chan, s.sw[ch].state = .on ∨ s.sw[ch].state = .ending ∨ s.sw[ch].state = .fading →
    t.sw[ch] = { s.sw[ch] with
      state := if s.sw[ch].target = 0 then .off else .hold .allOff,
      applied := 0, offStamp := s.runCount, minOffPast := false, ramping := false } ∧
    t.faults[ch] = { s.faults[ch] with cleanRunning := false, filterTime := 0 }
  waiting : ∀ ch : Chan, s.sw[ch].state = .queued ∨ (∃ r, s.sw[ch].state = .hold r) →
    t.sw[ch] = { s.sw[ch] with state := .hold .allOff } ∧ t.faults[ch] = s.faults[ch]
  resting : ∀ ch : Chan, s.sw[ch].state = .off ∨ s.sw[ch].state = .faulted ∨ s.sw[ch].state = .locked →
    t.sw[ch] = s.sw[ch] ∧ t.faults[ch] = s.faults[ch]
  queue : t.queue = []
  gaps : ∀ g : Group, t.gapStamps[g.idx] =
    if ∃ ch : Chan, s.ret.channels[ch].group = some g ∧ s.sw[ch].state.driven = true then ⟨s.runCount, false⟩
    else s.gapStamps[g.idx]
  flags : ∀ ch : Chan, t.att.channel.getLsbD ch.val =
    (s.att.channel.getLsbD ch.val || decide (t.sw[ch].state ≠ s.sw[ch].state))
  raised : t.att.allOff = true
  reports : t.mail.levelReports = s.mail.levelReports ++ asRequest (chansWhere fun ch =>
    s.ret.channels[ch].group.isSome && decide (s.sw[ch].applied ≠ 0))

/-! ### Invariants -/

/-- What the backup domain holds has meaning: it is powered, and the backup-lost marker is clear (R156). -/
def State.meaningful (s : State) : Prop := s.sup.state ≠ .off ∧ s.sup.backupLost = false

/-- Between changes the retained store and its check value agree (R159). -/
def State.CheckFollows (s : State) : Prop := s.meaningful → s.check = ⟨s.ret⟩

/-- The calendar holds a date and a time of its range (R1). -/
def State.CalendarInRange (s : State) : Prop := s.meaningful → s.cal.inRange = true

/-- Each channel belongs to the channel set of at most one live override, and every live set, every binding and every
creation a key has handed on holds at least one channel (R47, R48). -/
structure State.OverridesApart (s : State) : Prop where
  apart : ∀ i j : OvrIdx, i ≠ j → s.ret.overrides[i].channels &&& s.ret.overrides[j].channels = 0
  nonempty : ∀ (i : OvrIdx) (r : OvrRec), s.ret.overrides[i].live = some r → r.channels ≠ 0
  bindings : ∀ (k : KeyIdx) (b : Binding), s.ret.bindings[k] = some b → b.channels ≠ 0
  waiting : ∀ (k : KeyIdx) (c : Creation), .create c ∈ s.mail.keyRequests[k] → c.channels ≠ 0

/-- The invariant of the Override Table, while the backup domain has meaning. -/
def State.OverridesSound (s : State) : Prop := s.meaningful → s.OverridesApart

/-- While RUNNING, every effective target and INHIBITED mark is that of R87. -/
def State.TargetsSettled (s : State) : Prop := s.sup.state = .running → ∀ ch : Chan, s.settled ch

/-- The switching records, the Switching Queue and the locks agree as R98, R106, R113, R119 and R128 state. -/
structure State.SwitchingAgrees (s : State) : Prop where
  /-- the queue holds exactly the channels in state QUEUED (R106) -/
  queued : ∀ ch : Chan, ch ∈ s.queue.map (·.chan) ↔ s.sw[ch].state = .queued
  /-- and no channel twice -/
  once : (s.queue.map (·.chan)).Nodup
  /-- an entry's level is its channel's target -/
  levels : ∀ e ∈ s.queue, e.level = s.sw[e.chan].target
  /-- every FIRST entry stands ahead of every NORMAL entry -/
  classes : s.queue.Pairwise fun a b => a.queueClass = .normal → b.queueClass = .normal
  /-- the applied level is not 0 exactly in ON, ENDING and FADING (R98) -/
  applied : ∀ ch : Chan, s.sw[ch].applied ≠ 0 ↔ s.sw[ch].state.driven = true
  /-- OFF, ENDING and FADING channels have target 0 -/
  wishOff : ∀ ch : Chan, s.sw[ch].state = .off ∨ s.sw[ch].state = .ending ∨ s.sw[ch].state = .fading → s.sw[ch].target = 0
  /-- HOLD, QUEUED and ON channels have a target that is not 0 -/
  wishOn : ∀ ch : Chan, (∃ r, s.sw[ch].state = .hold r) ∨ s.sw[ch].state = .queued ∨ s.sw[ch].state = .on →
    s.sw[ch].target ≠ 0
  /-- a ramp runs exactly while the channel is ON with its applied level off its target (R113) -/
  ramp : ∀ ch : Chan, s.sw[ch].ramping = true ↔ s.sw[ch].state = .on ∧ s.sw[ch].applied ≠ s.sw[ch].target
  /-- the lock is set exactly while the state is LOCKED (R128) -/
  locks : ∀ ch : Chan, s.ret.locks[ch] = true ↔ s.sw[ch].state = .locked
  /-- the fault count never exceeds the retry limit plus one (R128) -/
  counts : ∀ ch : Chan, s.faults[ch].count ≤ (s.chan ch).retry.val + 1
  /-- in the ALL-OFF condition every applied level is 0 and the queue is empty (R119) -/
  allOff : s.allOff = true → s.queue = [] ∧ ∀ ch : Chan, s.sw[ch].applied = 0
  /-- a hand-off names no channel twice (R90) -/
  handOffs : ∀ ts ∈ s.mail.handOffs, (ts.map (·.1)).Nodup

/-! ### What an event does to the waiting channels -/

/-- What is left of a queue whose head is tested with the stagger timer elapsed, `u` being the part with its queue emptied: with
a stagger interval its head is admitted, and with an interval of 0 the queue empties; an empty queue admits none (R109). -/
structure AdmitsHead (u : State) (q : List QueueEntry) (t : State) : Prop where
  head : ∀ h rest, q = h :: rest → u.ret.stagger ≠ 0 → t = State.admitted { u with queue := rest } h.chan h.level
  empty : q = [] → t = u
  emptied : u.ret.stagger = 0 → t.queue = [] ∧ ∀ x ∈ q, t.sw[x.chan].state = .on ∧ t.sw[x.chan].admStamp = u.runCount

/-- The entries of a queue are of channels that are QUEUED and undriven, each once, each with a level that is not 0
(R106). -/
def State.Waiting (s : State) (q : List QueueEntry) : Prop :=
  (q.map (·.chan)).Nodup ∧ ∀ e ∈ q, e.level ≠ 0 ∧ s.sw[e.chan].state = .queued ∧ s.sw[e.chan].applied = 0

/-- The eligibility tests in their order: `t` is what an event leaves in which channel `ch` of `s`, undriven, makes them
(R103, R107, R109). A channel that passes them waits in the queue, and where the stagger timer has elapsed the head of the
queue is admitted in that step: the channel itself where the queue was empty. An admission is of a target that is not 0 (R106). -/
structure TakesTests (s : State) (ch : Chan) (t : State) : Prop where
  allOff : s.allOff = true → t = s.moved ch (.hold .allOff)
  dwell : s.allOff = false → ¬s.minOffOver ch → t = s.moved ch (.hold .dwell)
  group : s.allOff = false → s.minOffOver ch → s.busyFor ch → t = s.moved ch (.hold .group)
  queued : s.allOff = false → s.minOffOver ch → ¬s.busyFor ch → ¬s.staggerOver →
    t = { s with queue := queueWith s.queue ⟨ch, s.ret.channels[ch].queueClass, s.sw[ch].target⟩ }.moved ch .queued
  admitted : s.allOff = false → s.minOffOver ch → ¬s.busyFor ch → s.staggerOver → s.queue = [] →
    s.sw[ch].target ≠ 0 → t = s.admitted ch s.sw[ch].target
  head : s.allOff = false → s.minOffOver ch → ¬s.busyFor ch → s.staggerOver → s.queue ≠ [] → s.Waiting s.queue →
    s.sw[ch].target ≠ 0 → s.sw[ch].state ≠ .queued →
    AdmitsHead ({ s with queue := [] }.moved ch .queued)
      (queueWith s.queue ⟨ch, s.ret.channels[ch].queueClass, s.sw[ch].target⟩) t

/-- The entries of one class of a list, in its order. -/
def ofClass (c : QueueClass) (q : List QueueEntry) : List QueueEntry := q.filter fun e => decide (e.queueClass = c)

/-- What an event of the sequencer leaves of the Switching Queue, where `kept` stands of the queue before it and exactly the
channels that satisfy `enters` enter. The channels enter in ascending order within each class, FIRST after the FIRST entries and
NORMAL after all (R107). A new entry, and another channel at the head, have the head tested (R108, R109): `gone` are the entries
admitted from the head, one where there is a stagger interval and all of them where there is none, and none before the stagger
timer has elapsed. -/
def QueueTakes (s : State) (kept : List QueueEntry) (enters : Chan → Prop) (t : State) : Prop :=
  ∃ new gone : List QueueEntry,
    (new.map (·.chan)).Pairwise (· < ·) ∧ (∀ ch : Chan, ch ∈ new.map (·.chan) ↔ enters ch) ∧
    (∀ e ∈ new, e.queueClass = s.ret.channels[e.chan].queueClass ∧ e.level = t.sw[e.chan].target) ∧
    gone ++ t.queue = ofClass .first kept ++ ofClass .first new ++ ofClass .normal kept ++ ofClass .normal new ∧
    (∀ e ∈ t.queue, t.sw[e.chan].state = .queued) ∧
    (∀ e ∈ gone, t.faults[e.chan].cleanRunning = true ∧
      t.sw[e.chan] = admittedRecord s.ret.channels[e.chan] s.runCount { s.sw[e.chan] with target := e.level } e.level) ∧
    (t.lastAdm = if gone = [] then s.lastAdm else s.runCount) ∧
    (t.staggerPast = if gone = [] then s.staggerPast else false) ∧
    let tested := new ≠ [] ∨ (gone ++ t.queue).head?.map (·.chan) ≠ s.queue.head?.map (·.chan)
    (¬(tested ∧ s.staggerOver) → gone = []) ∧
    (tested → s.staggerOver → s.ret.stagger ≠ 0 → gone.length = min 1 (gone ++ t.queue).length) ∧
    (tested → s.ret.stagger = 0 → t.queue = [])

/-- The CHANNEL flags and the applied-level report of one event of the sequencer: a flag for every channel whose switching state or
HOLD reason changed, and one report of the group members whose applied level changed between 0 and non-zero (R115, R116). -/
structure Announces (s t : State) : Prop where
  flags : ∀ ch : Chan, t.att.channel.getLsbD ch.val =
    (s.att.channel.getLsbD ch.val || decide (t.sw[ch].state ≠ s.sw[ch].state))
  reports : t.mail.levelReports = s.mail.levelReports ++ asRequest (chansWhere fun ch =>
    s.ret.channels[ch].group.isSome && decide ((s.sw[ch].applied = 0) ≠ (t.sw[ch].applied = 0)))

/-- The channels that wait make the eligibility tests one after another, and then the head is tested: what `t` holds of each
channel after it, of the queue, and of what is announced; nothing else changes (R103, R104, R107, R115, R116, R120). -/
structure RetestsAll (waits : Chan → Prop) (s t : State) : Prop where
  still : ∀ ch : Chan, ¬waits ch → (∀ e ∈ s.queue, e.chan ≠ ch) → t.sw[ch] = s.sw[ch]
  allOff : ∀ ch : Chan, waits ch → s.allOff = true → t.sw[ch] = { s.sw[ch] with state := .hold .allOff }
  dwell : ∀ ch : Chan, waits ch → s.allOff = false → ¬s.minOffOver ch → t.sw[ch] = { s.sw[ch] with state := .hold .dwell }
  group : ∀ ch : Chan, waits ch → s.allOff = false → s.minOffOver ch → s.busyFor ch →
    t.sw[ch] = { s.sw[ch] with state := .hold .group }
  eligible : ∀ ch : Chan, waits ch → s.allOff = false → s.minOffOver ch → ¬s.busyFor ch →
    t.sw[ch] = { s.sw[ch] with state := .queued } ∨ (t.sw[ch].state = .on ∧ t.sw[ch].admStamp = s.runCount)
  order : s.SwitchingAgrees →
    QueueTakes s s.queue (fun ch => waits ch ∧ s.allOff = false ∧ s.minOffOver ch ∧ ¬s.busyFor ch) t ∧ Announces s t ∧
    ∀ ch : Chan, t.faults[ch] = if t.sw[ch].state = .on ∧ s.sw[ch].state ≠ .on
      then { s.faults[ch] with cleanRunning := true } else s.faults[ch]
  frame : t = { s with
    sw := t.sw
    faults := t.faults
    queue := t.queue
    lastAdm := t.lastAdm
    staggerPast := t.staggerPast
    att := { s.att with channel := t.att.channel }
    mail := { s.mail with levelReports := t.mail.levelReports } }

/-! ### The remaining invariants -/

/-- The invariant of the switching sequencer while RUNNING. -/
def State.SwitchingSound (s : State) : Prop := s.sup.state = .running → s.SwitchingAgrees

/-- One gate's working state agrees with its enabled choice as R64 and R70 state. -/
structure GateWork.Agrees (w : GateWork) (enabled : Bool) : Prop where
  /-- the state is DISABLED exactly while the gate is not enabled -/
  disabled : w.state = .disabled ↔ enabled = false
  /-- the mode of a DISABLED gate is AUTO -/
  auto : w.state = .disabled → w.mode = .auto
  /-- the direction is none exactly while the run counter is 0 -/
  direction : w.counter = 0 ↔ w.direction = .none
  /-- a gate forced LOW is LOW and counts nothing -/
  low : w.mode = .forcedLow → w.state = .low ∧ w.counter = 0
  /-- a gate forced HIGH is HIGH and counts nothing -/
  high : w.mode = .forcedHigh → w.state = .high ∧ w.counter = 0
  /-- while the gate is LOW a run heads toward HIGH alone -/
  whileLow : w.state = .low → w.direction ≠ .towardLow
  /-- while it is HIGH, toward LOW alone -/
  whileHigh : w.state = .high → w.direction ≠ .towardHigh
  /-- a DISABLED gate counts nothing -/
  still : w.state = .disabled → w.counter = 0

/-- The invariant of the gate unit while RUNNING. -/
def State.GatesSound (s : State) : Prop :=
  s.sup.state = .running → ∀ g : GateIdx, s.gates[g].Agrees s.ret.gates[g].enabled

end Sys2Proof.Machine
end

