-- ==== Sys2Proof/WellFormed.lean ====
section
/-! DEFINITION. Which commands are well formed: the operand ranges that the rows' own descriptions give. The machine
gives every command a meaning, well formed or not. -/

namespace Sys2Proof

/-- The first bytes that name a transaction (R167). -/
def namesTransaction (b : Byte) : Bool := b == 0x00 || b == 0xC3 || b == 0x3C

/-- A command is well formed: a supply event carries a level on the side of the threshold its row names (R155, R156),
and a framing error's first byte names no transaction (R167). -/
def Instr.wellFormed : Instr → Bool
  | .vddFall mv => decide (mv < Config.vddFallLevel)
  | .vddRise mv => decide (Config.vddRiseLevel ≤ mv)
  | .vddBelowQualificationThreshold mv => decide (mv < Config.vddRiseLevel)
  | .backupSupplyFall vbat => decide (vbat < Config.backupLostLevel)
  | .backupDomainLoss vdd vbat => decide (vdd < Config.domainLossLevel) && decide (vbat < Config.domainLossLevel)
  | .backupDomainPowerUp vdd vbat => decide (Config.domainLossLevel ≤ vdd) || decide (Config.domainLossLevel ≤ vbat)
  | .framing (.firstByte b _ _) => !namesTransaction b
  | .framing .riseMidFrame => true
  | .calendarAdvance | .minuteBoundary | .yearRollover | .readTime | .setTime _ | .createProgram | .editProgram
  | .readProgram | .enableProgram | .disableProgram | .deleteProgram | .listPrograms | .reResolutionRequest _
  | .verdictReport | .gateChangeReport | .createOverride | .creationRequest _ | .extendOverride | .cancelOverride
  | .releaseChannels | .release _ | .overrideExpiry _ | .readOverrides | .setResumePolicy | .converterRound _ _ _ _ _
  | .configureGate | .setGateMode | .readGates | .configureChannel | .setChannelTiming | .setFallback | .configureGroup
  | .readChannel | .explainChannel | .appliedLevelReport _ | .handOff | .staggerExpiry | .minOnExpiry _ | .minOffExpiry _
  | .changeoverGapExpiry _ | .rampTimerExpiry _ | .longPastMark _ | .allOffPinChange _ | .forceAllOff | .releaseAllOff
  | .setStagger | .readQueue | .overcurrentReport _ | .retryTimerExpiry _ | .cleanRunExpiry _ | .clearFault | .keySample _
  | .holdTimerExpiry _ | .bindKey | .readKeyBinding | .setPanelLock | .rstAssert | .rstRelease | .supplyQualified
  | .startingEnd _ | .restart | .factoryClear | .status _ _ | .command _ _ | .fetch _ _ | .transactionEnd | .readAttention
  | .setAttentionMask => true

end Sys2Proof
end

