-- ==== Sys2Proof/Certificates/Slice0/Obligations.lean ====
section
/-! DEFINITION. The statements for the provers, in the order of OBLIGATIONS.json. -/

open Sys2Proof Sys2Proof.Machine

/-! ### The step and the commands as a whole -/

/-- The step takes the command at the front of the queue with the queue's rest, and idles on an empty queue. The queue and
the idling are the model's (notes/assumptions/2.md). -/
def Obligations.StepTakesTheFrontCommand : Prop :=
  (∀ (c : Instr) (rest : List Instr) (s : State), s.pending = c :: rest →
    step s = exec c { s with pending := rest }) ∧
  ∀ s : State, s.pending = [] → step s = .next s

/-- Every row answers a next state in every state, and leaves the waiting commands as they are. That is the model's: the queue is its
own (notes/assumptions/2.md), a host command's row without that command in EXECUTING changes nothing (notes/assumptions/5.md), and so
does a row that finds nothing handed on (notes/assumptions/6.md) or nothing due (notes/assumptions/7.md). A completion of any command
but RESTART and FACTORY CLEAR fills the response slot with the code's echo, takes the link to READY and raises RESPONSE, and the
supervisor stays as it is (R172). -/
def Obligations.EveryCommandCompletes : Prop :=
  (∀ (c : Instr) (s : State), ∃ t, exec c s = .next t ∧ t.pending = s.pending) ∧
  (∀ (c : Instr) (code : Byte) (params : List Byte) (s : State),
     hostCode c = some code → code ≠ 0x5E → code ≠ 0x5F → s.holds code params →
     ∃ t result payload, exec c s = .next t ∧ t.link.state = .ready ⟨code, result, payload⟩ ∧
       t.att.response = true ∧ t.sup = s.sup)

/-- A command that fails a check changes nothing but the link and the RESPONSE flag. A host command makes its length and field
checks in the order its entry gives: the first that fails is answered BAD-PARAMETER with the index that goes with it, and where none
fails the answer is another; and one whose entry gives one parameter length, and whose frame has another, is answered
BAD-PARAMETER with the index of the first byte missing or surplus (R187, R188, R190 to R217). That a CREATE or EDIT
PROGRAM too short to hold its kind fails by its length alone is the model's reading (notes/assumptions/14.md). -/
def Obligations.RefusedCommandsChangeNothing : Prop :=
  (∀ (c : Instr) (code : Byte) (params : List Byte) (s t : State) (r : Response),
     hostCode c = some code → s.holds code params → exec c s = .next t → t.link.state = .ready r → r.result ≠ .ok →
     t = s.answered code r.result r.payload) ∧
  (∀ (c : Instr) (code : Byte) (n : Nat) (params : List Byte) (s : State),
     hostCode c = some code → fixedLength c = some n → s.holds code params → params.length ≠ n →
     exec c s = .next (s.answered code .badParameter [BitVec.ofNat 8 (min params.length n)])) ∧
  ∀ (c : Instr) (code : Byte) (params : List Byte) (s : State), hostCode c = some code → s.holds code params →
    (∀ index : Nat, firstFailing (paramChecks params c) = some index →
      exec c s = .next (s.answered code .badParameter [BitVec.ofNat 8 index])) ∧
    (firstFailing (paramChecks params c) = none → ∀ (t : State) (r : Response), exec c s = .next t →
      t.link.state = .ready r → r.result ≠ .badParameter)

/-- While the supervisor is not RUNNING, no event of another block and no host command is taken (R42, R61, R82, R124,
R157), and every transaction reads 0xFF throughout and leaves the link as it was (R158), whichever part of its first byte
a row stands for, a division that is the model's (notes/assumptions/17.md). -/
def Obligations.NothingIsTakenOutsideRunning : Prop :=
  ∀ s : State, s.sup.state ≠ .running →
    (∀ c : Instr, takenWhileRunning c = true → exec c s = .next s) ∧
    ∀ (part : FirstByte) (n : Nat) (bytes : List Byte) (b : Byte),
      let deaf (further : Nat) : State := { s with link := { s.link with
        miso := List.replicate (if part = .begins then 1 else further + 1) 0xFF } }
      exec (.status n part) s = .next (deaf n) ∧ exec (.fetch n part) s = .next (deaf n) ∧
      exec (.command bytes part) s = .next (deaf bytes.length) ∧
      (namesTransaction b = false → exec (.framing (.firstByte b part n)) s = .next (deaf n))

/-- Only a step of the time base, the year rollover, the end of a start and the loss of the backup domain change the run
count; beside these only SET TIME changes the calendar; and only SET TIME, or what a lost backup domain holds, turns the
clock from INVALID to VALID (R5, R7, R156). -/
def Obligations.TimeHasFewWriters : Prop :=
  ∀ (c : Instr) (s t : State), exec c s = .next t →
    (t.runCount ≠ s.runCount →
      c = .calendarAdvance ∨ c = .yearRollover ∨ (∃ pin, c = .startingEnd pin) ∨ bringsSupplyLevels c = true) ∧
    (t.cal ≠ s.cal →
      c = .calendarAdvance ∨ c = .yearRollover ∨ (∃ stepDue, c = .setTime stepDue) ∨ (∃ pin, c = .startingEnd pin) ∨
        bringsSupplyLevels c = true) ∧
    (t.ret.clockValid = true → s.ret.clockValid = false →
      (∃ stepDue, c = .setTime stepDue) ∨ bringsSupplyLevels c = true)

/-! ### Invariants -/

/-- Every step keeps the retained store and its check value in agreement (R159). -/
def Obligations.EveryStepKeepsTheCheckValue : Prop :=
  ∀ s t : State, s.CheckFollows → step s = .next t → t.CheckFollows

/-- Every step keeps the calendar within its range (R1). -/
def Obligations.EveryStepKeepsTheCalendarInRange : Prop :=
  ∀ s t : State, s.CalendarInRange → step s = .next t → t.CalendarInRange

/-- Every step keeps each channel in at most one live override, and every live override at least one channel (R48). -/
def Obligations.EveryStepKeepsTheOverridesApart : Prop :=
  ∀ s t : State, s.OverridesSound → step s = .next t → t.OverridesSound

/-- Every step keeps the effective targets and INHIBITED marks those of R87; and where they are, each interlock group has at
most one member with a non-zero effective target. -/
def Obligations.EveryStepKeepsTheTargetsSettled : Prop :=
  (∀ s t : State, s.TargetsSettled → step s = .next t → t.TargetsSettled) ∧
  (∀ (s : State) (g : Group) (a b : Chan), s.TargetsSettled → s.sup.state = .running →
     (s.chan a).group = some g → (s.chan b).group = some g → s.results[a].target ≠ 0 → s.results[b].target ≠ 0 → a = b)

/-- Every step keeps the switching records, the Switching Queue, the locks and the ALL-OFF condition in agreement (R98,
R106, R113, R119, R128). That the ramping mark is set in ON alone, and so clear in FADING, is the model's reading
(notes/assumptions/12.md). -/
def Obligations.EveryStepKeepsSwitchingSound : Prop :=
  ∀ s t : State, s.SwitchingSound → step s = .next t → t.SwitchingSound

/-- Every step keeps the gates' working state in agreement with their enabled choices (R64, R70). -/
def Obligations.EveryStepKeepsTheGatesSound : Prop :=
  ∀ s t : State, s.GatesSound → step s = .next t → t.GatesSound

/-- The state after reset meets every invariant. -/
def Obligations.ResetMeetsTheInvariants : Prop :=
  State.reset.CheckFollows ∧ State.reset.CalendarInRange ∧ State.reset.OverridesSound ∧ State.reset.TargetsSettled ∧
  State.reset.SwitchingSound ∧ State.reset.GatesSound

/-- The state after reset holds the cold values of every block, the stamps and marks of the sequencer among them (R125), START and
CLOCK pending and nothing else, ATTN# released, no transaction in progress, and nothing handed on. That reset stands right after a
cold start that sampled the ALL-OFF# pin as released, and the supply levels, are the model's choice (notes/assumptions/1.md). -/
def Obligations.ResetHoldsTheColdValues : Prop :=
  let s := State.reset
  s.cal = ⟨2000, 1, 1, 0, 0, 0, 0⟩ ∧ s.ret.clockValid = false ∧ s.runCount = 0 ∧ s.stepReplaced = false ∧
  (∀ i : ProgIdx, s.ret.programs[i] = ⟨none, 0, .none⟩) ∧ (∀ i : OvrIdx, s.ret.overrides[i] = ⟨none, 0, .none⟩) ∧
  s.ret.epoch = 0 ∧ s.ret.resume = .keep ∧
  (∀ g : GateIdx, s.ret.gates[g] = ⟨false, 64, 192, 4⟩ ∧ s.gates[g] = ⟨.auto, .disabled, 0, .none, 0, false⟩) ∧
  (∀ ch : Chan, s.ret.channels[ch] = ⟨.switch, none, .normal, 0, 0, 0, 0, 2⟩ ∧ s.ret.locks[ch] = false ∧
    s.results[ch] = ⟨.fallback, .fallback, 0, ⟨.fallback, 0⟩, 0, false⟩ ∧
    s.sw[ch] = { state := .off, target := 0, applied := 0, admStamp := 0, minOnPast := false, offStamp := 0,
                 minOffPast := false, rampStamp := 0, ramping := false } ∧
    s.faults[ch] = ⟨0, 0, none, false⟩) ∧
  (∀ g : Group, s.ret.gaps[g.idx] = 0 ∧ s.holders[g.idx] = none ∧ s.gapStamps[g.idx] = ⟨0, false⟩) ∧
  s.ret.stagger = 5 ∧ s.ret.hostLatch = false ∧ s.pinTaken = false ∧ s.allOff = false ∧ s.queue = [] ∧ s.lastAdm = 0 ∧
  s.staggerPast = false ∧
  (∀ k : KeyIdx, s.ret.bindings[k] = none ∧ s.keys[k] = ⟨true, 0, .idle⟩ ∧ s.mail.keyRequests[k] = []) ∧
  s.ret.panelLocked = false ∧ s.ret.mask = 0 ∧
  s.att = { channel := 0, fault := 0, program := 0, override := 0, gate := 0, clock := true, start := true, allOff := false,
            response := false, overrun := false, framing := false } ∧
  s.attn = false ∧ s.link.state = .idle ∧ s.link.stickyError = false ∧ s.link.transaction = none ∧
  s.mail.boundaries = [] ∧ s.mail.gateReports = [] ∧ s.mail.requests = [] ∧ s.mail.verdictReports = [] ∧
  s.mail.handOffs = [] ∧ s.mail.levelReports = [] ∧
  s.sup.state = .running ∧ s.sup.backupLost = false ∧ s.sup.coldRequest = false ∧ s.check = ⟨s.ret⟩ ∧ s.pending = []

/-! ### Time bases -/

/-- The calendar's advance counts every tenth: it stays in range and stands one tenth later, through the month lengths of R1,
and the last instant of the range is followed by the first (R1, R9). 2000-01-01 is a Saturday, and the weekday steps on by one,
Sunday to Monday, exactly when the date does, Monday being weekday 0 (R2). -/
def Obligations.TheCalendarCountsEveryTenth : Prop :=
  ((∀ c : Calendar, c.inRange = true → c ≠ ⟨2099, 12, 31, 23, 59, 59, 9⟩ →
     c.advance.inRange = true ∧ c.advance.tenths = c.tenths + 1) ∧
   (Calendar.mk 2099 12 31 23 59 59 9).advance = ⟨2000, 1, 1, 0, 0, 0, 0⟩ ∧
   ∀ y : Nat, 2000 ≤ y → y ≤ 2099 →
     (List.range 12).map (fun m => monthLength y (m + 1)) =
       [31, if y % 4 = 0 then 29 else 28, 31, 30, 31, 30, 31, 31, 30, 31, 30, 31]) ∧
  (weekday 2000 1 1 = 5 ∧
   ∀ c : Calendar, c.inRange = true → c ≠ ⟨2099, 12, 31, 23, 59, 59, 9⟩ →
     weekday c.advance.year c.advance.month c.advance.day =
       if c.advance.year = c.year ∧ c.advance.month = c.month ∧ c.advance.day = c.day then weekday c.year c.month c.day
       else (weekday c.year c.month c.day + 1) % 7)

/-- CALENDAR_ADVANCE moves the calendar and the run count on together wherever a supply is present, hands on a minute boundary
while RUNNING in the step that takes the second from 59 to 0, and changes nothing else but how long STARTING has lasted; where a
SET TIME taken first has replaced the calendar's step, the run count goes on and the calendar stands, with no boundary and no
rollover (R11); in OFF the time base stands still (R1, R3, R5, R8). From the last instant it makes the rollover: the calendar
returns to its first instant, the clock becomes INVALID, CLOCK is raised while RUNNING, and the boundary is handed on (R9). That
this row may make the rollover beside YEAR_ROLLOVER, and how the replaced step is held, are the model's
(notes/assumptions/8.md). -/
def Obligations.CalendarAdvanceMovesBothTimeBases : Prop :=
  (∀ s : State, s.sup.state ≠ .off →
    let sup := { s.sup with
      startingFor := if s.sup.state = .starting then s.sup.startingFor + 1 else s.sup.startingFor }
    (s.stepReplaced = false → s.cal ≠ ⟨2099, 12, 31, 23, 59, 59, 9⟩ →
      exec .calendarAdvance s = .next { s with
        cal := s.cal.advance
        runCount := s.runCount + 1
        sup := sup
        mail := { s.mail with
          boundaries := if s.sup.state = .running ∧ s.cal.second = 59 ∧ 9 ≤ s.cal.tenth then
              s.mail.boundaries ++ [⟨s.cal.advance.present, s.ret.clockValid⟩]
            else s.mail.boundaries } }) ∧
    (s.stepReplaced = false → s.cal = ⟨2099, 12, 31, 23, 59, 59, 9⟩ →
      exec .calendarAdvance s = .next { s with
        cal := ⟨2000, 1, 1, 0, 0, 0, 0⟩
        runCount := s.runCount + 1
        ret := { s.ret with clockValid := false }
        check := ⟨{ s.ret with clockValid := false }⟩
        sup := sup
        att := { s.att with clock := s.att.clock || decide (s.sup.state = .running) }
        mail := { s.mail with
          boundaries := if s.sup.state = .running then s.mail.boundaries ++ [⟨⟨2000, 1, 1, 0⟩, false⟩]
            else s.mail.boundaries } }) ∧
    (s.stepReplaced = true →
      exec .calendarAdvance s = .next { s with runCount := s.runCount + 1, stepReplaced := false, sup := sup })) ∧
  ∀ s : State, s.sup.state = .off → exec .calendarAdvance s = .next s

/-- MINUTE_BOUNDARY: the record store takes the oldest boundary handed on, and evaluates the whole table against the time and
validity it carries; nothing else changes (R27, R34 to R36). -/
def Obligations.MinuteBoundaryEvaluatesTheTable : Prop :=
  ∀ (s : State) (b : Boundary) (rest : List Boundary), s.sup.state = .running → s.mail.boundaries = b :: rest →
    ∃ t, exec .minuteBoundary s = .next t ∧ EvaluatesTable ⟨s.runCount, b.time, b.valid, s.gates⟩ s t ∧
      t = { s with
        ret := { s.ret with programs := t.ret.programs, epoch := t.ret.epoch }
        check := ⟨t.ret⟩
        att := { s.att with program := t.att.program }
        mail := { s.mail with boundaries := rest, requests := t.mail.requests } }

/-- YEAR_ROLLOVER while RUNNING: the calendar returns to 2000-01-01 00:00:00.0, the clock becomes INVALID, CLOCK is raised,
the run count goes on, and the boundary makes every enabled record UNTIMED, naming the targets of those that were ACTIVE
(R5, R9, R27). In STARTING and RETENTION the calendar and validity change alike, and nothing is handed on or raised. Where no such
step is due the row changes nothing, which is the model's reading (notes/assumptions/8.md). -/
def Obligations.YearRolloverInvalidatesTheClock : Prop :=
  (∀ s : State, s.sup.state = .running → s.cal = ⟨2099, 12, 31, 23, 59, 59, 9⟩ → s.stepReplaced = false →
    s.mail.boundaries = [] →
    ∃ t, exec .yearRollover s = .next t ∧ t.cal = ⟨2000, 1, 1, 0, 0, 0, 0⟩ ∧ t.ret.clockValid = false ∧
      t.runCount = s.runCount + 1 ∧ t.att.clock = true ∧
      (∀ i : ProgIdx, t.ret.programs[i] = { s.ret.programs[i] with live := s.ret.programs[i].live.map fun r =>
        if r.state = .disabled then r else { r with state := .untimed } }) ∧
      t.mail.requests = s.mail.requests ++ asRequest (concerned s.ret.programs t.ret.programs) ∧
      t = { s with
        cal := t.cal
        runCount := t.runCount
        ret := { s.ret with programs := t.ret.programs, clockValid := false }
        check := ⟨t.ret⟩
        att := { s.att with clock := true }
        mail := { s.mail with requests := t.mail.requests } }) ∧
  (∀ s : State, s.sup.state = .starting ∨ s.sup.state = .retention → s.cal = ⟨2099, 12, 31, 23, 59, 59, 9⟩ →
    s.stepReplaced = false →
    exec .yearRollover s = .next { s with
      cal := ⟨2000, 1, 1, 0, 0, 0, 0⟩
      runCount := s.runCount + 1
      ret := { s.ret with clockValid := false }
      check := ⟨{ s.ret with clockValid := false }⟩
      sup := { s.sup with
        startingFor := if s.sup.state = .starting then s.sup.startingFor + 1 else s.sup.startingFor } }) ∧
  ∀ s : State, s.sup.state = .off ∨ s.cal ≠ ⟨2099, 12, 31, 23, 59, 59, 9⟩ ∨ s.stepReplaced = true →
    exec .yearRollover s = .next s

/-- SET TIME loads the calendar with tenth 0, makes the clock VALID, raises CLOCK, and has the record store evaluate the whole
table against the time set; the run count and every other register stand; the answer is OK with no payload (R10, R28,
R190). Taken before a step of the calendar that is due with it, it replaces that step: the run count takes it alone, and the
calendar's next advance is the one after, to the tenth after the time set (R11). Boundaries handed on before are taken before it
(R41). That the row carries whether a step is due, and makes the time set within it, is the model's reading
(notes/assumptions/8.md). -/
def Obligations.SetTimeLoadsTheCalendar : Prop :=
  ∀ (s : State) (stepDue : Bool) (y mo d h mi se : Byte), s.holds 0x02 [y, mo, d, h, mi, se] →
    y.toNat ≤ 99 → 1 ≤ mo.toNat → mo.toNat ≤ 12 → 1 ≤ d.toNat → d.toNat ≤ monthLength (2000 + y.toNat) mo.toNat →
    h.toNat ≤ 23 → mi.toNat ≤ 59 → se.toNat ≤ 59 →
    (s.mail.boundaries = [] →
      ∃ t, exec (.setTime stepDue) s = .next t ∧
        t.cal = ⟨2000 + y.toNat, mo.toNat, d.toNat, h.toNat, mi.toNat, se.toNat, 0⟩ ∧ t.ret.clockValid = true ∧
        EvaluatesTable ⟨s.runCount, ⟨2000 + y.toNat, mo.toNat, d.toNat, h.toNat * 60 + mi.toNat⟩, true, s.gates⟩ s t ∧
        t.link.state = .ready ⟨0x02, .ok, []⟩ ∧
        t = { s with
          cal := t.cal
          stepReplaced := s.stepReplaced || stepDue
          ret := { s.ret with programs := t.ret.programs, epoch := t.ret.epoch, clockValid := true }
          check := ⟨t.ret⟩
          att := { s.att with program := t.att.program, clock := true, response := true }
          mail := { s.mail with requests := t.mail.requests }
          link := { s.link with state := t.link.state } } ∧
        (stepDue = true → ∃ u v, exec .calendarAdvance t = .next u ∧ exec .calendarAdvance u = .next v ∧
          u.cal = t.cal ∧ u.runCount = s.runCount + 1 ∧ u.mail = t.mail ∧
          v.cal = { t.cal with tenth := 1 } ∧ v.runCount = s.runCount + 2)) ∧
    (s.mail.boundaries ≠ [] → ∀ u, exec .minuteBoundary s = .next u →
      exec (.setTime stepDue) s = exec (.setTime stepDue) u)

/-- READ TIME answers OK with the calendar, the weekday, the validity and the run count in 13 bytes, in either validity, and
changes no time state and no flag but RESPONSE; a frame that carries parameters is BAD-PARAMETER with index 0 (R12, R189). -/
def Obligations.ReadTimeReportsTheTime : Prop :=
  ∀ s : State,
    (s.holds 0x01 [] → exec .readTime s = .next (s.answered 0x01 .ok
      ([BitVec.ofNat 8 (s.cal.year - 2000), BitVec.ofNat 8 s.cal.month, BitVec.ofNat 8 s.cal.day,
        BitVec.ofNat 8 s.cal.hour, BitVec.ofNat 8 s.cal.minute, BitVec.ofNat 8 s.cal.second,
        BitVec.ofNat 8 s.cal.tenth, BitVec.ofNat 8 (weekday s.cal.year s.cal.month s.cal.day + 1),
        if s.ret.clockValid then 1 else 0,
        s.runCount.setWidth 8, (s.runCount >>> 8).setWidth 8, (s.runCount >>> 16).setWidth 8,
        (s.runCount >>> 24).setWidth 8]))) ∧
    ∀ params, params ≠ [] → s.holds 0x01 params → exec .readTime s = .next (s.answered 0x01 .badParameter [0])

/-! ### The Program Table -/

/-- An evaluated record that is not DISABLED is ACTIVE exactly when the clock is VALID, the present time lies in a window and
its condition is absent or satisfied; it is UNTIMED exactly when the clock is INVALID, WAITING exactly when the clock is VALID
and the time lies in no window, and SUPPRESSED exactly when the clock is VALID, the time lies in a window and its condition is
present and not satisfied; a DISABLED one stays DISABLED; the definition stands; and a record ACTIVE before and after keeps its
stamp, while one that becomes ACTIVE takes the run count of the step (R20, R25, R26). -/
def Obligations.EvaluationFollowsTheFourInputs : Prop :=
  ∀ (r : ProgRec) (p : Present),
    let satisfied (c : Condition) : Prop := p.gates[c.gate].state = match c.sense with
      | .low => GateState.low
      | .high => GateState.high
    (r.evaluate p).defn = r.defn ∧
    (r.state = .disabled → (r.evaluate p).state = .disabled) ∧
    (r.state ≠ .disabled →
      ((∃ since, (r.evaluate p).state = .active since) ↔
        p.valid = true ∧ r.defn.timing.inWindow p.time = true ∧ ∀ c, r.defn.condition = some c → satisfied c) ∧
      ((r.evaluate p).state = .untimed ↔ p.valid = false) ∧
      ((r.evaluate p).state = .waiting ↔ p.valid = true ∧ r.defn.timing.inWindow p.time = false) ∧
      ((r.evaluate p).state = .suppressed ↔
        p.valid = true ∧ r.defn.timing.inWindow p.time = true ∧ ∃ c, r.defn.condition = some c ∧ ¬satisfied c) ∧
      ∀ since, (r.evaluate p).state = .active since →
        since = match r.state with
          | .active old => old
          | _ => p.runCount)

/-- The windows of the three kinds. A DAILY window opens at the on-minute of each date whose weekday lies in the day set and
lasts to the off-minute, up to 1439 minutes, past midnight where the off-minute is the lesser (R21); a DATED one runs from
its start stamp up to its end stamp (R22); the CYCLE ones open at the anchor and every whole number of periods after it and
last the on-length (R23). A DATED timing has ended exactly when its end stamp is at or before the present time, and no DAILY or
CYCLE timing ends (R24, R35). -/
def Obligations.WindowsOpenAndCloseByKind : Prop :=
  (∀ (days : BitVec 7) (on off : Nat) (now : Stamp), on ≤ 1439 → off ≤ 1439 → on ≠ off → now.minute ≤ 1439 →
    ((Timing.daily days on off).inWindow now = true ↔
      let length := (off + 1440 - on) % 1440
      let today := weekday now.year now.month now.day
      (days.getLsbD today = true ∧ on ≤ now.minute ∧ now.minute < on + length) ∨
      (days.getLsbD ((today + 6) % 7) = true ∧ now.minute + 1440 < on + length))) ∧
  (∀ start stop now : Stamp, start.inRange = true → stop.inRange = true → now.inRange = true →
    ((Timing.dated start stop).inWindow now = true ↔ start.minutes ≤ now.minutes ∧ now.minutes < stop.minutes)) ∧
  (∀ (anchor now : Stamp) (period onLength : Nat), anchor.inRange = true → now.inRange = true → 2 ≤ period →
    onLength < period →
    ((Timing.cycle anchor period onLength).inWindow now = true ↔
      ∃ k, anchor.minutes + k * period ≤ now.minutes ∧ now.minutes < anchor.minutes + k * period + onLength)) ∧
  (∀ start stop now : Stamp, stop.inRange = true → now.inRange = true →
    ((Timing.dated start stop).ended now = true ↔ stop.minutes ≤ now.minutes)) ∧
  (∀ (days : BitVec 7) (on off : Nat) (now : Stamp), (Timing.daily days on off).ended now = false) ∧
  ∀ (anchor now : Stamp) (period onLength : Nat), (Timing.cycle anchor period onLength).ended now = false

/-- The request of an event of the record store on the Program Table names exactly the targets of each record that became
ACTIVE or left ACTIVE, and the old and new targets of each that was ACTIVE throughout and whose level, priority or targets
changed (R34). -/
def Obligations.RequestsNameTheChannelsConcerned : Prop :=
  ∀ (before after : Vector ProgSlot 96) (ch : Chan), (concerned before after).getLsbD ch.val = true ↔
    ∃ i : ProgIdx,
      match before[i].activeDef, after[i].activeDef with
      | none, none => False
      | none, some e => e.targets.getLsbD ch.val = true
      | some d, none => d.targets.getLsbD ch.val = true
      | some d, some e => ¬(d.level = e.level ∧ d.priority = e.priority ∧ d.targets = e.targets) ∧
          (d.targets.getLsbD ch.val = true ∨ e.targets.getLsbD ch.val = true)

/-- CREATE PROGRAM with a valid definition that is not PAST places it in the lowest FREE slot under the slot's generation, with
reason NONE, created DISABLED or evaluated at once, advances the epoch, names the targets of a record that comes out ACTIVE,
and answers OK with the handle and the generation and state byte; PAST and a full table are refused (R18, R24, R192). -/
def Obligations.CreateProgramTakesTheLowestFreeSlot : Prop :=
  ∀ (s : State) (params : List Byte) (disabled : Bool) (d : ProgDef), s.holds 0x10 params →
    readCreateProgram params = .ok (disabled, d) →
    (s.ret.clockValid = true ∧ d.timing.ended s.cal.present = true →
      exec .createProgram s = .next (s.answered 0x10 .past [])) ∧
    (¬(s.ret.clockValid = true ∧ d.timing.ended s.cal.present = true) →
      ((∀ i : ProgIdx, s.ret.programs[i].live ≠ none) →
        exec .createProgram s = .next (s.answered 0x10 .tableFull [])) ∧
      ∀ i : ProgIdx, s.ret.programs[i].live = none → (∀ j : ProgIdx, j < i → s.ret.programs[j].live ≠ none) →
        let x : ProgRec :=
          if disabled = true then ⟨d, .disabled⟩
          else ProgRec.evaluate ⟨d, .untimed⟩ ⟨s.runCount, s.cal.present, s.ret.clockValid, s.gates⟩
        let ret := { s.ret with
          programs := s.ret.programs.set i ⟨some x, s.ret.programs[i].gen, .none⟩
          epoch := s.ret.epoch + 1 }
        exec .createProgram s = .next (State.answered { s with
            ret := ret
            check := ⟨ret⟩
            mail := { s.mail with requests := s.mail.requests ++ (match x.state with
              | .active _ => asRequest d.targets
              | _ => []) } } 0x10 .ok
          [BitVec.ofNat 8 (i.val + 1), BitVec.ofNat 8 (s.ret.programs[i].gen.val * 16 + x.state.code)]))

/-- EDIT PROGRAM with a valid definition that is not PAST, naming a live record, replaces the definition whole, keeps the
handle, the generation and the choice of DISABLED, advances the epoch even where nothing changed, evaluates an enabled record
at once, names the channels R32 lists, and answers OK with the generation and state byte; PAST is refused (R32, R193). -/
def Obligations.EditProgramReplacesTheDefinition : Prop :=
  ∀ (s : State) (params : List Byte) (n : Name 96) (d : ProgDef) (r : ProgRec), s.holds 0x11 params →
    readEditProgram params = .ok (n, d) → s.ret.programs[n.slot].gen = n.gen → s.ret.programs[n.slot].live = some r →
    (s.ret.clockValid = true ∧ d.timing.ended s.cal.present = true →
      exec .editProgram s = .next (s.answered 0x11 .past [])) ∧
    (¬(s.ret.clockValid = true ∧ d.timing.ended s.cal.present = true) →
      let x : ProgRec :=
        if r.state = .disabled then ⟨d, .disabled⟩
        else ProgRec.evaluate ⟨d, r.state⟩ ⟨s.runCount, s.cal.present, s.ret.clockValid, s.gates⟩
      let ret := { s.ret with
        programs := s.ret.programs.set n.slot { s.ret.programs[n.slot] with live := some x }
        epoch := s.ret.epoch + 1 }
      exec .editProgram s = .next (State.answered { s with
          ret := ret
          check := ⟨ret⟩
          mail := { s.mail with requests := s.mail.requests ++ (match r.state, x.state with
            | .active _, .active _ =>
              if r.defn.level = d.level ∧ r.defn.priority = d.priority ∧ r.defn.targets = d.targets then []
              else asRequest (r.defn.targets ||| d.targets)
            | .active _, _ => asRequest r.defn.targets
            | _, .active _ => asRequest d.targets
            | _, _ => []) } } 0x11 .ok
        [BitVec.ofNat 8 (n.gen.val * 16 + x.state.code)]))

/-- ENABLE PROGRAM enables and evaluates a DISABLED record and DISABLE PROGRAM disables an enabled one, each advancing the
epoch and naming the targets of a record that comes to or leaves ACTIVE; each leaves a record already so as it was; both
answer OK with the generation and state byte (R30, R31, R195). DELETE PROGRAM of a live record in any state frees its slot with
reason DELETED and the next generation, advances the epoch, names the targets of an ACTIVE record, raises no PROGRAM flag, and
answers OK with the new generation (R17, R33, R196). -/
def Obligations.EnableDisableAndDeleteActOnTheRecord : Prop :=
  (∀ (s : State) (h g : Byte) (i : ProgIdx) (r : ProgRec), h.toNat = i.val + 1 →
     g.toNat = s.ret.programs[i].gen.val → s.ret.programs[i].live = some r →
     (s.holds 0x13 [h, g] →
       (r.state ≠ .disabled →
         exec .enableProgram s = .next (s.answered 0x13 .ok [BitVec.ofNat 8 (g.toNat * 16 + r.state.code)])) ∧
       (r.state = .disabled →
         let x := ProgRec.evaluate ⟨r.defn, .untimed⟩ ⟨s.runCount, s.cal.present, s.ret.clockValid, s.gates⟩
         let ret := { s.ret with
           programs := s.ret.programs.set i { s.ret.programs[i] with live := some x }
           epoch := s.ret.epoch + 1 }
         exec .enableProgram s = .next (State.answered { s with
             ret := ret
             check := ⟨ret⟩
             mail := { s.mail with requests := s.mail.requests ++ (match x.state with
               | .active _ => asRequest r.defn.targets
               | _ => []) } } 0x13 .ok
           [BitVec.ofNat 8 (g.toNat * 16 + x.state.code)]))) ∧
     (s.holds 0x14 [h, g] →
       (r.state = .disabled →
         exec .disableProgram s = .next (s.answered 0x14 .ok [BitVec.ofNat 8 (g.toNat * 16 + 1)])) ∧
       (r.state ≠ .disabled →
         let ret := { s.ret with
           programs := s.ret.programs.set i { s.ret.programs[i] with live := some ⟨r.defn, .disabled⟩ }
           epoch := s.ret.epoch + 1 }
         exec .disableProgram s = .next (State.answered { s with
             ret := ret
             check := ⟨ret⟩
             mail := { s.mail with requests := s.mail.requests ++ (match r.state with
               | .active _ => asRequest r.defn.targets
               | _ => []) } } 0x14 .ok
           [BitVec.ofNat 8 (g.toNat * 16 + 1)])))) ∧
  (∀ (s : State) (h g : Byte) (i : ProgIdx) (r : ProgRec), s.holds 0x15 [h, g] → h.toNat = i.val + 1 →
     g.toNat = s.ret.programs[i].gen.val → s.ret.programs[i].live = some r →
     let ret := { s.ret with
       programs := s.ret.programs.set i ⟨none, s.ret.programs[i].gen + 1, .deleted⟩
       epoch := s.ret.epoch + 1 }
     exec .deleteProgram s = .next (State.answered { s with
         ret := ret
         check := ⟨ret⟩
         mail := { s.mail with requests := s.mail.requests ++ (match r.state with
           | .active _ => asRequest r.defn.targets
           | _ => []) } } 0x15 .ok
       [BitVec.ofNat 8 ((g.toNat + 1) % 16)]))

/-- A name is judged against the slot as it stands: another generation is answered STALE whether the slot is FREE or live, and
the present generation of a FREE slot NO-SUCH-RECORD, with the last retirement reason where the row is READ PROGRAM or the
single form of READ OVERRIDES; nothing but the link and RESPONSE changes (R16, R37, R45, R187). -/
def Obligations.NamesAreJudgedAgainstTheSlot : Prop :=
  (∀ (s : State) (c : Instr) (code h g : Byte) (i : ProgIdx),
    (c, code) ∈ [(.readProgram, 0x12), (.enableProgram, 0x13), (.disableProgram, 0x14), (.deleteProgram, 0x15)] →
    s.holds code [h, g] → h.toNat = i.val + 1 → g.toNat < 16 →
    (g.toNat ≠ s.ret.programs[i].gen.val → exec c s = .next (s.answered code .stale [])) ∧
    (g.toNat = s.ret.programs[i].gen.val → s.ret.programs[i].live = none →
      exec c s = .next (s.answered code .noSuchRecord
        (if code = 0x12 then [BitVec.ofNat 8 s.ret.programs[i].reason.code] else [])))) ∧
  (∀ (s : State) (params : List Byte) (n : Name 96) (d : ProgDef), s.holds 0x11 params →
    readEditProgram params = .ok (n, d) →
    (n.gen ≠ s.ret.programs[n.slot].gen → exec .editProgram s = .next (s.answered 0x11 .stale [])) ∧
    (n.gen = s.ret.programs[n.slot].gen → s.ret.programs[n.slot].live = none →
      exec .editProgram s = .next (s.answered 0x11 .noSuchRecord []))) ∧
  (∀ (s : State) (c : Instr) (code h g : Byte) (i : OvrIdx),
    (c, code) ∈ [(.cancelOverride, 0x22), (.readOverrides, 0x24)] →
    s.holds code [h, g] → h.toNat = i.val + 1 → g.toNat < 16 →
    (g.toNat ≠ s.ret.overrides[i].gen.val → exec c s = .next (s.answered code .stale [])) ∧
    (g.toNat = s.ret.overrides[i].gen.val → s.ret.overrides[i].live = none →
      exec c s = .next (s.answered code .noSuchRecord
        (if code = 0x24 then [BitVec.ofNat 8 s.ret.overrides[i].reason.code] else [])))) ∧
  ∀ (s : State) (h g m0 m1 : Byte) (i : OvrIdx), s.holds 0x21 [h, g, m0, m1] → h.toNat = i.val + 1 → g.toNat < 16 →
    1 ≤ m0.toNat + 256 * m1.toNat → m0.toNat + 256 * m1.toNat ≤ 1440 →
    (g.toNat ≠ s.ret.overrides[i].gen.val → exec .extendOverride s = .next (s.answered 0x21 .stale [])) ∧
    (g.toNat = s.ret.overrides[i].gen.val → s.ret.overrides[i].live = none →
      exec .extendOverride s = .next (s.answered 0x21 .noSuchRecord []))

/-- The reports answer OK in their layouts and change nothing but the link and RESPONSE (R37, R39, R58, R72, R94, R95, R122,
R152). READ PROGRAM gives a live record with its activation stamp while ACTIVE, LIST PROGRAMS the live records above the cursor, at
most eight, or EPOCH-MOVED under a cursor that continues with another epoch (R181, R197). READ OVERRIDES gives the summaries from
the slot asked for, as many as fit whole in 60 bytes, with the next slot to ask for, or the one record named (R182). READ CHANNEL
gives 28 bytes (R183); EXPLAIN CHANNEL a header of 4, in which the verdict's place is the one after the override, and at most eight
candidates of the ranking (R184); READ QUEUE 8 bytes and 2 for each entry, READ GATES 5 bytes for each gate and READ KEY BINDING 9
bytes (R185). Numbers wider than their field show their low bits. That the ramping bit is clear in FADING (notes/assumptions/12.md),
and that an overdue TIMED record reports 0 minutes (notes/assumptions/20.md), are the model's readings. -/
def Obligations.ReportsChangeNothing : Prop :=
  let b (n : Nat) : Byte := BitVec.ofNat 8 n
  let flag (place : Nat) (set : Bool) : Byte := if set then BitVec.ofNat 8 (2 ^ place) else 0
  let two (n : Nat) : List Byte := [b n, b (n / 256)]
  let four (n : Nat) : List Byte := [b n, b (n / 256), b (n / 65536), b (n / 16777216)]
  let calendarStamp (t : Stamp) : List Byte := [b (t.year - 2000), b t.month, b t.day] ++ two t.minute
  let source (x : Source) (l : Level) : List Byte := match x with
    | .fallback => [0, b l.val]
    | .program i g => [b (i.val + 1), b (g.val * 16 + l.val)]
    | .override i g => [b (0x81 + i.val), b (g.val * 16 + l.val)]
  let origin (o : Origin) : Byte := match o with
    | .host => 0
    | .key k => b (k.val + 1)
  let holder (h : Option Chan) : Byte := match h with
    | some c => b (128 + c.val)
    | none => 0
  let kind (t : Timing) : Nat := match t with
    | .daily _ _ _ => 0
    | .dated _ _ => 1
    | .cycle _ _ _ => 2
  let progState (st : ProgState) : Nat := match st with
    | .disabled => 1
    | .untimed => 2
    | .waiting => 3
    | .suppressed => 4
    | .active _ => 5
  (∀ (s : State) (h g : Byte) (i : ProgIdx) (r : ProgRec), s.holds 0x12 [h, g] → h.toNat = i.val + 1 →
    g.toNat = s.ret.programs[i].gen.val → s.ret.programs[i].live = some r →
    exec .readProgram s = .next (s.answered 0x12 .ok (
      [b (i.val + 1), b (g.toNat * 16 + progState r.state), b (kind r.defn.timing * 16 + r.defn.priority.val),
       b ((match r.defn.condition with
         | none => 0
         | some c => 128 + c.gate.val * 32 + (match c.sense with
           | .low => 0
           | .high => 16)) + r.defn.level.val)] ++
      two r.defn.targets.toNat ++
      (match r.defn.timing with
        | .daily days on off => [b days.toNat] ++ two on ++ two off
        | .dated start stop => calendarStamp start ++ calendarStamp stop
        | .cycle anchor period onLength => calendarStamp anchor ++ two period ++ two onLength) ++
      (match r.state with
        | .active since => four since.toNat
        | _ => [])))) ∧
  (∀ (s : State) (c e0 e1 : Byte), s.holds 0x16 [c, e0, e1] → c.toNat ≤ 96 →
    (c ≠ 0 ∧ e1 ++ e0 ≠ s.ret.epoch →
      exec .listPrograms s = .next (s.answered 0x16 .epochMoved (two s.ret.epoch.toNat))) ∧
    (c = 0 ∨ e1 ++ e0 = s.ret.epoch →
      let page := ((List.finRange 96).filter fun i => decide (c.toNat ≤ i.val) && s.ret.programs[i].live.isSome).take 8
      exec .listPrograms s = .next (s.answered 0x16 .ok (two s.ret.epoch.toNat ++ [b page.length] ++
        (page.map fun i => match s.ret.programs[i].live with
          | some r => [b (i.val + 1), b (s.ret.programs[i].gen.val * 16 + progState r.state),
              b (kind r.defn.timing * 16 + r.defn.priority.val)]
          | none => []).flatten)))) ∧
  (∀ s : State,
    let summary (i : OvrIdx) : List Byte := match s.ret.overrides[i].live with
      | none => [b (i.val + 1), b (s.ret.overrides[i].gen.val * 16), match s.ret.overrides[i].reason with
          | .none => 0
          | .expired => 1
          | .programChanged => 2
          | .cancelled => 3
          | .superseded => 4
          | .restart => 5]
      | some r => [b (i.val + 1), b (s.ret.overrides[i].gen.val * 16 + 1), origin r.origin, b ((match r.kind with
          | .timed _ _ => 0
          | .untilNext _ => 16
          | .latched => 32) + r.level.val)] ++ two r.channels.toNat ++ four r.createdAt.toNat ++ (match r.kind with
          | .timed start minutes => four (start + BitVec.ofNat 32 (minutes * 600)).toNat ++
              two ((minutes * 600 - (s.runCount - start).toNat + 599) / 600)
          | .untilNext baselines => (baselines.map fun x => source x.2.source x.2.level).flatten
          | .latched => [])
    (∀ (f : Byte) (first : OvrIdx), s.holds 0x24 [f] → f.toNat = first.val + 1 →
      ∃ k : Nat, first.val + k ≤ 16 ∧
        let rest := ((List.finRange 16).drop first.val).map summary
        exec .readOverrides s = .next (s.answered 0x24 .ok (two s.ret.epoch.toNat ++
          [b (if first.val + k = 16 then 0 else first.val + k + 1)] ++ (rest.take k).flatten)) ∧
        (rest.take k).flatten.length ≤ 57 ∧ (first.val + k < 16 → 57 < (rest.take (k + 1)).flatten.length)) ∧
    ∀ (h g : Byte) (i : OvrIdx) (r : OvrRec), s.holds 0x24 [h, g] → h.toNat = i.val + 1 →
      g.toNat = s.ret.overrides[i].gen.val → s.ret.overrides[i].live = some r →
      exec .readOverrides s = .next (s.answered 0x24 .ok (two s.ret.epoch.toNat ++ summary i))) ∧
  (∀ s : State, s.holds 0x42 [] →
    exec .readGates s = .next (s.answered 0x42 .ok ((List.finRange 4).map fun g =>
      [flag 7 s.ret.gates[g].enabled |||
        b (match s.gates[g].mode with
          | .auto => 0
          | .forcedLow => 0x20
          | .forcedHigh => 0x40) |||
        b (match s.gates[g].state with
          | .disabled => 0
          | .unknown => 0x08
          | .low => 0x10
          | .high => 0x18) |||
        b (match s.gates[g].direction with
          | .none => 0
          | .towardLow => 2
          | .towardHigh => 4) ||| flag 0 s.gates[g].sampleValid,
       s.ret.gates[g].low, s.ret.gates[g].high, b (s.ret.gates[g].debounce.val * 16 + s.gates[g].counter % 16),
       s.gates[g].sample]).flatten)) ∧
  (∀ (s : State) (c : Byte) (ch : Chan), s.holds 0x33 [c] → c.toNat = ch.val →
    let r := s.ret.channels[ch]
    let w := s.sw[ch]
    let x := s.results[ch]
    let f := s.faults[ch]
    let left (past : Bool) (start : RunCount) (length : Nat) : Nat :=
      if past then 0 else length - (s.runCount - start).toNat
    let payload : List Byte :=
      [b ch.val,
       flag 7 (decide (r.kind = .dimmed)) ||| flag 6 (decide (r.queueClass = .first)) ||| b (match r.group with
         | none => 0
         | some .A => 0x08
         | some .B => 0x10
         | some .C => 0x18
         | some .D => 0x20),
       b (r.fallback.val * 16 + r.ramp.val), r.minOn, r.minOff, b (r.retry.val * 16 + f.count % 16)] ++
      source x.source x.level ++
      [match x.rank with
        | .program p => b p.val
        | .override => 8
        | .fallback => 15] ++
      source x.verdict.source x.verdict.level ++
      [flag 7 x.inhibited ||| b x.target.val,
       holder (match r.group with
         | some g => s.holders[g.idx]
         | none => none),
       match w.state with
         | .off => 0x00
         | .hold .allOff => 0x11
         | .hold .dwell => 0x12
         | .hold .group => 0x13
         | .queued => 0x20
         | .on => 0x30
         | .ending => 0x40
         | .fading => 0x50
         | .faulted => 0x60
         | .locked => 0x70,
       b (w.target.val * 16 + w.applied.val),
       flag 7 w.ramping ||| flag 6 s.ret.locks[ch] ||| flag 5 f.stamp.isSome |||
         b (match s.queue.findIdx? fun e => decide (e.chan = ch) with
           | some place => place + 1
           | none => 0)] ++
      two (left w.minOnPast w.admStamp (r.minOn.toNat * 10)) ++
      two (left w.minOffPast w.offStamp (r.minOff.toNat * 10)) ++
      [b (match r.group with
         | some g => left s.gapStamps[g.idx].past s.gapStamps[g.idx].stamp s.ret.gaps[g.idx].toNat
         | none => 0)] ++
      four (f.stamp.getD 0).toNat ++
      [b (match w.state, f.stamp with
         | .faulted, some stamp => 50 - (s.runCount - stamp).toNat
         | _, _ => 0)] ++
      two (if f.cleanRunning then 600 - (s.runCount - w.admStamp).toNat else 0)
    payload.length = 28 ∧ exec .readChannel s = .next (s.answered 0x33 .ok payload)) ∧
  (∀ (s : State) (c : Byte) (ch : Chan), s.holds 0x34 [c] → c.toNat = ch.val →
    let x := s.results[ch]
    let isOverride (y : Candidate) : Bool := match y with
      | .override _ => true
      | _ => false
    let payload : List Byte :=
      [flag 7 x.inhibited ||| b ((ranking s ch).length - 8), b (x.level.val * 16 + x.target.val),
       b (((ranking s ch).filter isOverride).length + 1),
       match s.ret.channels[ch].group with
         | none => 0
         | some g => holder s.holders[g.idx] ||| b (match g with
           | .A => 0x10
           | .B => 0x20
           | .C => 0x30
           | .D => 0x40)] ++
      (((ranking s ch).take 8).map fun y => match y with
        | .override o => source (.override o.slot o.gen) o.level ++ [origin o.origin]
        | .program p => source (.program p.slot p.gen) p.level ++ [b p.priority.val] ++ four p.stamp.toNat
        | .fallback l => [0x00, b l.val]).flatten
    payload.length ≤ 60 ∧ exec .explainChannel s = .next (s.answered 0x34 .ok payload)) ∧
  (∀ s : State, s.holds 0x3A [] →
    exec .readQueue s = .next (s.answered 0x3A .ok (
      [flag 0 (s.pinTaken || s.ret.hostLatch) ||| flag 1 s.ret.hostLatch ||| flag 2 s.pinTaken ||| flag 3 s.staggerPast,
       s.ret.stagger] ++ four s.lastAdm.toNat ++
      [b (if s.queue = [] ∨ s.staggerPast = true then 0 else s.ret.stagger.toNat - (s.runCount - s.lastAdm).toNat),
       b s.queue.length] ++
      (s.queue.map fun e => [flag 7 (decide (e.queueClass = .first)) ||| b e.chan.val, b e.level.val]).flatten))) ∧
  ∀ (s : State) (f : Byte) (k : KeyIdx), s.holds 0x49 [f] → f.toNat = k.val + 1 →
    let state : Nat := match s.keys[k].state with
      | .idle => 0
      | .pressed _ => 1
      | .long => 2
    exec .readKeyBinding s = .next (s.answered 0x49 .ok (
      [b (k.val + 1)] ++
      (match s.ret.bindings[k] with
        | none => [0, 0, 0, b state, 0, 0]
        | some x => [b ((match x.action with
            | .toggle => 0x10
            | .on => 0x20
            | .off => 0x30
            | .release => 0x40) + x.level.val)] ++ two x.channels.toNat ++ (match x.duration with
            | .timed minutes => [b (0x10 + state)] ++ two minutes
            | .untilNext => [b (0x20 + state), 0, 0]
            | .latched => [b (0x30 + state), 0, 0])) ++
      [flag 0 s.keys[k].down ||| flag 1 s.ret.panelLocked,
       match s.keys[k].state with
         | .pressed since => b (s.runCount - since).toNat
         | _ => 0]))

/-- GATE_CHANGE_REPORT: the record store takes the oldest report, evaluates the records whose condition names that gate, frees
none, and names the channels concerned in one request; nothing else changes (R29). -/
def Obligations.AGateReportEvaluatesItsRecords : Prop :=
  ∀ (s : State) (g : GateIdx) (st : GateState) (rest : List (GateIdx × GateState)), s.sup.state = .running →
    s.mail.gateReports = (g, st) :: rest →
    ∃ t, exec .gateChangeReport s = .next t ∧
      (∀ i : ProgIdx, t.ret.programs[i] = { s.ret.programs[i] with live := s.ret.programs[i].live.map fun r =>
        match r.defn.condition with
        | some c => if c.gate = g then r.evaluate ⟨s.runCount, s.cal.present, s.ret.clockValid, s.gates⟩ else r
        | none => r }) ∧
      t = { s with
        ret := { s.ret with programs := t.ret.programs }
        check := ⟨t.ret⟩
        mail := { s.mail with
          gateReports := rest
          requests := s.mail.requests ++ asRequest (concerned s.ret.programs t.ret.programs) } }

/-! ### The Override Table -/

/-- Withdrawing channels from a slot: a record that holds none of them, and a FREE slot, stand; a record that keeps another
channel loses them from its set and their baselines from its list and stays live under its generation, all else unchanged;
one left empty frees its slot with the next generation and the operation's reason (R50, R51). -/
def Obligations.WithdrawalTakesChannelsOneByOne : Prop :=
  ∀ (x : OvrSlot) (cs : ChanSet) (reason : OvrReason),
    (x.live = none → x.withdraw cs reason = x) ∧
    ∀ r, x.live = some r →
      (r.channels &&& cs = 0 → x.withdraw cs reason = x) ∧
      (r.channels &&& cs ≠ 0 → r.channels &&& ~~~cs = 0 → x.withdraw cs reason = ⟨none, x.gen + 1, reason⟩) ∧
      (r.channels &&& cs ≠ 0 → r.channels &&& ~~~cs ≠ 0 →
        ∃ kind, x.withdraw cs reason =
            ⟨some ⟨r.origin, r.level, r.channels &&& ~~~cs, kind, r.createdAt⟩, x.gen, x.reason⟩ ∧
          (∀ start minutes, r.kind = .timed start minutes → kind = .timed start minutes) ∧
          (r.kind = .latched → kind = .latched) ∧
          ∀ bs, r.kind = .untilNext bs →
            ∃ bs', kind = .untilNext bs' ∧ ∀ b, b ∈ bs' ↔ b ∈ bs ∧ cs.getLsbD b.1.val = false)

/-- A creation withdraws its channels from the records that hold them, places the new record in the lowest slot then FREE
under that slot's generation with reason NONE, starts a TIMED record's timer or takes the verdicts as baselines, advances the
epoch once for each record shrunk or retired and once for the new one, raises the OVERRIDE flags of the retired, and names the
new set; by CREATE OVERRIDE with the answer of R198, and by CREATION_REQUEST for a key, whose oldest request it is. Where the live
sets are apart and not empty, a slot is always FREE for a creation with at least one channel (R48, R49, R57, R198). That a key's
request waits in a list of its key's own is the model's reading (notes/assumptions/6.md). -/
def Obligations.ACreationTakesItsChannels : Prop :=
  (∀ (s : State) (c : Creation) (i : OvrIdx),
     let left := withdrawn s.ret.overrides c.channels .superseded
     left[i].live = none → (∀ j : OvrIdx, j < i → left[j].live ≠ none) →
     let kind : OvrKind := match c.duration with
       | .timed minutes => .timed s.runCount minutes
       | .latched => .latched
       | .untilNext => .untilNext (((List.finRange 16).filter fun ch => c.channels.getLsbD ch.val).map fun ch =>
           (ch, s.results[ch].verdict))
     let ret := { s.ret with
       overrides := left.set i ⟨some ⟨c.origin, c.level, c.channels, kind, s.runCount⟩, left[i].gen, .none⟩
       epoch := s.ret.epoch +
         BitVec.ofNat 16 ((List.finRange 16).filter fun j => decide (left[j] ≠ s.ret.overrides[j])).length + 1 }
     let flags := s.att.override ||| chansWhere fun j => s.ret.overrides[j].live.isSome && left[j].live.isNone
     (∀ params, s.holds 0x20 params → readCreateOverride params = .ok c →
       exec .createOverride s = .next (State.answered { s with
           ret := ret
           check := ⟨ret⟩
           att := { s.att with override := flags }
           mail := { s.mail with requests := s.mail.requests ++ asRequest c.channels } } 0x20 .ok
         [BitVec.ofNat 8 (i.val + 1), BitVec.ofNat 8 left[i].gen.val])) ∧
     ∀ (k : KeyIdx) (rest : List KeyRequest), s.sup.state = .running → s.mail.keyRequests[k] = .create c :: rest →
       exec (.creationRequest k) s = .next { s with
         ret := ret
         check := ⟨ret⟩
         att := { s.att with override := flags }
         mail := { s.mail with
           keyRequests := s.mail.keyRequests.set k rest, requests := s.mail.requests ++ asRequest c.channels } }) ∧
  (∀ (s : State) (cs : ChanSet), s.OverridesApart → cs ≠ 0 →
     ∃ i : OvrIdx, (withdrawn s.ret.overrides cs .superseded)[i].live = none)

/-- A release withdraws each named channel from whatever record holds it, retiring emptied records CANCELLED; the epoch
advances once for each record shrunk or retired, the retired slots' flags are raised, and the withdrawn channels are named; by
RELEASE CHANNELS, answered OK even where nothing was held, and by RELEASE for a key, whose oldest request it is (R49, R50, R56, R57,
R201). That a key's request waits in a list of its key's own is the model's reading (notes/assumptions/6.md). -/
def Obligations.AReleaseWithdrawsTheNamedChannels : Prop :=
  ∀ (s : State) (cs : ChanSet),
    let left := withdrawn s.ret.overrides cs .cancelled
    let ret := { s.ret with
      overrides := left
      epoch := s.ret.epoch +
        BitVec.ofNat 16 ((List.finRange 16).filter fun j => decide (left[j] ≠ s.ret.overrides[j])).length }
    let flags := s.att.override ||| chansWhere fun j => s.ret.overrides[j].live.isSome && left[j].live.isNone
    let named := chansWhere fun ch => cs.getLsbD ch.val && (List.finRange 16).any fun j : OvrIdx =>
      s.ret.overrides[j].channels.getLsbD ch.val
    (∀ c0 c1 : Byte, s.holds 0x23 [c0, c1] → c1 ++ c0 = cs → cs ≠ 0 →
      exec .releaseChannels s = .next (State.answered { s with
          ret := ret
          check := ⟨ret⟩
          att := { s.att with override := flags }
          mail := { s.mail with requests := s.mail.requests ++ asRequest named } } 0x23 .ok [])) ∧
    ∀ (k : KeyIdx) (rest : List KeyRequest), s.sup.state = .running → s.mail.keyRequests[k] = .release cs :: rest →
      exec (.release k) s = .next { s with
        ret := ret
        check := ⟨ret⟩
        att := { s.att with override := flags }
        mail := { s.mail with
          keyRequests := s.mail.keyRequests.set k rest, requests := s.mail.requests ++ asRequest named } }

/-- CANCEL OVERRIDE retires the named live record as a whole CANCELLED, and OVERRIDE_EXPIRY a TIMED record whose length has run
on the run count EXPIRED: the slot is FREE under the next generation, the epoch advances by one, the OVERRIDE flag is raised
and the record's channels are named. An expiry that finds no such record changes nothing (R51, R53,
R55, R59, R200), and that its row may come before the timer has run, and then changes nothing, is the model's reading
(notes/assumptions/7.md). EXTEND
OVERRIDE of a live TIMED record restarts its timer at the run count of the step with the minutes carried, advances the epoch,
names no channel, and answers OK with the new expiry; a record of another kind is NOT-PERMITTED and stays (R54, R199). -/
def Obligations.OverridesAreCancelledExpiredAndExtended : Prop :=
  ((∀ (s : State) (h g : Byte) (i : OvrIdx) (r : OvrRec), s.holds 0x22 [h, g] → h.toNat = i.val + 1 →
     g.toNat = s.ret.overrides[i].gen.val → s.ret.overrides[i].live = some r →
     let ret := { s.ret with
       overrides := s.ret.overrides.set i ⟨none, s.ret.overrides[i].gen + 1, .cancelled⟩
       epoch := s.ret.epoch + 1 }
     exec .cancelOverride s = .next (State.answered { s with
         ret := ret
         check := ⟨ret⟩
         att := { s.att with override := s.att.override ||| BitVec.twoPow 16 i.val }
         mail := { s.mail with requests := s.mail.requests ++ asRequest r.channels } } 0x22 .ok [])) ∧
   (∀ (s : State) (i : OvrIdx) (r : OvrRec) (start : RunCount) (minutes : Nat), s.sup.state = .running →
     s.ret.overrides[i].live = some r → r.kind = .timed start minutes → minutes * 600 ≤ (s.runCount - start).toNat →
     let ret := { s.ret with
       overrides := s.ret.overrides.set i ⟨none, s.ret.overrides[i].gen + 1, .expired⟩
       epoch := s.ret.epoch + 1 }
     exec (.overrideExpiry i) s = .next { s with
       ret := ret
       check := ⟨ret⟩
       att := { s.att with override := s.att.override ||| BitVec.twoPow 16 i.val }
       mail := { s.mail with requests := s.mail.requests ++ asRequest r.channels } }) ∧
   ∀ (s : State) (i : OvrIdx),
     (∀ r start minutes, s.ret.overrides[i].live = some r → r.kind = .timed start minutes →
       (s.runCount - start).toNat < minutes * 600) →
     exec (.overrideExpiry i) s = .next s) ∧
  (∀ (s : State) (h g m0 m1 : Byte) (i : OvrIdx) (r : OvrRec), s.holds 0x21 [h, g, m0, m1] → h.toNat = i.val + 1 →
     g.toNat = s.ret.overrides[i].gen.val → s.ret.overrides[i].live = some r →
     1 ≤ m0.toNat + 256 * m1.toNat → m0.toNat + 256 * m1.toNat ≤ 1440 →
     ((∃ start minutes, r.kind = .timed start minutes) →
       let ret := { s.ret with
         overrides := s.ret.overrides.set i { s.ret.overrides[i] with
           live := some { r with kind := .timed s.runCount (m0.toNat + 256 * m1.toNat) } }
         epoch := s.ret.epoch + 1 }
       let expiry := s.runCount + BitVec.ofNat 32 ((m0.toNat + 256 * m1.toNat) * 600)
       exec .extendOverride s = .next (State.answered { s with ret := ret, check := ⟨ret⟩ } 0x21 .ok
         [expiry.setWidth 8, (expiry >>> 8).setWidth 8, (expiry >>> 16).setWidth 8, (expiry >>> 24).setWidth 8])) ∧
     ((¬∃ start minutes, r.kind = .timed start minutes) →
       exec .extendOverride s = .next (s.answered 0x21 .notPermitted [])))

/-- VERDICT_REPORT: the record store takes the oldest report as one operation. A channel that an UNTIL-NEXT record holds, and
whose new verdict differs in source or level from its baseline, is withdrawn, a record so emptied retiring PROGRAM-CHANGED;
every other channel stays; the withdrawn channels are named in one request (R49 to R52). -/
def Obligations.AVerdictReportEndsMovedChannels : Prop :=
  ∀ (s : State) (vs : List (Chan × Verdict)) (rest : List (List (Chan × Verdict))), s.sup.state = .running →
    s.mail.verdictReports = vs :: rest →
    ∃ (t : State) (cs : ChanSet), exec .verdictReport s = .next t ∧
      (∀ ch : Chan, cs.getLsbD ch.val = true ↔
        ∃ v, (ch, v) ∈ vs ∧ ∃ (i : OvrIdx) (r : OvrRec) (b : Verdict), s.ret.overrides[i].live = some r ∧
          r.channels.getLsbD ch.val = true ∧ r.baseline ch = some b ∧ b ≠ v) ∧
      t.ret.overrides = withdrawn s.ret.overrides cs .programChanged ∧
      t.ret.epoch = s.ret.epoch + BitVec.ofNat 16
        ((List.finRange 16).filter fun j => decide (t.ret.overrides[j] ≠ s.ret.overrides[j])).length ∧
      t.att.override = s.att.override ||| chansWhere (fun j =>
        s.ret.overrides[j].live.isSome && t.ret.overrides[j].live.isNone) ∧
      t.mail.requests = s.mail.requests ++ asRequest (chansWhere fun ch =>
        cs.getLsbD ch.val && (List.finRange 16).any fun j : OvrIdx => s.ret.overrides[j].channels.getLsbD ch.val) ∧
      t = { s with
        ret := { s.ret with overrides := t.ret.overrides, epoch := t.ret.epoch }
        check := ⟨t.ret⟩
        att := { s.att with override := t.att.override }
        mail := { s.mail with verdictReports := rest, requests := t.mail.requests } }

/-! ### Configuration that is replaced whole -/

/-- SET RESUME POLICY, SET ATTENTION MASK, BIND KEY and SET PANEL LOCK replace their retained item, bring the check value up to
date and answer OK; locking an unlocked panel returns every key to IDLE without action; no other item changes (R147, R150,
R178, R213 to R215). -/
def Obligations.SettingsReplaceTheirItem : Prop :=
  (∀ (s : State) (b : Byte), s.holds 0x52 [b] →
    (b = 0 → exec .setResumePolicy s = .next (State.answered
      { s with ret := { s.ret with resume := .keep }, check := ⟨{ s.ret with resume := .keep }⟩ } 0x52 .ok [])) ∧
    (b = 1 → exec .setResumePolicy s = .next (State.answered
      { s with ret := { s.ret with resume := .drop }, check := ⟨{ s.ret with resume := .drop }⟩ } 0x52 .ok [])) ∧
    (b ≠ 0 → b ≠ 1 → exec .setResumePolicy s = .next (s.answered 0x52 .badParameter [0]))) ∧
  (∀ (s : State) (m0 m1 : Byte), s.holds 0x53 [m0, m1] →
    let ret := { s.ret with mask := (m1 ++ m0).setWidth 10 }
    exec .setAttentionMask s = .next (State.answered { s with ret := ret, check := ⟨ret⟩ } 0x53 .ok [])) ∧
  (∀ (s : State) (params : List Byte) (k : KeyIdx) (b : Option Binding), s.holds 0x48 params →
    readBindKey params = .ok (k, b) →
    let ret := { s.ret with bindings := s.ret.bindings.set k b }
    exec .bindKey s = .next (State.answered { s with ret := ret, check := ⟨ret⟩ } 0x48 .ok [])) ∧
  ∀ (s : State) (b : Byte), s.holds 0x4A [b] →
    let ret := { s.ret with panelLocked := b.getLsbD 0 }
    (b.getLsbD 0 = true ∧ s.ret.panelLocked = false →
      ∃ keys : Vector KeyRec 8, (∀ k : KeyIdx, keys[k] = { s.keys[k] with state := .idle }) ∧
        exec .setPanelLock s = .next (State.answered { s with ret := ret, check := ⟨ret⟩, keys := keys } 0x4A .ok [])) ∧
    (¬(b.getLsbD 0 = true ∧ s.ret.panelLocked = false) →
      exec .setPanelLock s = .next (State.answered { s with ret := ret, check := ⟨ret⟩ } 0x4A .ok []))

/-! ### Sensor gates -/

/-- How a gate takes a sample: it becomes the last sample, marked valid; a DISABLED or forced gate counts nothing (R68); LOW
counts samples at or above the high threshold, HIGH those at or below the low one, and any other sets the counter to 0
(R65); UNKNOWN counts every sample one way, a turn restarting the run at 1 (R66); a counter that reaches the debounce count
changes the state the way the run was heading, with counter 0 and direction none (R67). CONVERTER_ROUND gives each gate the
sample of its input, AIN0 to AIN3 in that order, and where a fall of the supply interrupts the round only the gates whose conversion
is complete take theirs; a gate whose state changes raises its GATE flag and hands the record store one report, in gate order, and
one that keeps its state does neither; nothing else changes (R63, R67, R73). -/
def Obligations.ConverterRoundsAreCountedWithHysteresis : Prop :=
  (∀ (cfg : GateConfig) (w : GateWork) (x : Byte), w.Agrees cfg.enabled → 1 ≤ cfg.debounce.val →
     let w' := takeSample cfg w x
     w'.sample = x ∧ w'.sampleValid = true ∧ w'.mode = w.mode ∧
     (w.state = .disabled ∨ w.mode ≠ .auto → w' = { w with sample := x, sampleValid := true }) ∧
     (w.mode = .auto → w.state = .low →
       (x < cfg.high → w'.state = .low ∧ w'.counter = 0 ∧ w'.direction = .none) ∧
       (cfg.high ≤ x →
         (w.counter + 1 < cfg.debounce.val → w'.state = .low ∧ w'.counter = w.counter + 1 ∧ w'.direction = .towardHigh) ∧
         (cfg.debounce.val ≤ w.counter + 1 → w'.state = .high ∧ w'.counter = 0 ∧ w'.direction = .none))) ∧
     (w.mode = .auto → w.state = .high →
       (cfg.low < x → w'.state = .high ∧ w'.counter = 0 ∧ w'.direction = .none) ∧
       (x ≤ cfg.low →
         (w.counter + 1 < cfg.debounce.val → w'.state = .high ∧ w'.counter = w.counter + 1 ∧ w'.direction = .towardLow) ∧
         (cfg.debounce.val ≤ w.counter + 1 → w'.state = .low ∧ w'.counter = 0 ∧ w'.direction = .none))) ∧
     (w.mode = .auto → w.state = .unknown →
       let toward : Direction := if cfg.high ≤ x then .towardHigh else .towardLow
       let run := if w.direction = .none ∨ w.direction = toward then w.counter + 1 else 1
       (run < cfg.debounce.val → w'.state = .unknown ∧ w'.counter = run ∧ w'.direction = toward) ∧
       (cfg.debounce.val ≤ run →
         w'.state = (if cfg.high ≤ x then .high else .low) ∧ w'.counter = 0 ∧ w'.direction = .none))) ∧
  (∀ (s : State) (a0 a1 a2 a3 : Byte) (completed : Fin 5), s.sup.state = .running →
     ∃ t, exec (.converterRound a0 a1 a2 a3 completed) s = .next t ∧
       (∀ g : GateIdx, t.gates[g] = if g.val < completed.val
         then takeSample s.ret.gates[g] s.gates[g] (#v[a0, a1, a2, a3])[g] else s.gates[g]) ∧
       (∀ g : GateIdx, t.att.gate.getLsbD g.val =
         (s.att.gate.getLsbD g.val || decide (t.gates[g].state ≠ s.gates[g].state))) ∧
       t = { s with
         gates := t.gates
         att := { s.att with gate := t.att.gate }
         mail := { s.mail with gateReports := s.mail.gateReports ++
           (((List.finRange 4).filter fun g => decide (t.gates[g].state ≠ s.gates[g].state)).map fun g =>
             (g, t.gates[g].state)) } })

/-- CONFIGURE GATE replaces the gate's configuration and acts on its state by the enabled choice before and after (R69), and
SET GATE MODE forces an enabled gate or returns it to AUTO and is NOT-PERMITTED on a DISABLED one (R70); a change of state
raises the GATE flag and hands on one report, and an operation that keeps the state does neither (R67). -/
def Obligations.GateCommandsActOnTheGate : Prop :=
  (∀ (s : State) (params : List Byte) (g : GateIdx) (cfg : GateConfig), s.holds 0x40 params →
    readConfigureGate params = .ok (g, cfg) →
    let ret := { s.ret with gates := s.ret.gates.set g cfg }
    let old := s.gates[g]
    let new : GateWork := match s.ret.gates[g].enabled, cfg.enabled with
      | false, true => { old with state := .unknown, mode := .auto, counter := 0, direction := .none }
      | true, false => { old with state := .disabled, mode := .auto, counter := 0, direction := .none }
      | _, _ => { old with counter := 0, direction := .none }
    exec .configureGate s = .next (State.answered { s with
      ret := ret
      check := ⟨ret⟩
      gates := s.gates.set g new
      att := { s.att with gate :=
        if new.state = old.state then s.att.gate else s.att.gate ||| BitVec.twoPow 4 g.val }
      mail := { s.mail with gateReports :=
        if new.state = old.state then s.mail.gateReports else s.mail.gateReports ++ [(g, new.state)] } } 0x40 .ok [])) ∧
  ∀ (s : State) (params : List Byte) (g : GateIdx) (m : GateMode), s.holds 0x41 params →
    readGateMode params = .ok (g, m) →
    (s.gates[g].state = .disabled → exec .setGateMode s = .next (s.answered 0x41 .notPermitted [])) ∧
    (s.gates[g].state ≠ .disabled →
      let old := s.gates[g]
      let new : GateWork := match m with
        | .forcedLow => { old with mode := .forcedLow, state := .low, counter := 0, direction := .none }
        | .forcedHigh => { old with mode := .forcedHigh, state := .high, counter := 0, direction := .none }
        | .auto => if old.mode = .auto then old else { old with mode := .auto, counter := 0, direction := .none }
      exec .setGateMode s = .next (State.answered { s with
        gates := s.gates.set g new
        att := { s.att with gate :=
          if new.state = old.state then s.att.gate else s.att.gate ||| BitVec.twoPow 4 g.val }
        mail := { s.mail with gateReports :=
          if new.state = old.state then s.mail.gateReports else s.mail.gateReports ++ [(g, new.state)] } } 0x41 .ok []))

/-! ### Resolution and interlock groups -/

/-- The ranking holds every live override that holds the channel, every ACTIVE program that targets it, and the fallback last,
each once; an override, of which there is at most one where the live sets are apart,
stands before every program; and among the programs the order is total: higher priority first, then the
later stamp, then the lower handle. The verdict is the first of the programs, or the fallback (R83 to
R85). -/
def Obligations.TheRankingIsATotalOrder : Prop :=
  ∀ (s : State) (ch : Chan), ∃ progs : List ProgCand,
    ranking s ch = overrideCands s.ret.overrides ch ++ progs.map .program ++ [.fallback (s.chan ch).fallback] ∧
    progs.Nodup ∧
    (∀ c : ProgCand, c ∈ progs ↔ ∃ (r : ProgRec) (since : RunCount), s.ret.programs[c.slot].live = some r ∧
      r.state = .active since ∧ r.defn.targets.getLsbD ch.val = true ∧
      c = ⟨c.slot, s.ret.programs[c.slot].gen, r.defn.priority, r.defn.level, since⟩) ∧
    progs.Pairwise (fun a b =>
      b.priority < a.priority ∨ (a.priority = b.priority ∧
        ((s.runCount - a.stamp).toNat < (s.runCount - b.stamp).toNat ∨
          (a.stamp = b.stamp ∧ a.slot < b.slot)))) ∧
    (∀ c : OvrCand, .override c ∈ ranking s ch ↔ ∃ r : OvrRec, s.ret.overrides[c.slot].live = some r ∧
      r.channels.getLsbD ch.val = true ∧ c = ⟨c.slot, s.ret.overrides[c.slot].gen, r.level, r.origin⟩) ∧
    (s.OverridesApart → (overrideCands s.ret.overrides ch).length ≤ 1) ∧
    verdictOf s ch = match progs with
      | [] => ⟨.fallback, (s.chan ch).fallback⟩
      | p :: _ => ⟨.program p.slot p.gen, p.level⟩

/-- Arbitration chooses none without a contender; otherwise a contender of the highest rank, among those of that rank one whose
applied level is not 0 if there is one, and among those still tied the lowest channel (R86). An override ranks above every program,
a program by its priority, and the fallback below every program (R83). -/
def Obligations.ArbitrationChoosesTheHolder : Prop :=
  ∀ (s : State) (res : Vector Resolution 16) (g : Group),
    let contender (ch : Chan) : Prop := (s.chan ch).group = some g ∧ res[ch].level ≠ 0
    (arbitrate s res g = none ↔ ∀ ch, ¬contender ch) ∧
    (∀ h, arbitrate s res g = some h → contender h ∧ ∀ ch, contender ch →
      res[ch].rank.strength ≤ res[h].rank.strength ∧
      (res[ch].rank.strength = res[h].rank.strength →
        (s.sw[ch].applied ≠ 0 → s.sw[h].applied ≠ 0) ∧
        ((s.sw[ch].applied = 0 ↔ s.sw[h].applied = 0) → h ≤ ch))) ∧
    ∀ p q : Fin 8, Rank.fallback.strength < (Rank.program p).strength ∧
      (Rank.program p).strength < Rank.override.strength ∧
      ((Rank.program p).strength < (Rank.program q).strength ↔ p < q)

/-- RE_RESOLUTION_REQUEST takes a request that waits, ranks the named channels afresh and arbitrates the groups they are members of,
and APPLIED_LEVEL_REPORT takes a report that waits, arbitrates the groups of the members it names and ranks none; each then hands on
one hand-off, one verdict report and the CHANNEL flags, and changes nothing else (R85 to R92). Of two requests, and of a request and a
report, either may be taken first, and the results and holders after both are the same (R93); that any one that waits may be taken,
by its place, is the model's reading (notes/assumptions/6.md). A hand-off names exactly the channels whose effective
target changed, each with its new one, and a verdict report exactly those whose verdict changed, each with its new one, in ascending
channel order (R90, R91). -/
def Obligations.TheResolverTakesItsEvents : Prop :=
  (∀ before after : Vector Resolution 16,
    ((handOffOf before after).map (·.1)).Pairwise (· < ·) ∧
    (∀ (ch : Chan) (l : Level), (ch, l) ∈ handOffOf before after ↔
      before[ch].target ≠ after[ch].target ∧ l = after[ch].target) ∧
    ((verdictReportOf before after).map (·.1)).Pairwise (· < ·) ∧
    ∀ (ch : Chan) (v : Verdict), (ch, v) ∈ verdictReportOf before after ↔
      before[ch].verdict ≠ after[ch].verdict ∧ v = after[ch].verdict) ∧
  (∀ (s : State) (place : Nat) (cs : ChanSet), s.sup.state = .running → s.mail.requests[place]? = some cs →
    ∃ (t : State) (groups : List Group), exec (.reResolutionRequest place) s = .next t ∧
      (∀ g : Group, g ∈ groups ↔ ∃ ch : Chan, cs.getLsbD ch.val = true ∧ (s.chan ch).group = some g) ∧
      Resolves cs 0 groups s t ∧ Concludes s t ∧
      t = { s with
        results := t.results
        holders := t.holders
        att := { s.att with channel := t.att.channel }
        mail := { s.mail with
          requests := s.mail.requests.eraseIdx place
          handOffs := t.mail.handOffs
          verdictReports := t.mail.verdictReports } }) ∧
  (∀ (s : State) (place : Nat) (cs : ChanSet), s.sup.state = .running → s.mail.levelReports[place]? = some cs →
    ∃ (t : State) (groups : List Group), exec (.appliedLevelReport place) s = .next t ∧
      (∀ g : Group, g ∈ groups ↔ ∃ ch : Chan, cs.getLsbD ch.val = true ∧ (s.chan ch).group = some g) ∧
      Resolves 0 0 groups s t ∧ Concludes s t ∧
      t = { s with
        results := t.results
        holders := t.holders
        att := { s.att with channel := t.att.channel }
        mail := { s.mail with
          levelReports := s.mail.levelReports.eraseIdx place
          handOffs := t.mail.handOffs
          verdictReports := t.mail.verdictReports } }) ∧
  (∀ (s : State) (a b : ChanSet) (rest : List ChanSet), s.sup.state = .running → s.mail.requests = a :: b :: rest →
    ∃ u v x y, exec (.reResolutionRequest 0) s = .next u ∧ exec (.reResolutionRequest 0) u = .next v ∧
      exec (.reResolutionRequest 1) s = .next x ∧ exec (.reResolutionRequest 0) x = .next y ∧
      v.results = y.results ∧ v.holders = y.holders) ∧
  ∀ (s : State) (p q : Nat), s.sup.state = .running →
    ∃ u v x y, exec (.reResolutionRequest p) s = .next u ∧ exec (.appliedLevelReport q) u = .next v ∧
      exec (.appliedLevelReport q) s = .next x ∧ exec (.reResolutionRequest p) x = .next y ∧
      v.results = y.results ∧ v.holders = y.holders

/-- SET FALLBACK replaces the fallback in any switching state, and the resolver re-resolves that channel with its group (R80,
R205). CONFIGURE CHANNEL on a channel that is OFF or LOCKED, with DIMMED for CH0 to CH7 only, replaces kind, group and queue
class; a change of group re-arbitrates the group left and the group joined, and the same group re-arbitrates nothing; in any
other state, and for DIMMED on CH8 to CH15, it is NOT-PERMITTED (R77, R78, R203). Each is answered OK, and nothing else changes. -/
def Obligations.ChannelCommandsReResolve : Prop :=
  (∀ (s : State) (c l : Byte) (ch : Chan), s.holds 0x32 [c, l] → c.toNat = ch.val →
     ∃ (t : State), exec .setFallback s = .next t ∧
       t.ret = { s.ret with channels := s.ret.channels.set ch { s.ret.channels[ch] with
         fallback := Fin.ofNat 16 l.toNat } } ∧
       Resolves (BitVec.twoPow 16 ch.val) 0 (s.ret.channels[ch].group.toList) s t ∧ Concludes s t ∧
       t.link.state = .ready ⟨0x32, .ok, []⟩ ∧
       t = { s with
         ret := t.ret
         check := ⟨t.ret⟩
         results := t.results
         holders := t.holders
         att := { s.att with channel := t.att.channel, response := true }
         mail := { s.mail with handOffs := t.mail.handOffs, verdictReports := t.mail.verdictReports }
         link := { s.link with state := t.link.state } }) ∧
  (∀ (s : State) (params : List Byte) (c : ChannelConfig), s.holds 0x30 params →
     readConfigureChannel params = .ok c →
     let allowed := (c.kind = .dimmed → c.chan.val < 8) ∧
       (s.sw[c.chan].state = .off ∨ s.sw[c.chan].state = .locked)
     (¬allowed → exec .configureChannel s = .next (s.answered 0x30 .notPermitted [])) ∧
     (allowed →
       let old := s.ret.channels[c.chan]
       let ret := { s.ret with channels := s.ret.channels.set c.chan { old with
         kind := c.kind, group := c.group, queueClass := c.queueClass } }
       (old.group = c.group → exec .configureChannel s =
         .next (State.answered { s with ret := ret, check := ⟨ret⟩ } 0x30 .ok [])) ∧
       (old.group ≠ c.group →
         ∃ t, exec .configureChannel s = .next t ∧ t.ret = ret ∧
           Resolves 0 (BitVec.twoPow 16 c.chan.val) (old.group.toList ++ c.group.toList) s t ∧ Concludes s t ∧
           t.link.state = .ready ⟨0x30, .ok, []⟩ ∧
           t = { s with
             ret := t.ret
             check := ⟨t.ret⟩
             results := t.results
             holders := t.holders
             att := { s.att with channel := t.att.channel, response := true }
             mail := { s.mail with handOffs := t.mail.handOffs, verdictReports := t.mail.verdictReports }
             link := { s.link with state := t.link.state } })))

/-! ### The switching sequencer -/

/-- HAND_OFF of one channel: its new target is recorded, and it is acted on by its switching state, for a target of 0 and for a
non-zero one; a queue whose head is removed has its new head tested, and one that a channel enters its head; nothing else changes
(R100 to R103, R107 to R109, R112 to R116). That the ramping mark is clear in FADING (notes/assumptions/12.md), and that the head is
tested once, at the end of the event (notes/assumptions/10.md), are the model's readings. -/
def Obligations.AHandOffActsByState : Prop :=
  ∀ (s : State) (ch : Chan) (l : Level) (rest : List (List (Chan × Level))), s.sup.state = .running →
    s.mail.handOffs = [(ch, l)] :: rest →
    (s.sw[ch].applied ≠ 0 ↔ s.sw[ch].state.driven = true) →
    let w : Switching := { s.sw[ch] with target := l }
    let u : State := { s with sw := s.sw.set ch w, mail := { s.mail with handOffs := rest } }
    let r := s.ret.channels[ch]
    let ramps := r.kind = .dimmed ∧ r.ramp ≠ 0
    ∃ t, exec .handOff s = .next t ∧
      (l = 0 →
        (s.sw[ch].state = .off ∨ s.sw[ch].state = .ending ∨ s.sw[ch].state = .fading → t = u) ∧
        ((∃ reason, s.sw[ch].state = .hold reason) → t = u.moved ch .off) ∧
        (s.sw[ch].state = .queued →
          let left := s.queue.filter fun e => decide (e.chan ≠ ch)
          ((s.queue.head?.map (·.chan) = some ch → ¬s.staggerOver) → t = { u with queue := left }.moved ch .off) ∧
          (s.queue.head?.map (·.chan) = some ch → s.staggerOver → s.Waiting s.queue →
            AdmitsHead ({ u with queue := [] }.moved ch .off) left t)) ∧
        (s.sw[ch].state = .on →
          (¬s.minOnOver ch →
            t = State.moved { u with sw := s.sw.set ch { w with ramping := false } } ch .ending) ∧
          (s.minOnOver ch → ramps →
            t = State.moved { u with sw := s.sw.set ch { w with rampStamp := s.runCount, ramping := false } } ch .fading) ∧
          (s.minOnOver ch → ¬ramps → t = u.dropped ch .off))) ∧
      (l ≠ 0 →
        (s.sw[ch].state = .off → TakesTests u ch t) ∧
        ((∃ reason, s.sw[ch].state = .hold reason) → t = u) ∧
        (s.sw[ch].state = .queued →
          t = { u with queue := s.queue.map fun e => if e.chan = ch then { e with level := l } else e }) ∧
        (s.sw[ch].state = .on → t = { u with sw := s.sw.set ch (headed r s.runCount w l) }) ∧
        (s.sw[ch].state = .ending ∨ s.sw[ch].state = .fading →
          t = State.moved { u with sw := s.sw.set ch { headed r s.runCount w l with state := s.sw[ch].state } } ch .on)) ∧
      (s.sw[ch].state = .faulted ∨ s.sw[ch].state = .locked → t = u)

/-- A hand-off of any number of channels is taken as one event: every target is recorded first; the channels that go to 0 are
acted on, then the others, each by its own switching state; a channel that was OFF makes the tests, its group busy where another
member is driven before and after or the gap from the stamp the first pass leaves has not run; those that pass enter the queue
together and the head is tested; the changeover stamps of the groups a member dropped in are made, and the clean-run timers stop and
start; the flags and the applied-level report follow; and a channel neither named nor waiting in the queue stands as it was, as does
everything that is not the sequencer's (R100 to R103, R105, R107 to R109, R111 to R113, R115, R116). That the ramping mark is clear
in FADING (notes/assumptions/12.md), and that the head is tested once, at the end of the event (notes/assumptions/10.md), are the
model's readings. -/
def Obligations.AHandOffIsTakenWhole : Prop :=
  ∀ (s : State) (ts : List (Chan × Level)) (rest : List (List (Chan × Level))), s.sup.state = .running →
    s.mail.handOffs = ts :: rest → s.SwitchingAgrees →
    ∃ t, exec .handOff s = .next t ∧
      let dropped (ch : Chan) : Bool := decide (s.sw[ch].state = .on) && decide (t.sw[ch].state = .off)
      let busy (ch : Chan) : Prop := ∃ g, s.ret.channels[ch].group = some g ∧
        ((∃ o : Chan, o ≠ ch ∧ s.ret.channels[o].group = some g ∧ s.sw[o].state.driven = true ∧
            t.sw[o].state.driven = true) ∨
          (t.gapStamps[g.idx].past = false ∧
            (s.runCount - t.gapStamps[g.idx].stamp).toNat < s.ret.gaps[g.idx].toNat))
      let target (ch : Chan) : Level :=
        ((ts.find? fun p => decide (p.1 = ch)).map fun p => p.2).getD s.sw[ch].target
      let kept : List QueueEntry := s.queue.filterMap fun e =>
        if target e.chan = 0 then none else some { e with level := target e.chan }
      (∀ ch : Chan, (∀ p ∈ ts, p.1 ≠ ch) → (∀ e ∈ s.queue, e.chan ≠ ch) → t.sw[ch] = s.sw[ch]) ∧
      (∀ p ∈ ts, p.2 = 0 →
        let r := s.ret.channels[p.1]
        let ramps := r.kind = .dimmed ∧ r.ramp ≠ 0
        let w : Switching := { s.sw[p.1] with target := 0 }
        (w.state = .off ∨ w.state = .ending ∨ w.state = .fading ∨ w.state = .faulted ∨ w.state = .locked →
          t.sw[p.1] = w) ∧
        ((∃ reason, w.state = .hold reason) ∨ w.state = .queued → t.sw[p.1] = { w with state := .off }) ∧
        (w.state = .on →
          (¬s.minOnOver p.1 → t.sw[p.1] = { w with state := .ending, ramping := false }) ∧
          (s.minOnOver p.1 → ramps →
            t.sw[p.1] = { w with state := .fading, rampStamp := s.runCount, ramping := false }) ∧
          (s.minOnOver p.1 → ¬ramps → t.sw[p.1] = { w with
            state := .off, applied := 0, offStamp := s.runCount, minOffPast := false, ramping := false }))) ∧
      (∀ p ∈ ts, p.2 ≠ 0 →
        let w : Switching := { s.sw[p.1] with target := p.2 }
        ((∃ reason, w.state = .hold reason) ∨ w.state = .faulted ∨ w.state = .locked → t.sw[p.1] = w) ∧
        (w.state = .on ∨ w.state = .ending ∨ w.state = .fading →
          t.sw[p.1] = { headed s.ret.channels[p.1] s.runCount w p.2 with state := .on }) ∧
        (w.state = .queued → t.sw[p.1] = w ∨ (t.sw[p.1].state = .on ∧ t.sw[p.1].admStamp = s.runCount)) ∧
        (w.state = .off →
          (s.allOff = true → t.sw[p.1] = { w with state := .hold .allOff }) ∧
          (s.allOff = false → ¬s.minOffOver p.1 → t.sw[p.1] = { w with state := .hold .dwell }) ∧
          (s.allOff = false → s.minOffOver p.1 →
            (busy p.1 → t.sw[p.1] = { w with state := .hold .group }) ∧
            (¬busy p.1 → t.sw[p.1] = { w with state := .queued } ∨
              (t.sw[p.1].state = .on ∧ t.sw[p.1].admStamp = s.runCount))))) ∧
      ((ts.map (·.1)).Pairwise (· < ·) →
        QueueTakes s kept
          (fun ch => (∃ p ∈ ts, p.1 = ch ∧ p.2 ≠ 0) ∧ s.sw[ch].state = .off ∧ s.allOff = false ∧ s.minOffOver ch ∧
            ¬busy ch) t) ∧
      (∀ (ch : Chan) (g : Group), s.ret.channels[ch].group = some g → dropped ch = true →
        t.gapStamps[g.idx] = ⟨s.runCount, false⟩) ∧
      (∀ g : Group, (∀ ch : Chan, s.ret.channels[ch].group = some g → dropped ch = false) →
        t.gapStamps[g.idx] = s.gapStamps[g.idx]) ∧
      (∀ ch : Chan, t.faults[ch] =
        if dropped ch = true then { s.faults[ch] with cleanRunning := false, filterTime := 0 }
        else if t.sw[ch].state = .on ∧ s.sw[ch].state.driven = false then { s.faults[ch] with cleanRunning := true }
        else s.faults[ch]) ∧
      Announces s t ∧
      t = { s with
        sw := t.sw
        faults := t.faults
        gapStamps := t.gapStamps
        queue := t.queue
        lastAdm := t.lastAdm
        staggerPast := t.staggerPast
        att := { s.att with channel := t.att.channel }
        mail := { s.mail with handOffs := rest, levelReports := t.mail.levelReports } }

/-- The admission of the head. STAGGER_EXPIRY admits it once the stagger timer has elapsed, and with a stagger interval of 0 the
queue empties in one step; before that nothing changes (R109). SET STAGGER replaces the interval, brings the check value up to
date and is that expiry under the new interval, answered OK (R110, R209). -/
def Obligations.TheHeadIsAdmittedByTheStagger : Prop :=
  (∀ (s : State) (e : QueueEntry) (rest : List QueueEntry), s.sup.state = .running → s.queue = e :: rest →
    s.sw[e.chan].state = .queued → s.sw[e.chan].applied = 0 → e.level ≠ 0 →
    (¬s.staggerOver → exec .staggerExpiry s = .next s) ∧
    (s.staggerOver → s.ret.stagger ≠ 0 →
      exec .staggerExpiry s = .next (State.admitted { s with queue := rest } e.chan e.level)) ∧
    (s.ret.stagger = 0 → ∃ t, exec .staggerExpiry s = .next t ∧ t.queue = [] ∧
      ∀ x ∈ s.queue, t.sw[x.chan].state = .on ∧ t.sw[x.chan].admStamp = s.runCount)) ∧
  (∀ s : State, s.sup.state = .running → s.queue = [] → exec .staggerExpiry s = .next s) ∧
  ∀ (s : State) (b : Byte), s.holds 0x39 [b] →
    ∃ t, exec .staggerExpiry { s with ret := { s.ret with stagger := b }, check := ⟨{ s.ret with stagger := b }⟩ } =
        .next t ∧
      exec .setStagger s = .next (t.answered 0x39 .ok [])

/-- MIN_ON_EXPIRY takes an ENDING channel whose min-on has elapsed to FADING where it ramps and to OFF otherwise (R111), with the
ramping mark clear in FADING, which is the model's reading (notes/assumptions/12.md);
MIN_OFF_EXPIRY has a channel in HOLD(DWELL) whose min-off has elapsed make the tests, and CHANGEOVER_GAP_EXPIRY the members in
HOLD(GROUP) of a group whose gap has elapsed, in ascending order, the queue taking those that pass as R107 gives (R104); each that
finds nothing waiting on it changes nothing. That the head is tested once, at the end of the event, is the model's reading
(notes/assumptions/10.md). -/
def Obligations.WaitsEndAtTheirExpiry : Prop :=
  (∀ (s : State) (ch : Chan), s.sup.state = .running →
    (s.sw[ch].state = .ending → s.minOnOver ch → s.sw[ch].applied ≠ 0 →
      (s.ret.channels[ch].kind = .dimmed ∧ s.ret.channels[ch].ramp ≠ 0 →
        exec (.minOnExpiry ch) s = .next (State.moved
          { s with sw := s.sw.set ch { s.sw[ch] with rampStamp := s.runCount, ramping := false } } ch .fading)) ∧
      (¬(s.ret.channels[ch].kind = .dimmed ∧ s.ret.channels[ch].ramp ≠ 0) →
        exec (.minOnExpiry ch) s = .next (s.dropped ch .off))) ∧
    (¬(s.sw[ch].state = .ending ∧ s.minOnOver ch) → exec (.minOnExpiry ch) s = .next s)) ∧
  (∀ (s : State) (ch : Chan), s.sup.state = .running → s.sw[ch].applied = 0 →
    (s.sw[ch].state = .hold .dwell → s.minOffOver ch →
      ∃ t, exec (.minOffExpiry ch) s = .next t ∧ TakesTests s ch t) ∧
    (¬(s.sw[ch].state = .hold .dwell ∧ s.minOffOver ch) → exec (.minOffExpiry ch) s = .next s)) ∧
  ∀ (s : State) (g : Group), s.sup.state = .running →
    let due := s.gapStamps[g.idx].past = true ∨
      s.ret.gaps[g.idx].toNat ≤ (s.runCount - s.gapStamps[g.idx].stamp).toNat
    let waits (ch : Chan) : Prop := s.ret.channels[ch].group = some g ∧ s.sw[ch].state = .hold .group
    (∀ ch : Chan, due → waits ch → s.sw[ch].applied = 0 → (∀ o : Chan, waits o → o = ch) →
      ∃ t, exec (.changeoverGapExpiry g) s = .next t ∧ TakesTests s ch t) ∧
    (due → (∀ e ∈ s.queue, s.sw[e.chan].state = .queued) →
      ∃ t, exec (.changeoverGapExpiry g) s = .next t ∧ RetestsAll waits s t) ∧
    (¬(due ∧ ∃ ch, waits ch) → exec (.changeoverGapExpiry g) s = .next s)

/-- RAMP_TIMER_EXPIRY moves a ramping channel in ON one level toward its target, ending the ramp there, and steps a FADING one
down by one, to OFF from level 1; where no ramp step has elapsed nothing changes (R113, R114). That the ramping mark is clear in
FADING is the model's reading (notes/assumptions/12.md). -/
def Obligations.RampsMoveOneLevelAStep : Prop :=
  ∀ (s : State) (ch : Chan), s.sup.state = .running → s.sw[ch].applied ≠ 0 → s.sw[ch].target ≠ s.sw[ch].applied →
    let w := s.sw[ch]
    let due := s.ret.channels[ch].ramp.val ≤ (s.runCount - w.rampStamp).toNat
    (due → w.state = .on → w.ramping = true → w.target ≠ 0 →
      ∃ l : Level, (w.applied < w.target → l.val = w.applied.val + 1) ∧
        (w.target < w.applied → l.val + 1 = w.applied.val) ∧
        exec (.rampTimerExpiry ch) s = .next { s with sw := s.sw.set ch (
          if l = w.target then { w with applied := l, ramping := false }
          else { w with applied := l, rampStamp := s.runCount, ramping := true }) }) ∧
    (due → w.state = .fading → 1 < w.applied →
      ∃ l : Level, l.val + 1 = w.applied.val ∧ exec (.rampTimerExpiry ch) s =
        .next { s with sw := s.sw.set ch { w with applied := l, rampStamp := s.runCount, ramping := false } }) ∧
    (due → w.state = .fading → w.applied = 1 → exec (.rampTimerExpiry ch) s = .next (s.dropped ch .off)) ∧
    (¬(due ∧ (w.state = .on ∧ w.ramping = true ∨ w.state = .fading)) → exec (.rampTimerExpiry ch) s = .next s)

/-- LONG_PAST_MARK sets a timer's mark once the difference from its start stamp has reached the greatest length the timer can
have, 2,550 tenths for the dwells and 255 for the gap and the stagger, and changes nothing before or besides; and no row clears a
mark but one in which the timer starts at the run count it leaves (R99). -/
def Obligations.LongPastMarksStay : Prop :=
  (∀ (s : State) (ch : Chan), s.sup.state = .running →
    exec (.longPastMark (.minOn ch)) s = .next (if 2550 ≤ (s.runCount - s.sw[ch].admStamp).toNat then
      { s with sw := s.sw.set ch { s.sw[ch] with minOnPast := true } } else s) ∧
    exec (.longPastMark (.minOff ch)) s = .next (if 2550 ≤ (s.runCount - s.sw[ch].offStamp).toNat then
      { s with sw := s.sw.set ch { s.sw[ch] with minOffPast := true } } else s)) ∧
  (∀ (s : State) (g : Group), s.sup.state = .running →
    exec (.longPastMark (.gap g)) s = .next (if 255 ≤ (s.runCount - s.gapStamps[g.idx].stamp).toNat then
      { s with gapStamps := s.gapStamps.set g.idx ⟨s.gapStamps[g.idx].stamp, true⟩ } else s)) ∧
  (∀ s : State, s.sup.state = .running →
    exec (.longPastMark .stagger) s = .next (if 255 ≤ (s.runCount - s.lastAdm).toNat then
      { s with staggerPast := true } else s)) ∧
  ∀ (c : Instr) (s t : State), exec c s = .next t →
    (∀ ch : Chan, (s.sw[ch].minOnPast = true → t.sw[ch].minOnPast = false → t.sw[ch].admStamp = t.runCount) ∧
      (s.sw[ch].minOffPast = true → t.sw[ch].minOffPast = false → t.sw[ch].offStamp = t.runCount)) ∧
    (∀ g : Group, s.gapStamps[g.idx].past = true → t.gapStamps[g.idx].past = false →
      t.gapStamps[g.idx].stamp = t.runCount) ∧
    (s.staggerPast = true → t.staggerPast = false → t.lastAdm = t.runCount)

/-- The ALL-OFF condition follows the pin and the host latch. A change of either that brings it into force is its entry (R119);
one that leaves the condition as it was changes the input alone; ALL_OFF_PIN_CHANGE takes the pin, FORCE ALL OFF sets the latch
and RELEASE ALL OFF clears it, each answered OK. The release of the condition raises ALL-OFF and has the channels in
HOLD(ALL-OFF) make the tests in ascending order, the queue taking those that pass as R107 gives; with none there nothing else happens
(R118, R120, R210). That the head is tested once, at the end of the event, is the model's reading (notes/assumptions/10.md). -/
def Obligations.TheAllOffConditionIsEnteredAndReleased : Prop :=
  ((∀ (s : State), s.sup.state = .running → s.allOff = false →
     (∀ ch : Chan, s.sw[ch].applied ≠ 0 ↔ s.sw[ch].state.driven = true) →
     (∃ t, exec (.allOffPinChange true) s = .next t ∧ EntersAllOff s t ∧ t.pinTaken = true ∧
       t = { s with
         pinTaken := true
         sw := t.sw
         faults := t.faults
         gapStamps := t.gapStamps
         queue := []
         att := { s.att with channel := t.att.channel, allOff := true }
         mail := { s.mail with levelReports := t.mail.levelReports } }) ∧
     (s.holds 0x50 [] → ∃ t, exec .forceAllOff s = .next (t.answered 0x50 .ok []) ∧ EntersAllOff s t ∧
       t = { s with
         ret := { s.ret with hostLatch := true }
         check := ⟨{ s.ret with hostLatch := true }⟩
         sw := t.sw
         faults := t.faults
         gapStamps := t.gapStamps
         queue := []
         att := { s.att with channel := t.att.channel, allOff := true }
         mail := { s.mail with levelReports := t.mail.levelReports } })) ∧
   (∀ (s : State) (b : Bool), s.sup.state = .running → ((b || s.ret.hostLatch) = s.allOff) →
     exec (.allOffPinChange b) s = .next { s with pinTaken := b }) ∧
   (∀ s : State, s.holds 0x50 [] → s.allOff = true →
     exec .forceAllOff s = .next (State.answered { s with
       ret := { s.ret with hostLatch := true }, check := ⟨{ s.ret with hostLatch := true }⟩ } 0x50 .ok [])) ∧
   ∀ s : State, s.holds 0x51 [] → s.pinTaken = true ∨ s.ret.hostLatch = false →
     exec .releaseAllOff s = .next (State.answered { s with
       ret := { s.ret with hostLatch := false }, check := ⟨{ s.ret with hostLatch := false }⟩ } 0x51 .ok [])) ∧
  (∀ s : State, s.sup.state = .running → s.allOff = true →
    let waits (ch : Chan) : Prop := s.sw[ch].state = .hold .allOff
    let after (u t : State) : Prop := t.att.allOff = true ∧
      ((∀ e ∈ s.queue, s.sw[e.chan].state = .queued) → RetestsAll waits u t) ∧
      (∀ ch : Chan, waits ch → (∀ o : Chan, waits o → o = ch) → s.queue = [] → s.sw[ch].applied = 0 →
        TakesTests u ch t) ∧
      ((∀ ch : Chan, ¬waits ch) → t = u)
    (s.ret.hostLatch = false →
      ∃ t, exec (.allOffPinChange false) s = .next t ∧
        after { s with pinTaken := false, att := { s.att with allOff := true } } t) ∧
    (s.pinTaken = false → s.holds 0x51 [] →
      ∃ t, exec .releaseAllOff s = .next (t.answered 0x51 .ok []) ∧
        after { s with
          ret := { s.ret with hostLatch := false }
          check := ⟨{ s.ret with hostLatch := false }⟩
          att := { s.att with allOff := true } } t))

/-- SET CHANNEL TIMING replaces the dwells, the ramp step and the retry limit in any switching state, brings the check value up
to date and is answered OK; a wait on a dwell or ramp step that it shortens, found over under the new length, ends in that step as
at its expiry, one that it does not shorten is left, and a ramp step of 0 completes a ramp or a fade; a retry limit plus one below
the fault count is NOT-PERMITTED (R79, R99, R111, R204). CONFIGURE GROUP replaces the gap likewise; a gap that was running and
that it shortens is at its expiry under the new length, and a gap not shortened or already elapsed has nothing retested (R81, R99,
R105, R208). That an expiry due before the command stays the row's own is the model's reading (notes/assumptions/13.md). -/
def Obligations.NewLengthsActInTheirStep : Prop :=
  (∀ (s : State) (params : List Byte) (c : ChannelTiming), s.holds 0x31 params → readChannelTiming params = .ok c →
    (c.retry.val + 1 < s.faults[c.chan].count →
      exec .setChannelTiming s = .next (s.answered 0x31 .notPermitted [])) ∧
    (s.faults[c.chan].count ≤ c.retry.val + 1 →
      let ret := { s.ret with channels := s.ret.channels.set c.chan { s.ret.channels[c.chan] with
        minOn := c.minOn, minOff := c.minOff, ramp := c.ramp, retry := c.retry } }
      let u : State := { s with ret := ret, check := ⟨ret⟩ }
      let w := s.sw[c.chan]
      let old := s.ret.channels[c.chan]
      (w.state ≠ .ending → w.state ≠ .hold .dwell → w.state ≠ .fading → w.ramping = false →
        exec .setChannelTiming s = .next (u.answered 0x31 .ok [])) ∧
      (w.state = .ending →
        (c.minOn < old.minOn → ∃ t, exec (.minOnExpiry c.chan) u = .next t ∧
          exec .setChannelTiming s = .next (t.answered 0x31 .ok [])) ∧
        (old.minOn ≤ c.minOn → exec .setChannelTiming s = .next (u.answered 0x31 .ok []))) ∧
      (w.state = .hold .dwell →
        (c.minOff < old.minOff → ∃ t, exec (.minOffExpiry c.chan) u = .next t ∧
          exec .setChannelTiming s = .next (t.answered 0x31 .ok [])) ∧
        (old.minOff ≤ c.minOff → exec .setChannelTiming s = .next (u.answered 0x31 .ok []))) ∧
      (w.state = .on ∨ w.state = .fading → c.ramp ≠ 0 →
        (c.ramp < old.ramp → ∃ t, exec (.rampTimerExpiry c.chan) u = .next t ∧
          exec .setChannelTiming s = .next (t.answered 0x31 .ok [])) ∧
        (old.ramp ≤ c.ramp → exec .setChannelTiming s = .next (u.answered 0x31 .ok []))) ∧
      (w.state = .on → w.ramping = true → c.ramp = 0 → w.applied ≠ 0 → w.target ≠ 0 →
        exec .setChannelTiming s = .next (State.answered
          { u with sw := s.sw.set c.chan { w with applied := w.target, ramping := false } } 0x31 .ok [])) ∧
      (w.state = .fading → w.applied ≠ 0 → c.ramp = 0 →
        exec .setChannelTiming s = .next ((u.dropped c.chan .off).answered 0x31 .ok [])))) ∧
  ∀ (s : State) (params : List Byte) (g : Group) (gap : Byte), s.holds 0x38 params →
    readConfigureGroup params = .ok (g, gap) →
    let u : State := { s with
      ret := { s.ret with gaps := s.ret.gaps.set g.idx gap }
      check := ⟨{ s.ret with gaps := s.ret.gaps.set g.idx gap }⟩ }
    let elapsed := s.gapStamps[g.idx].past = true ∨
      s.ret.gaps[g.idx].toNat ≤ (s.runCount - s.gapStamps[g.idx].stamp).toNat
    (¬elapsed → gap < s.ret.gaps[g.idx] → ∃ t, exec (.changeoverGapExpiry g) u = .next t ∧
      exec .configureGroup s = .next (t.answered 0x38 .ok [])) ∧
    (elapsed ∨ s.ret.gaps[g.idx] ≤ gap → exec .configureGroup s = .next (u.answered 0x38 .ok []))

/-! ### Output stage and load faults -/

/-- OVERCURRENT_REPORT of a driven channel raises its fault count by one, capped at the retry limit plus one, cuts the drive with
the off stamps made and the clean-run timer stopped, and takes it to LOCKED with its lock set where the count exceeds the
limit, and to FAULTED otherwise; the target stands, and FAULT and CHANNEL are raised. A report that finds no driven output
changes nothing (R130, R137). -/
def Obligations.AnOvercurrentFaultsOrLocks : Prop :=
  ∀ (s : State) (ch : Chan), s.sup.state = .running →
    (s.sw[ch].state.driven = false → exec (.overcurrentReport ch) s = .next s) ∧
    (s.sw[ch].state.driven = true → s.sw[ch].applied ≠ 0 →
      let limit := s.ret.channels[ch].retry.val
      let count := min (s.faults[ch].count + 1) (limit + 1)
      let locks := decide (limit < count)
      let u := s.dropped ch (if locks then .locked else .faulted)
      let ret := if locks then { s.ret with locks := s.ret.locks.set ch true } else s.ret
      exec (.overcurrentReport ch) s = .next { u with
        ret := ret
        check := if locks then ⟨ret⟩ else s.check
        faults := s.faults.set ch ⟨0, count, some s.runCount, false⟩
        att := { u.att with fault := s.att.fault ||| BitVec.twoPow 16 ch.val } })

/-- RETRY_TIMER_EXPIRY after 5.0 s takes a FAULTED channel to OFF without a new off stamp, or to the tests where its target is
not 0 (R132); CLEAN_RUN_EXPIRY after 60.0 s of unbroken drive sets the fault count to 0 and finishes the timer (R131). That
the row of either may come before its time, and then changes nothing, is the model's reading (notes/assumptions/7.md). CLEAR FAULT
sets the count to 0 and, in LOCKED, clears the lock and takes the channel to OFF or its tests, answered OK in every state (R134,
R207). -/
def Obligations.FaultsAreRetriedAndCleared : Prop :=
  (∀ (s : State) (ch : Chan) (stamp : RunCount), s.sup.state = .running → s.sw[ch].applied = 0 →
    s.faults[ch].stamp = some stamp →
    (s.sw[ch].state = .faulted → 50 ≤ (s.runCount - stamp).toNat →
      (s.sw[ch].target = 0 → exec (.retryTimerExpiry ch) s = .next (s.moved ch .off)) ∧
      (s.sw[ch].target ≠ 0 → ∃ t, exec (.retryTimerExpiry ch) s = .next t ∧ TakesTests (s.moved ch .off) ch t)) ∧
    (¬(s.sw[ch].state = .faulted ∧ 50 ≤ (s.runCount - stamp).toNat) → exec (.retryTimerExpiry ch) s = .next s)) ∧
  (∀ (s : State) (ch : Chan), s.sup.state = .running →
    exec (.cleanRunExpiry ch) s = .next (
      if s.faults[ch].cleanRunning = true ∧ 600 ≤ (s.runCount - s.sw[ch].admStamp).toNat then
        { s with faults := s.faults.set ch { s.faults[ch] with count := 0, cleanRunning := false } }
      else s)) ∧
  ∀ (s : State) (c : Byte) (ch : Chan), s.holds 0x35 [c] → c.toNat = ch.val →
    let u : State := { s with faults := s.faults.set ch { s.faults[ch] with count := 0 } }
    (s.sw[ch].state ≠ .locked → exec .clearFault s = .next (u.answered 0x35 .ok [])) ∧
    (s.sw[ch].state = .locked → s.sw[ch].applied = 0 →
      let ret := { s.ret with locks := s.ret.locks.set ch false }
      let v := State.moved { u with ret := ret, check := ⟨ret⟩ } ch .off
      (s.sw[ch].target = 0 → exec .clearFault s = .next (v.answered 0x35 .ok [])) ∧
      (s.sw[ch].target ≠ 0 → ∃ t, exec .clearFault s = .next (t.answered 0x35 .ok []) ∧ TakesTests v ch t))

/-! ### The key panel -/

/-- KEY_SAMPLE debounces each key, a level changing at the third disagreeing sample in a row (R142); a recognised press takes an
IDLE key on an unlocked panel to PRESSED with its hold timer started (R144); a recognised release takes any key to IDLE, a
PRESSED one performing its short action as one request (R145, R148). The requests of the keys wait apart, so that those of two keys
may be taken in either order (R151); that, and that a request is taken in a step of its own, are the model's readings
(notes/assumptions/6.md, notes/assumptions/9.md). HOLD_TIMER_EXPIRY takes a key PRESSED for 20 tenths to LONG, its long action
handing on a release of the bound channels, or nothing for the action NONE; a key that is not PRESSED, or not so long, is left as it
is (R146, R149, R151). Nothing else changes. -/
def Obligations.KeysAreDebouncedAndAct : Prop :=
  (∀ (s : State) (pressed : BitVec 8), s.sup.state = .running →
     let flips (k : KeyIdx) : Bool := decide (pressed.getLsbD k.val ≠ s.keys[k].down ∧ 2 ≤ s.keys[k].count)
     let taps (k : KeyIdx) : Bool := flips k && s.keys[k].down && (match s.keys[k].state with
       | .pressed _ => true
       | _ => false)
     ∃ t, exec (.keySample pressed) s = .next t ∧
       (∀ k : KeyIdx,
         t.keys[k].down = (if flips k then !s.keys[k].down else s.keys[k].down) ∧
         t.keys[k].count =
           (if pressed.getLsbD k.val = s.keys[k].down ∨ flips k = true then 0 else s.keys[k].count + 1) ∧
         t.keys[k].state =
           if flips k = false then s.keys[k].state
           else if s.keys[k].down = true then .idle
           else if s.keys[k].state = .idle ∧ s.ret.panelLocked = false then .pressed s.runCount
           else s.keys[k].state) ∧
       (∀ k : KeyIdx, t.mail.keyRequests[k] = s.mail.keyRequests[k] ++ if taps k = false then [] else
         (s.ret.bindings[k].map fun b => match b.action with
           | .on => KeyRequest.create ⟨.key k, b.level, b.channels, b.duration⟩
           | .off => .create ⟨.key k, 0, b.channels, b.duration⟩
           | .toggle => .create ⟨.key k,
               if ∃ ch : Chan, b.channels.getLsbD ch.val = true ∧ s.results[ch].target ≠ 0 then 0 else b.level,
               b.channels, b.duration⟩
           | .release => .release b.channels).toList) ∧
       t = { s with keys := t.keys, mail := { s.mail with keyRequests := t.mail.keyRequests } }) ∧
  (∀ (s : State) (k : KeyIdx), s.sup.state = .running →
     (∀ since, s.keys[k].state = .pressed since → 20 ≤ (s.runCount - since).toNat →
       exec (.holdTimerExpiry k) s = .next { s with
         keys := s.keys.set k { s.keys[k] with state := .long }
         mail := { s.mail with keyRequests := s.mail.keyRequests.set k (s.mail.keyRequests[k] ++
           (s.ret.bindings[k].map fun b => KeyRequest.release b.channels).toList) } }) ∧
     ((∀ since, s.keys[k].state = .pressed since → (s.runCount - since).toNat < 20) →
       exec (.holdTimerExpiry k) s = .next s))

/-! ### Supplies and starts -/

/-- A fall of VDD below 4.2 V, and an asserted RST#, take a RUNNING or STARTING supervisor to RETENTION: the link abandons its
transaction, its command and its response, nothing handed on is taken, every record stands, every output is undriven and ATTN#
is released; RESTART and FACTORY CLEAR take it from RUNNING to STARTING alike, FACTORY CLEAR with the cold request set, without
a response, and with parameters they are BAD-PARAMETER (R127, R155, R157, R160, R217). The emptied mail and the sticky error kept
through the dark (notes/assumptions/16.md), the marker judged at the entry (notes/assumptions/15.md) and the store kept below 2.0 V
(notes/assumptions/23.md) are the model's readings. -/
def Obligations.LeavingRunningStopsThePart : Prop :=
  (∀ (s : State) (mv : Nat), s.sup.state = .running ∨ s.sup.state = .starting → mv < 4200 → 1800 ≤ max mv s.sup.vbat →
    exec (.vddFall mv) s = .next { s with
      sup := { s.sup with
        state := .retention, vdd := mv, qualifying := false
        backupLost := s.sup.backupLost || decide (max mv s.sup.vbat < 2000) }
      link := { s.link with state := .idle, transaction := none }
      mail := ⟨[], [], tabConst 8 [], [], [], [], []⟩ }) ∧
  (∀ s : State, s.sup.state = .running ∨ s.sup.state = .starting →
    exec .rstAssert s = .next { s with
      sup := { s.sup with state := .retention, rstAsserted := true, qualifying := false }
      link := { s.link with state := .idle, transaction := none }
      mail := ⟨[], [], tabConst 8 [], [], [], [], []⟩ }) ∧
  (∀ (s : State) (mv : Nat), s.sup.state = .running ∨ s.sup.state = .starting → 4200 ≤ mv →
    exec (.vddBelowQualificationThreshold mv) s = .next { s with sup := { s.sup with vdd := mv } } ∧
    exec (.vddRise mv) s = .next { s with sup := { s.sup with vdd := mv } }) ∧
  (∀ (s : State) (params : List Byte),
    (s.holds 0x5E params →
      (params = [] → exec .restart s = .next { s with
        sup := { s.sup with state := .starting, startingFor := 0, qualifying := false }
        link := { s.link with state := .idle, transaction := none }
        mail := ⟨[], [], tabConst 8 [], [], [], [], []⟩ }) ∧
      (params ≠ [] → exec .restart s = .next (s.answered 0x5E .badParameter [0]))) ∧
    (s.holds 0x5F params →
      (params = [] → exec .factoryClear s = .next { s with
        sup := { s.sup with state := .starting, startingFor := 0, qualifying := false, coldRequest := true }
        link := { s.link with state := .idle, transaction := none }
        mail := ⟨[], [], tabConst 8 [], [], [], [], []⟩ }) ∧
      (params ≠ [] → exec .factoryClear s = .next (s.answered 0x5F .badParameter [0])))) ∧
  ∀ (s : State) (ch : Chan),
    (s.sup.state ≠ .running → s.drive ch = 0 ∧ s.attn = false) ∧
    (s.sup.state = .running →
      (s.ret.channels[ch].kind = .dimmed → s.drive ch = s.sw[ch].applied) ∧
      (s.ret.channels[ch].kind = .switch → s.drive ch = if s.sw[ch].applied = 0 then 0 else 15))

/-- In RETENTION the qualification measurement runs exactly while VDD stands at or above 4.4 V with RST# released, restarting
from zero where either ends, and its completion takes the supervisor to STARTING (R155). A backup domain whose supply falls
below 2.0 V in RETENTION has its backup-lost marker set; one whose supplies are both below 1.8 V loses its contents and the
supervisor is in OFF, from which either supply at 1.8 V takes it to RETENTION with the marker set and the cold request clear
(R156). That the contents lost are free values is the model's choice (notes/assumptions/4.md). So are the calendar, run count and store
kept with the supply between 1.8 V and 2.0 V (notes/assumptions/23.md), and that a row's level acts as the level it is, whatever
threshold the row names (notes/assumptions/15.md). -/
def Obligations.RetentionJudgesTheSupplies : Prop :=
  (∀ (s : State) (mv : Nat), s.sup.state = .retention → 1800 ≤ max mv s.sup.vbat →
    let t : State := { s with sup := { s.sup with
      vdd := mv
      backupLost := s.sup.backupLost || decide (max mv s.sup.vbat < 2000)
      qualifying := decide (4400 ≤ mv) && !s.sup.rstAsserted } }
    exec (.vddRise mv) s = .next t ∧ exec (.vddFall mv) s = .next t ∧
      exec (.vddBelowQualificationThreshold mv) s = .next t) ∧
  (∀ s : State, s.sup.state = .retention →
    exec .rstAssert s = .next { s with sup := { s.sup with rstAsserted := true, qualifying := false } } ∧
    exec .rstRelease s = .next { s with sup := { s.sup with
      rstAsserted := false, qualifying := decide (4400 ≤ s.sup.vdd) } } ∧
    (s.sup.qualifying = true → exec .supplyQualified s = .next { s with sup := { s.sup with
      state := .starting, startingFor := 0, qualifying := false } })) ∧
  (∀ s : State, s.sup.state ≠ .retention →
    exec .supplyQualified s = .next s ∧
    exec .rstRelease s = .next { s with sup := { s.sup with rstAsserted := false } }) ∧
  (∀ (s : State) (vbat : Nat),
    (s.sup.state = .retention → 1800 ≤ max s.sup.vdd vbat → exec (.backupSupplyFall vbat) s = .next { s with
      sup := { s.sup with
        vbat := vbat
        backupLost := s.sup.backupLost || decide (max s.sup.vdd vbat < 2000)
        qualifying := decide (4400 ≤ s.sup.vdd) && !s.sup.rstAsserted } }) ∧
    (s.sup.state = .running ∨ s.sup.state = .starting → 4200 ≤ s.sup.vdd →
      exec (.backupSupplyFall vbat) s = .next { s with sup := { s.sup with vbat := vbat } })) ∧
  (∀ (s : State) (vdd vbat : Nat), s.sup.state ≠ .off → vdd < 1800 → vbat < 1800 →
    ∃ t, exec (.backupDomainLoss vdd vbat) s = .next t ∧ t.sup.state = .off ∧ t.sup.vdd = vdd ∧ t.sup.vbat = vbat ∧
      t.sup.coldRequest = s.sup.coldRequest ∧ t.att = s.att ∧ t.sw = s.sw ∧ t.faults = s.faults ∧ t.queue = s.queue) ∧
  ∀ (s : State) (vdd vbat : Nat), s.sup.state = .off →
    (1800 ≤ vdd ∨ 1800 ≤ vbat → exec (.backupDomainPowerUp vdd vbat) s = .next { s with sup := { s.sup with
      state := .retention, vdd := vdd, vbat := vbat, backupLost := true, coldRequest := false
      qualifying := decide (4400 ≤ vdd) && !s.sup.rstAsserted } }) ∧
    (vdd < 1800 → vbat < 1800 → exec (.backupDomainPowerUp vdd vbat) s = .next { s with sup := { s.sup with
      vdd := vdd, vbat := vbat } })

/-- STARTING_END, at least two steps of the time base into STARTING, is a cold start where the backup-lost marker or the cold
request is set, or where, both being clear, the retained check fails: every block takes its cold values, the ALL-OFF condition is
that of the pin, START and CLOCK alone are pending, both marks are clear and the supervisor is RUNNING. Whether a check value made
over another store fails is left free (notes/assumptions/3.md); where it does not, the start is that of a check that agrees. Sooner,
and in any other state, no start ends (R161 to R163); the count of two steps for 200 ms, and that nothing ends sooner, are the
model's readings (notes/assumptions/22.md). -/
def Obligations.AColdStartTakesTheColdValues : Prop :=
  (∀ (s : State) (pin : Bool), s.sup.state = .starting → 2 ≤ s.sup.startingFor →
    let cold : State := { State.reset with
      pinTaken := pin
      sup := { s.sup with state := .running, backupLost := false, coldRequest := false, startingFor := 0 }
      link := ⟨.idle, false, none, s.link.miso⟩
      freeCount := s.freeCount
      pending := s.pending }
    (s.sup.backupLost = true ∨ s.sup.coldRequest = true → exec (.startingEnd pin) s = .next cold) ∧
    (s.sup.backupLost = false → s.sup.coldRequest = false → s.check.store ≠ s.ret →
      (Config.checkCollides s.check.store s.ret = false → exec (.startingEnd pin) s = .next cold) ∧
      (Config.checkCollides s.check.store s.ret = true →
        exec (.startingEnd pin) s = exec (.startingEnd pin) { s with check := ⟨s.ret⟩ }))) ∧
  ∀ (s : State) (pin : Bool), s.sup.state ≠ .starting ∨ s.sup.startingFor < 2 → exec (.startingEnd pin) s = .next s

/-- STARTING_END with both marks clear and the check agreeing is a warm start, in the order of R164. Time stands; the configuration,
locks, bindings and mask are kept; gates and keys take their warm values (R75, R153). The Program Table is retired and evaluated,
every ACTIVE record stamped alike (R43), and the Override Table settled by the resume policy (R61); every channel is ranked over the
table so settled, and every group arbitrated with nothing applied (R97). Each channel then stands as its target, lock, the ALL-OFF
condition, min-off and group gap have it, with its stamps at the resumption instant and the marks clear; those that pass wait in the
queue, or with a stagger interval of 0 are admitted (R126, R140). Under KEEP the UNTIL-NEXT channels whose verdict differs from their
baseline are withdrawn, and named in the one request that waits (R62). The epoch and the PROGRAM and OVERRIDE flags follow the
records changed; START is pending, CLOCK beside it where the clock is INVALID, and no other flag (R14, R163 to R165, R175). That no
CHANNEL flag is raised, and that an applied-level report of the channels admitted waits, are the model's readings
(notes/assumptions/20.md), as are the two steps (notes/assumptions/22.md). -/
def Obligations.AWarmStartKeepsTheRetainedItems : Prop :=
  ∀ (s : State) (pin : Bool), s.sup.state = .starting → 2 ≤ s.sup.startingFor → s.sup.backupLost = false →
    s.sup.coldRequest = false → s.check = ⟨s.ret⟩ →
    let p : Present := ⟨s.runCount, s.cal.present, s.ret.clockValid, s.gates⟩
    ∃ (t : State) (settled : Vector OvrSlot 16) (cs : ChanSet), exec (.startingEnd pin) s = .next t ∧
      let v : State := { t with ret := { t.ret with overrides := settled }, sw := tabConst 16 Switching.cold }
      t.sup = { s.sup with state := .running, backupLost := false, coldRequest := false, startingFor := 0 } ∧
      t.cal = s.cal ∧ t.runCount = s.runCount ∧ t.stepReplaced = s.stepReplaced ∧ t.pinTaken = pin ∧
      t.ret = { s.ret with programs := t.ret.programs, overrides := t.ret.overrides, epoch := t.ret.epoch } ∧
      t.check = ⟨t.ret⟩ ∧
      (∀ g : GateIdx, t.gates[g] =
        ⟨.auto, if s.ret.gates[g].enabled then .unknown else .disabled, 0, .none, 0, false⟩) ∧
      (∀ k : KeyIdx, t.keys[k] = ⟨true, 0, .idle⟩) ∧
      (∀ i : ProgIdx, t.ret.programs[i] = match s.ret.programs[i].live with
        | none => s.ret.programs[i]
        | some r =>
          if p.valid = true ∧ r.defn.timing.ended p.time = true then ⟨none, s.ret.programs[i].gen + 1, .ended⟩
          else { s.ret.programs[i] with live := some { r with state :=
            match (r.evaluate { p with gates := t.gates }).state with
            | .active _ => .active s.runCount
            | st => st } }) ∧
      (∀ i : OvrIdx, settled[i] = match s.ret.overrides[i].live with
        | none => s.ret.overrides[i]
        | some r => match s.ret.resume, r.kind with
          | .drop, _ => ⟨none, s.ret.overrides[i].gen + 1, .restart⟩
          | .keep, .timed start minutes => if minutes * 600 ≤ (s.runCount - start).toNat
              then ⟨none, s.ret.overrides[i].gen + 1, .expired⟩ else s.ret.overrides[i]
          | .keep, _ => s.ret.overrides[i]) ∧
      (∀ ch : Chan, ∃ c, (ranking v ch).head? = some c ∧ t.results[ch].source = c.source ∧ t.results[ch].rank = c.rank ∧
        t.results[ch].level = c.level ∧ t.results[ch].verdict = verdictOf v ch ∧ t.settled ch) ∧
      (∀ g : Group, t.holders[g.idx] = arbitrate v t.results g) ∧
      (∀ ch : Chan,
        let r := s.ret.channels[ch]
        let target := t.results[ch].target
        let gapRuns : Bool := match r.group with
          | some g => decide (s.ret.gaps[g.idx] ≠ 0)
          | none => false
        let state : SwState :=
          if s.ret.locks[ch] = true then .locked
          else if target = 0 then .off
          else if pin = true ∨ s.ret.hostLatch = true then .hold .allOff
          else if r.minOff ≠ 0 then .hold .dwell
          else if gapRuns = true then .hold .group
          else if s.ret.stagger ≠ 0 then .queued
          else .on
        let w : Switching := ⟨state, target, 0, s.runCount, false, s.runCount, false, s.sw[ch].rampStamp, false⟩
        t.sw[ch] = (if state = .on then admittedRecord r s.runCount w target else w) ∧
        t.faults[ch] = ⟨0, 0, none, decide (state = .on)⟩) ∧
      t.queue = ([QueueClass.first, .normal].flatMap fun c => ((List.finRange 16).filter fun ch =>
        decide (t.sw[ch].state = .queued) && decide (s.ret.channels[ch].queueClass = c)).map fun ch =>
          ⟨ch, c, t.sw[ch].target⟩) ∧
      (∀ g : Group, t.gapStamps[g.idx] = ⟨s.runCount, false⟩) ∧ t.lastAdm = s.runCount ∧ t.staggerPast = false ∧
      (∀ ch : Chan, cs.getLsbD ch.val = true ↔ s.ret.resume = .keep ∧ ∃ (i : OvrIdx) (r : OvrRec) (b : Verdict),
        settled[i].live = some r ∧ r.channels.getLsbD ch.val = true ∧ r.baseline ch = some b ∧
        b ≠ t.results[ch].verdict) ∧
      t.ret.overrides = withdrawn settled cs .programChanged ∧
      t.ret.epoch = s.ret.epoch + BitVec.ofNat 16 (
        ((List.finRange 96).filter fun i => s.ret.programs[i].live.isSome && t.ret.programs[i].live.isNone).length +
        ((List.finRange 16).filter fun i => decide (settled[i] ≠ s.ret.overrides[i])).length +
        ((List.finRange 16).filter fun i => decide (t.ret.overrides[i] ≠ settled[i])).length) ∧
      (∀ i : ProgIdx, t.att.program.getLsbD i.val = (s.ret.programs[i].live.isSome && t.ret.programs[i].live.isNone)) ∧
      (∀ i : OvrIdx, t.att.override.getLsbD i.val =
        (s.ret.overrides[i].live.isSome && t.ret.overrides[i].live.isNone)) ∧
      t.att = ⟨0, 0, t.att.program, t.att.override, 0, !s.ret.clockValid, true, false, false, false, false⟩ ∧
      t.mail = ⟨[], [], tabConst 8 [], asRequest cs, [], [],
        asRequest (chansWhere fun ch => s.ret.channels[ch].group.isSome && decide (t.sw[ch].applied ≠ 0))⟩ ∧
      t.link = ⟨.idle, false, none, s.link.miso⟩ ∧ t.freeCount = s.freeCount ∧ t.pending = s.pending

/-! ### The host link and attention -/

/-- A COMMAND whose first byte is taken in IDLE is judged as its bytes arrive: a length above 40, a bad check and an unknown code are
answered by the link itself with the code's echo, RESPONSE raised; a whole frame with a good check and a known code goes to
EXECUTING; and one not yet whole stays in RECEIVING. In EXECUTING and READY the command is refused with OVERRUN, and nothing else of
the link changes. The part shifts the status byte and then zeros throughout (R169 to R171). How a
transaction is divided into rows is the model's (notes/assumptions/17.md). -/
def Obligations.CommandFramesAreJudged : Prop :=
  ∀ (s : State) (part : FirstByte) (x : Transaction) (before bytes : List Byte), s.TakesFirstByte part x before →
    let shifted := before ++ List.replicate bytes.length 0
    let opened (st : LinkState) : Link := ⟨st, s.link.stickyError, some ⟨x.sawError, true, x.flagged, false⟩, shifted⟩
    let answered (code : Byte) (result : ResultCode) : State :=
      { s with link := opened (.ready ⟨code, result, []⟩), att := { s.att with response := true } }
    (s.link.state = .idle →
      (bytes.length < 2 → exec (.command bytes part) s = .next { s with link := opened (.receiving bytes) }) ∧
      ∀ (code len : Byte) (rest : List Byte), bytes = code :: len :: rest →
        (40 < len.toNat → exec (.command bytes part) s = .next (answered code .badLength)) ∧
        (len.toNat ≤ 40 →
          (rest.length ≤ len.toNat → exec (.command bytes part) s = .next { s with link := opened (.receiving bytes) }) ∧
          ∀ (params after : List Byte) (check : Byte), rest = params ++ check :: after → params.length = len.toNat →
            (check ≠ crc8 (code :: len :: params) → exec (.command bytes part) s = .next (answered code .badCheck)) ∧
            (check = crc8 (code :: len :: params) →
              ((∃ c : Instr, hostCode c = some code) →
                exec (.command bytes part) s = .next { s with link := opened (.executing ⟨code, params⟩) }) ∧
              ((¬∃ c : Instr, hostCode c = some code) →
                exec (.command bytes part) s = .next (answered code .unknownCommand))))) ∧
    ((∃ c, s.link.state = .executing c) ∨ (∃ r, s.link.state = .ready r) →
      exec (.command bytes part) s = .next { s with
        link := ⟨s.link.state, true, some ⟨x.sawError, true, true, false⟩, shifted⟩
        att := { s.att with overrun := true } })

/-- The status byte begins with the transaction and shows READY, EXECUTING, ATTN#, ALL-OFF, CLOCK VALID and LINK ERROR as the part
then stands, bit 7 set and bit 6 clear (R168). Once the first byte is taken, STATUS shifts zeros, and FETCH the response frame that
the link state then gives: the response held, NOT-YET with the code in execution, or NO-RESPONSE, followed by zeros; a first byte that
names no transaction flags FRAMING (R167, R169, R170, R173). A completion between the two is seen by the FETCH after a status byte
that showed EXECUTING (R174). A transaction that begins while one is open begins after its end, and a first byte that the part did
not see begin reads 0xFF, which are the model's readings (notes/assumptions/17.md). -/
def Obligations.StatusAndFetchAnswerTheHost : Prop :=
  let fetched (r : Response) (n : Nat) : List Byte :=
    let body := [r.echo, r.result.byte, BitVec.ofNat 8 r.payload.length] ++ r.payload
    (body ++ [crc8 body] ++ List.replicate n 0).take n
  (∀ (s : State) (part : FirstByte) (x : Transaction) (before : List Byte) (n : Nat), s.TakesFirstByte part x before →
    let opened (shifted : List Byte) (collected : Bool) : Link :=
      { s.link with transaction := some ⟨x.sawError, true, x.flagged, collected⟩, miso := before ++ shifted }
    exec (.status n part) s = .next { s with link := opened (List.replicate n 0) false } ∧
    (∀ r, s.link.state = .ready r →
      exec (.fetch n part) s = .next { s with link := opened (fetched r n) (decide (r.payload.length + 4 ≤ n)) }) ∧
    (∀ c, s.link.state = .executing c →
      exec (.fetch n part) s = .next { s with link := opened (fetched ⟨c.code, .notYet, []⟩ n) false }) ∧
    (s.link.state = .idle →
      exec (.fetch n part) s = .next { s with link := opened (fetched ⟨0, .noResponse, []⟩ n) false }) ∧
    ∀ b : Byte, b ≠ 0x00 → b ≠ 0xC3 → b ≠ 0x3C →
      exec (.framing (.firstByte b part n)) s = .next { s with
        link := ⟨s.link.state, true, some ⟨x.sawError, true, true, false⟩, before ++ List.replicate n 0⟩
        att := { s.att with framing := true } }) ∧
  (∀ s : State, s.statusByte.getLsbD 7 = true ∧ s.statusByte.getLsbD 6 = false ∧
    (s.statusByte.getLsbD 5 = true ↔ ∃ r, s.link.state = .ready r) ∧
    (s.statusByte.getLsbD 4 = true ↔ ∃ c, s.link.state = .executing c) ∧ s.statusByte.getLsbD 3 = s.attn ∧
    s.statusByte.getLsbD 2 = (s.pinTaken || s.ret.hostLatch) ∧ s.statusByte.getLsbD 1 = s.ret.clockValid ∧
    s.statusByte.getLsbD 0 = s.link.stickyError) ∧
  (∀ (s : State) (n : Nat) (bytes : List Byte) (b : Byte), s.sup.state = .running → s.link.transaction = none →
    b ≠ 0x00 → b ≠ 0xC3 → b ≠ 0x3C →
    ∀ c ∈ [Instr.status n .begins, .command bytes .begins, .fetch n .begins, .framing (.firstByte b .begins n)],
      exec c s = .next { s with link := { s.link with
        transaction := some ⟨s.link.stickyError, false, false, false⟩, miso := [s.statusByte] } }) ∧
  (∀ (s : State) (n : Nat) (bytes : List Byte), s.sup.state = .running →
    (s.link.transaction = none → ∀ c ∈ [Instr.status n .taken, .fetch n .taken],
      exec c s = .next { s with link := { s.link with miso := List.replicate (n + 1) 0xFF } }) ∧
    (s.link.transaction = none → exec (.command bytes .taken) s =
      .next { s with link := { s.link with miso := List.replicate (bytes.length + 1) 0xFF } }) ∧
    ∀ x, s.link.transaction = some x → x.named = true →
      ∀ c ∈ [Instr.status n .taken, .command bytes .taken, .fetch n .taken], exec c s = .next s) ∧
  (∀ (s : State) (c : Instr) (code : Byte) (params : List Byte) (n : Nat), s.link.transaction = none →
    hostCode c = some code → code ≠ 0x5E → code ≠ 0x5F → s.holds code params →
    ∃ u t v r, exec (.fetch n .begins) s = .next u ∧ exec c u = .next t ∧ t.link.state = .ready r ∧
      exec (.fetch n .taken) t = .next v ∧ v.link.miso = s.statusByte :: fetched r n) ∧
  ∀ s t : State, s.sup.state = .running → exec .transactionEnd s = .next t → ∀ part : FirstByte, part ≠ .taken →
    (∀ n, exec (.status n part) s = exec (.status n part) t ∧ exec (.fetch n part) s = exec (.fetch n part) t) ∧
    ∀ bytes, exec (.command bytes part) s = exec (.command bytes part) t

/-- TRANSACTION_END: a frame cut short is discarded with FRAMING, and FRAMING's row of a rise before the check byte is that
same rise; a FETCH that shifted out the held response to the end of its check empties the response slot, one cut short leaves
it; and the sticky error is cleared exactly where a status byte that showed it was completely shifted out and nothing was flagged
since (R169, R171, R173). -/
def Obligations.TheRiseEndsTheTransaction : Prop :=
  ∀ (s : State) (x : Transaction), s.sup.state = .running → s.link.transaction = some x →
    let settled := s.link.stickyError && !(x.sawError && x.named && !x.flagged)
    (∀ frame, s.link.state = .receiving frame →
      exec .transactionEnd s = .next { s with
        link := { s.link with state := .idle, stickyError := true, transaction := none }
        att := { s.att with framing := true } } ∧
      exec (.framing .riseMidFrame) s = exec .transactionEnd s) ∧
    (∀ r, s.link.state = .ready r → exec .transactionEnd s = .next { s with
      link := { s.link with
        state := if x.collected = true then .idle else .ready r, stickyError := settled, transaction := none } }) ∧
    (s.link.state = .idle ∨ (∃ c, s.link.state = .executing c) →
      exec .transactionEnd s = .next { s with
        link := { s.link with stickyError := settled, transaction := none } })

/-- READ ATTENTION reports every pending flag at its place in 20 bytes and clears exactly the flags reported, RESPONSE being
pending after it; and ATTN# is asserted exactly while RUNNING with a pending flag of an enabled category (R178, R179, R186). -/
def Obligations.ReadAttentionClearsWhatItReports : Prop :=
  (∀ s : State, s.holds 0x54 [] → ∃ payload : List Byte,
    exec .readAttention s = .next { s with
      link := { s.link with state := .ready ⟨0x54, .ok, payload⟩ }
      att := ⟨0, 0, 0, 0, 0, false, false, false, true, false, false⟩ } ∧
    payload.length = 20 ∧
    ∀ n : Nat, n < 160 → (payload.getD (n / 8) 0).getLsbD (n % 8) =
      if n < 16 then s.att.channel.getLsbD n
      else if n < 32 then s.att.fault.getLsbD (n - 16)
      else if n < 128 then s.att.program.getLsbD (n - 32)
      else if n < 144 then s.att.override.getLsbD (n - 128)
      else if n < 148 then s.att.gate.getLsbD (n - 144)
      else if n = 148 then s.att.clock
      else if n = 149 then s.att.start
      else if n = 150 then s.att.allOff
      else if n = 151 then s.att.response
      else if n = 152 then s.att.overrun
      else if n = 153 then s.att.framing
      else false) ∧
  ∀ s : State, s.attn = true ↔ s.sup.state = .running ∧
    ((s.ret.mask.getLsbD 0 = true ∧ s.att.channel ≠ 0) ∨ (s.ret.mask.getLsbD 1 = true ∧ s.att.fault ≠ 0) ∨
      (s.ret.mask.getLsbD 2 = true ∧ s.att.program ≠ 0) ∨ (s.ret.mask.getLsbD 3 = true ∧ s.att.override ≠ 0) ∨
      (s.ret.mask.getLsbD 4 = true ∧ s.att.gate ≠ 0) ∨ (s.ret.mask.getLsbD 5 = true ∧ s.att.clock = true) ∨
      (s.ret.mask.getLsbD 6 = true ∧ s.att.start = true) ∨ (s.ret.mask.getLsbD 7 = true ∧ s.att.allOff = true) ∨
      (s.ret.mask.getLsbD 8 = true ∧ s.att.response = true) ∨
      (s.ret.mask.getLsbD 9 = true ∧ (s.att.overrun = true ∨ s.att.framing = true)))

/-! ### The wire -/

/-- Parameters that pass a command's checks are read at the places its layout gives: CREATE OVERRIDE, CONFIGURE CHANNEL, SET CHANNEL
TIMING, CONFIGURE GROUP, CONFIGURE GATE, SET GATE MODE and BIND KEY, whose fields that do not apply are absent (R198, R203, R204, R208,
R211 to R213). A definition read is a valid one, and a valid definition in the bytes a READ PROGRAM reports it in is read as itself,
by CREATE PROGRAM behind its flags byte and by EDIT PROGRAM behind a name (R19 to R24, R181, R191 to R193). -/
def Obligations.DefinitionsReadBackAsReported : Prop :=
  (∀ (params : List Byte) (disabled : Bool) (d : ProgDef), readCreateProgram params = .ok (disabled, d) → d.Valid) ∧
  (∀ (params : List Byte) (n : Name 96) (d : ProgDef), readEditProgram params = .ok (n, d) → d.Valid) ∧
  (∀ d : ProgDef, d.Valid →
    (∀ f : Byte, readCreateProgram (f :: d.bytes) = .ok (f.getLsbD 0, d)) ∧
    ∀ (h g : Byte) (i : ProgIdx) (gen : Gen), h.toNat = i.val + 1 → g.toNat = gen.val →
      readEditProgram (h :: g :: d.bytes) = .ok (⟨i, gen⟩, d)) ∧
  ∀ (b0 b1 b2 b3 b4 b5 b6 : Byte),
    let set (low high : Byte) : ChanSet := high ++ low
    let word (low high : Byte) : Nat := low.toNat + 256 * high.toNat
    (firstFailing (paramChecks [b0, b1, b2, b3, b4] .createOverride) = none →
      readCreateOverride [b0, b1, b2, b3, b4] = .ok ⟨.host, Fin.ofNat 16 b0.toNat, set b1 b2,
        if b0.toNat / 16 = 0 then .timed (word b3 b4) else if b0.toNat / 16 = 1 then .untilNext else .latched⟩) ∧
    (firstFailing (paramChecks [b0, b1] .configureChannel) = none → ∀ ch : Chan, b0.toNat = ch.val →
      readConfigureChannel [b0, b1] = .ok ⟨ch, if b1.getLsbD 7 then .dimmed else .switch,
        (if b1.toNat / 8 % 8 = 1 then some .A else if b1.toNat / 8 % 8 = 2 then some .B
          else if b1.toNat / 8 % 8 = 3 then some .C else if b1.toNat / 8 % 8 = 4 then some .D else none),
        if b1.getLsbD 6 then .first else .normal⟩) ∧
    (firstFailing (paramChecks [b0, b1, b2, b3, b4] .setChannelTiming) = none →
      ∀ (ch : Chan) (ramp : Fin 16) (retry : Fin 4), b0.toNat = ch.val → b3.toNat = ramp.val → b4.toNat = retry.val →
      readChannelTiming [b0, b1, b2, b3, b4] = .ok ⟨ch, b1, b2, ramp, retry⟩) ∧
    (∀ g : Group, b0.toNat = g.idx.val + 1 → readConfigureGroup [b0, b1] = .ok (g, b1)) ∧
    (firstFailing (paramChecks [b0, b1, b2, b3, b4] .configureGate) = none →
      ∀ (g : GateIdx) (debounce : Fin 16), b0.toNat = g.val → b4.toNat = debounce.val →
      readConfigureGate [b0, b1, b2, b3, b4] = .ok (g, ⟨b1.getLsbD 7, b2, b3, debounce⟩)) ∧
    (firstFailing (paramChecks [b0, b1] .setGateMode) = none → ∀ g : GateIdx, b0.toNat = g.val →
      readGateMode [b0, b1] = .ok (g, if b1 = 0 then .auto else if b1 = 1 then .forcedLow else .forcedHigh)) ∧
    (firstFailing (paramChecks [b0, b1, b2, b3, b4, b5, b6] .bindKey) = none → ∀ k : KeyIdx, b0.toNat = k.val + 1 →
      let duration : Duration := if b4.toNat / 16 = 1 then .timed (word b5 b6)
        else if b4.toNat / 16 = 2 then .untilNext else .latched
      let bound (action : KeyAction) : Binding := ⟨action, set b2 b3, Fin.ofNat 16 b1.toNat, duration⟩
      readBindKey [b0, b1, b2, b3, b4, b5, b6] = .ok (k,
        if b1.toNat / 16 = 0 then none else if b1.toNat / 16 = 1 then some (bound .toggle)
        else if b1.toNat / 16 = 2 then some (bound .on) else if b1.toNat / 16 = 3 then some (bound .off)
        else some (bound .release)))
end

