-- ==== Sys2Proof/Laws/State.lean ====
section
/-! SUPPORT. What each update of the state leaves and changes, one lemma per field per update, so that no later proof unfolds
a record update. -/

namespace Sys2Proof.Machine

/-! ### Tables -/

@[simp] theorem tab_getElem {n : Nat} {α : Type} (f : Fin n → α) (i : Fin n) : (tab f)[i] = f i := by
  simp [tab]

@[simp] theorem tab_getElem_nat {n : Nat} {α : Type} (f : Fin n → α) (i : Nat) (h : i < n) : (tab f)[i] = f ⟨i, h⟩ := by
  simp [tab]

@[simp] theorem tabConst_getElem (n : Nat) {α : Type} (a : α) (i : Fin n) : (tabConst n a)[i] = a := by
  simp [tabConst]

@[simp] theorem tabConst_getElem_nat (n : Nat) {α : Type} (a : α) (i : Nat) (h : i < n) : (tabConst n a)[i] = a := by
  simp [tabConst]

/-- Reading a table after one entry was replaced. -/
theorem set_getElem {n : Nat} {α : Type} (v : Vector α n) (i j : Fin n) (a : α) :
    (v.set i a)[j] = if j = i then a else v[j] := by
  have h := Vector.getElem_set (xs := v) (x := a) i.isLt j.isLt
  by_cases e : j = i <;> simp_all [Fin.ext_iff, eq_comm]

@[simp] theorem set_getElem_self {n : Nat} {α : Type} (v : Vector α n) (i : Fin n) (a : α) : (v.set i a)[i] = a := by
  simp

theorem set_getElem_ne {n : Nat} {α : Type} (v : Vector α n) {i j : Fin n} (a : α) (h : j ≠ i) :
    (v.set i a)[j] = v[j] := by
  rw [set_getElem, if_neg h]

/-! ### setRet -/

@[simp] theorem State.setRet_cal (r : Retained) (s : State) : (State.setRet r s).cal = s.cal := rfl
@[simp] theorem State.setRet_runCount (r : Retained) (s : State) : (State.setRet r s).runCount = s.runCount := rfl
@[simp] theorem State.setRet_stepReplaced (r : Retained) (s : State) : (State.setRet r s).stepReplaced = s.stepReplaced := rfl
@[simp] theorem State.setRet_ret (r : Retained) (s : State) : (State.setRet r s).ret = r := rfl
@[simp] theorem State.setRet_check (r : Retained) (s : State) : (State.setRet r s).check = ⟨r⟩ := rfl
@[simp] theorem State.setRet_gates (r : Retained) (s : State) : (State.setRet r s).gates = s.gates := rfl
@[simp] theorem State.setRet_results (r : Retained) (s : State) : (State.setRet r s).results = s.results := rfl
@[simp] theorem State.setRet_holders (r : Retained) (s : State) : (State.setRet r s).holders = s.holders := rfl
@[simp] theorem State.setRet_sw (r : Retained) (s : State) : (State.setRet r s).sw = s.sw := rfl
@[simp] theorem State.setRet_gapStamps (r : Retained) (s : State) : (State.setRet r s).gapStamps = s.gapStamps := rfl
@[simp] theorem State.setRet_queue (r : Retained) (s : State) : (State.setRet r s).queue = s.queue := rfl
@[simp] theorem State.setRet_lastAdm (r : Retained) (s : State) : (State.setRet r s).lastAdm = s.lastAdm := rfl
@[simp] theorem State.setRet_staggerPast (r : Retained) (s : State) : (State.setRet r s).staggerPast = s.staggerPast := rfl
@[simp] theorem State.setRet_pinTaken (r : Retained) (s : State) : (State.setRet r s).pinTaken = s.pinTaken := rfl
@[simp] theorem State.setRet_faults (r : Retained) (s : State) : (State.setRet r s).faults = s.faults := rfl
@[simp] theorem State.setRet_keys (r : Retained) (s : State) : (State.setRet r s).keys = s.keys := rfl
@[simp] theorem State.setRet_att (r : Retained) (s : State) : (State.setRet r s).att = s.att := rfl
@[simp] theorem State.setRet_link (r : Retained) (s : State) : (State.setRet r s).link = s.link := rfl
@[simp] theorem State.setRet_sup (r : Retained) (s : State) : (State.setRet r s).sup = s.sup := rfl
@[simp] theorem State.setRet_mail (r : Retained) (s : State) : (State.setRet r s).mail = s.mail := rfl
@[simp] theorem State.setRet_freeCount (r : Retained) (s : State) : (State.setRet r s).freeCount = s.freeCount := rfl
@[simp] theorem State.setRet_pending (r : Retained) (s : State) : (State.setRet r s).pending = s.pending := rfl

/-! ### setSw -/

@[simp] theorem State.setSw_cal (ch : Chan) (w : Switching) (s : State) : (State.setSw ch w s).cal = s.cal := rfl
@[simp] theorem State.setSw_runCount (ch : Chan) (w : Switching) (s : State) : (State.setSw ch w s).runCount = s.runCount := rfl
@[simp] theorem State.setSw_stepReplaced (ch : Chan) (w : Switching) (s : State) : (State.setSw ch w s).stepReplaced = s.stepReplaced := rfl
@[simp] theorem State.setSw_ret (ch : Chan) (w : Switching) (s : State) : (State.setSw ch w s).ret = s.ret := rfl
@[simp] theorem State.setSw_check (ch : Chan) (w : Switching) (s : State) : (State.setSw ch w s).check = s.check := rfl
@[simp] theorem State.setSw_gates (ch : Chan) (w : Switching) (s : State) : (State.setSw ch w s).gates = s.gates := rfl
@[simp] theorem State.setSw_results (ch : Chan) (w : Switching) (s : State) : (State.setSw ch w s).results = s.results := rfl
@[simp] theorem State.setSw_holders (ch : Chan) (w : Switching) (s : State) : (State.setSw ch w s).holders = s.holders := rfl
@[simp] theorem State.setSw_sw (ch : Chan) (w : Switching) (s : State) : (State.setSw ch w s).sw = s.sw.set ch w := rfl
@[simp] theorem State.setSw_gapStamps (ch : Chan) (w : Switching) (s : State) : (State.setSw ch w s).gapStamps = s.gapStamps := rfl
@[simp] theorem State.setSw_queue (ch : Chan) (w : Switching) (s : State) : (State.setSw ch w s).queue = s.queue := rfl
@[simp] theorem State.setSw_lastAdm (ch : Chan) (w : Switching) (s : State) : (State.setSw ch w s).lastAdm = s.lastAdm := rfl
@[simp] theorem State.setSw_staggerPast (ch : Chan) (w : Switching) (s : State) : (State.setSw ch w s).staggerPast = s.staggerPast := rfl
@[simp] theorem State.setSw_pinTaken (ch : Chan) (w : Switching) (s : State) : (State.setSw ch w s).pinTaken = s.pinTaken := rfl
@[simp] theorem State.setSw_faults (ch : Chan) (w : Switching) (s : State) : (State.setSw ch w s).faults = s.faults := rfl
@[simp] theorem State.setSw_keys (ch : Chan) (w : Switching) (s : State) : (State.setSw ch w s).keys = s.keys := rfl
@[simp] theorem State.setSw_att (ch : Chan) (w : Switching) (s : State) : (State.setSw ch w s).att = s.att := rfl
@[simp] theorem State.setSw_link (ch : Chan) (w : Switching) (s : State) : (State.setSw ch w s).link = s.link := rfl
@[simp] theorem State.setSw_sup (ch : Chan) (w : Switching) (s : State) : (State.setSw ch w s).sup = s.sup := rfl
@[simp] theorem State.setSw_mail (ch : Chan) (w : Switching) (s : State) : (State.setSw ch w s).mail = s.mail := rfl
@[simp] theorem State.setSw_freeCount (ch : Chan) (w : Switching) (s : State) : (State.setSw ch w s).freeCount = s.freeCount := rfl
@[simp] theorem State.setSw_pending (ch : Chan) (w : Switching) (s : State) : (State.setSw ch w s).pending = s.pending := rfl

/-! ### setFault -/

@[simp] theorem State.setFault_cal (ch : Chan) (f : FaultRec) (s : State) : (State.setFault ch f s).cal = s.cal := rfl
@[simp] theorem State.setFault_runCount (ch : Chan) (f : FaultRec) (s : State) : (State.setFault ch f s).runCount = s.runCount := rfl
@[simp] theorem State.setFault_stepReplaced (ch : Chan) (f : FaultRec) (s : State) : (State.setFault ch f s).stepReplaced = s.stepReplaced := rfl
@[simp] theorem State.setFault_ret (ch : Chan) (f : FaultRec) (s : State) : (State.setFault ch f s).ret = s.ret := rfl
@[simp] theorem State.setFault_check (ch : Chan) (f : FaultRec) (s : State) : (State.setFault ch f s).check = s.check := rfl
@[simp] theorem State.setFault_gates (ch : Chan) (f : FaultRec) (s : State) : (State.setFault ch f s).gates = s.gates := rfl
@[simp] theorem State.setFault_results (ch : Chan) (f : FaultRec) (s : State) : (State.setFault ch f s).results = s.results := rfl
@[simp] theorem State.setFault_holders (ch : Chan) (f : FaultRec) (s : State) : (State.setFault ch f s).holders = s.holders := rfl
@[simp] theorem State.setFault_sw (ch : Chan) (f : FaultRec) (s : State) : (State.setFault ch f s).sw = s.sw := rfl
@[simp] theorem State.setFault_gapStamps (ch : Chan) (f : FaultRec) (s : State) : (State.setFault ch f s).gapStamps = s.gapStamps := rfl
@[simp] theorem State.setFault_queue (ch : Chan) (f : FaultRec) (s : State) : (State.setFault ch f s).queue = s.queue := rfl
@[simp] theorem State.setFault_lastAdm (ch : Chan) (f : FaultRec) (s : State) : (State.setFault ch f s).lastAdm = s.lastAdm := rfl
@[simp] theorem State.setFault_staggerPast (ch : Chan) (f : FaultRec) (s : State) : (State.setFault ch f s).staggerPast = s.staggerPast := rfl
@[simp] theorem State.setFault_pinTaken (ch : Chan) (f : FaultRec) (s : State) : (State.setFault ch f s).pinTaken = s.pinTaken := rfl
@[simp] theorem State.setFault_faults (ch : Chan) (f : FaultRec) (s : State) : (State.setFault ch f s).faults = s.faults.set ch f := rfl
@[simp] theorem State.setFault_keys (ch : Chan) (f : FaultRec) (s : State) : (State.setFault ch f s).keys = s.keys := rfl
@[simp] theorem State.setFault_att (ch : Chan) (f : FaultRec) (s : State) : (State.setFault ch f s).att = s.att := rfl
@[simp] theorem State.setFault_link (ch : Chan) (f : FaultRec) (s : State) : (State.setFault ch f s).link = s.link := rfl
@[simp] theorem State.setFault_sup (ch : Chan) (f : FaultRec) (s : State) : (State.setFault ch f s).sup = s.sup := rfl
@[simp] theorem State.setFault_mail (ch : Chan) (f : FaultRec) (s : State) : (State.setFault ch f s).mail = s.mail := rfl
@[simp] theorem State.setFault_freeCount (ch : Chan) (f : FaultRec) (s : State) : (State.setFault ch f s).freeCount = s.freeCount := rfl
@[simp] theorem State.setFault_pending (ch : Chan) (f : FaultRec) (s : State) : (State.setFault ch f s).pending = s.pending := rfl

/-! ### setGap -/

@[simp] theorem State.setGap_cal (g : Group) (x : GapStamp) (s : State) : (State.setGap g x s).cal = s.cal := rfl
@[simp] theorem State.setGap_runCount (g : Group) (x : GapStamp) (s : State) : (State.setGap g x s).runCount = s.runCount := rfl
@[simp] theorem State.setGap_stepReplaced (g : Group) (x : GapStamp) (s : State) : (State.setGap g x s).stepReplaced = s.stepReplaced := rfl
@[simp] theorem State.setGap_ret (g : Group) (x : GapStamp) (s : State) : (State.setGap g x s).ret = s.ret := rfl
@[simp] theorem State.setGap_check (g : Group) (x : GapStamp) (s : State) : (State.setGap g x s).check = s.check := rfl
@[simp] theorem State.setGap_gates (g : Group) (x : GapStamp) (s : State) : (State.setGap g x s).gates = s.gates := rfl
@[simp] theorem State.setGap_results (g : Group) (x : GapStamp) (s : State) : (State.setGap g x s).results = s.results := rfl
@[simp] theorem State.setGap_holders (g : Group) (x : GapStamp) (s : State) : (State.setGap g x s).holders = s.holders := rfl
@[simp] theorem State.setGap_sw (g : Group) (x : GapStamp) (s : State) : (State.setGap g x s).sw = s.sw := rfl
@[simp] theorem State.setGap_gapStamps (g : Group) (x : GapStamp) (s : State) : (State.setGap g x s).gapStamps = s.gapStamps.set g.idx x := rfl
@[simp] theorem State.setGap_queue (g : Group) (x : GapStamp) (s : State) : (State.setGap g x s).queue = s.queue := rfl
@[simp] theorem State.setGap_lastAdm (g : Group) (x : GapStamp) (s : State) : (State.setGap g x s).lastAdm = s.lastAdm := rfl
@[simp] theorem State.setGap_staggerPast (g : Group) (x : GapStamp) (s : State) : (State.setGap g x s).staggerPast = s.staggerPast := rfl
@[simp] theorem State.setGap_pinTaken (g : Group) (x : GapStamp) (s : State) : (State.setGap g x s).pinTaken = s.pinTaken := rfl
@[simp] theorem State.setGap_faults (g : Group) (x : GapStamp) (s : State) : (State.setGap g x s).faults = s.faults := rfl
@[simp] theorem State.setGap_keys (g : Group) (x : GapStamp) (s : State) : (State.setGap g x s).keys = s.keys := rfl
@[simp] theorem State.setGap_att (g : Group) (x : GapStamp) (s : State) : (State.setGap g x s).att = s.att := rfl
@[simp] theorem State.setGap_link (g : Group) (x : GapStamp) (s : State) : (State.setGap g x s).link = s.link := rfl
@[simp] theorem State.setGap_sup (g : Group) (x : GapStamp) (s : State) : (State.setGap g x s).sup = s.sup := rfl
@[simp] theorem State.setGap_mail (g : Group) (x : GapStamp) (s : State) : (State.setGap g x s).mail = s.mail := rfl
@[simp] theorem State.setGap_freeCount (g : Group) (x : GapStamp) (s : State) : (State.setGap g x s).freeCount = s.freeCount := rfl
@[simp] theorem State.setGap_pending (g : Group) (x : GapStamp) (s : State) : (State.setGap g x s).pending = s.pending := rfl

/-! ### setGate -/

@[simp] theorem State.setGate_cal (g : GateIdx) (w : GateWork) (s : State) : (State.setGate g w s).cal = s.cal := rfl
@[simp] theorem State.setGate_runCount (g : GateIdx) (w : GateWork) (s : State) : (State.setGate g w s).runCount = s.runCount := rfl
@[simp] theorem State.setGate_stepReplaced (g : GateIdx) (w : GateWork) (s : State) : (State.setGate g w s).stepReplaced = s.stepReplaced := rfl
@[simp] theorem State.setGate_ret (g : GateIdx) (w : GateWork) (s : State) : (State.setGate g w s).ret = s.ret := rfl
@[simp] theorem State.setGate_check (g : GateIdx) (w : GateWork) (s : State) : (State.setGate g w s).check = s.check := rfl
@[simp] theorem State.setGate_gates (g : GateIdx) (w : GateWork) (s : State) : (State.setGate g w s).gates = s.gates.set g w := rfl
@[simp] theorem State.setGate_results (g : GateIdx) (w : GateWork) (s : State) : (State.setGate g w s).results = s.results := rfl
@[simp] theorem State.setGate_holders (g : GateIdx) (w : GateWork) (s : State) : (State.setGate g w s).holders = s.holders := rfl
@[simp] theorem State.setGate_sw (g : GateIdx) (w : GateWork) (s : State) : (State.setGate g w s).sw = s.sw := rfl
@[simp] theorem State.setGate_gapStamps (g : GateIdx) (w : GateWork) (s : State) : (State.setGate g w s).gapStamps = s.gapStamps := rfl
@[simp] theorem State.setGate_queue (g : GateIdx) (w : GateWork) (s : State) : (State.setGate g w s).queue = s.queue := rfl
@[simp] theorem State.setGate_lastAdm (g : GateIdx) (w : GateWork) (s : State) : (State.setGate g w s).lastAdm = s.lastAdm := rfl
@[simp] theorem State.setGate_staggerPast (g : GateIdx) (w : GateWork) (s : State) : (State.setGate g w s).staggerPast = s.staggerPast := rfl
@[simp] theorem State.setGate_pinTaken (g : GateIdx) (w : GateWork) (s : State) : (State.setGate g w s).pinTaken = s.pinTaken := rfl
@[simp] theorem State.setGate_faults (g : GateIdx) (w : GateWork) (s : State) : (State.setGate g w s).faults = s.faults := rfl
@[simp] theorem State.setGate_keys (g : GateIdx) (w : GateWork) (s : State) : (State.setGate g w s).keys = s.keys := rfl
@[simp] theorem State.setGate_att (g : GateIdx) (w : GateWork) (s : State) : (State.setGate g w s).att = s.att := rfl
@[simp] theorem State.setGate_link (g : GateIdx) (w : GateWork) (s : State) : (State.setGate g w s).link = s.link := rfl
@[simp] theorem State.setGate_sup (g : GateIdx) (w : GateWork) (s : State) : (State.setGate g w s).sup = s.sup := rfl
@[simp] theorem State.setGate_mail (g : GateIdx) (w : GateWork) (s : State) : (State.setGate g w s).mail = s.mail := rfl
@[simp] theorem State.setGate_freeCount (g : GateIdx) (w : GateWork) (s : State) : (State.setGate g w s).freeCount = s.freeCount := rfl
@[simp] theorem State.setGate_pending (g : GateIdx) (w : GateWork) (s : State) : (State.setGate g w s).pending = s.pending := rfl

/-! ### setKey -/

@[simp] theorem State.setKey_cal (k : KeyIdx) (r : KeyRec) (s : State) : (State.setKey k r s).cal = s.cal := rfl
@[simp] theorem State.setKey_runCount (k : KeyIdx) (r : KeyRec) (s : State) : (State.setKey k r s).runCount = s.runCount := rfl
@[simp] theorem State.setKey_stepReplaced (k : KeyIdx) (r : KeyRec) (s : State) : (State.setKey k r s).stepReplaced = s.stepReplaced := rfl
@[simp] theorem State.setKey_ret (k : KeyIdx) (r : KeyRec) (s : State) : (State.setKey k r s).ret = s.ret := rfl
@[simp] theorem State.setKey_check (k : KeyIdx) (r : KeyRec) (s : State) : (State.setKey k r s).check = s.check := rfl
@[simp] theorem State.setKey_gates (k : KeyIdx) (r : KeyRec) (s : State) : (State.setKey k r s).gates = s.gates := rfl
@[simp] theorem State.setKey_results (k : KeyIdx) (r : KeyRec) (s : State) : (State.setKey k r s).results = s.results := rfl
@[simp] theorem State.setKey_holders (k : KeyIdx) (r : KeyRec) (s : State) : (State.setKey k r s).holders = s.holders := rfl
@[simp] theorem State.setKey_sw (k : KeyIdx) (r : KeyRec) (s : State) : (State.setKey k r s).sw = s.sw := rfl
@[simp] theorem State.setKey_gapStamps (k : KeyIdx) (r : KeyRec) (s : State) : (State.setKey k r s).gapStamps = s.gapStamps := rfl
@[simp] theorem State.setKey_queue (k : KeyIdx) (r : KeyRec) (s : State) : (State.setKey k r s).queue = s.queue := rfl
@[simp] theorem State.setKey_lastAdm (k : KeyIdx) (r : KeyRec) (s : State) : (State.setKey k r s).lastAdm = s.lastAdm := rfl
@[simp] theorem State.setKey_staggerPast (k : KeyIdx) (r : KeyRec) (s : State) : (State.setKey k r s).staggerPast = s.staggerPast := rfl
@[simp] theorem State.setKey_pinTaken (k : KeyIdx) (r : KeyRec) (s : State) : (State.setKey k r s).pinTaken = s.pinTaken := rfl
@[simp] theorem State.setKey_faults (k : KeyIdx) (r : KeyRec) (s : State) : (State.setKey k r s).faults = s.faults := rfl
@[simp] theorem State.setKey_keys (k : KeyIdx) (r : KeyRec) (s : State) : (State.setKey k r s).keys = s.keys.set k r := rfl
@[simp] theorem State.setKey_att (k : KeyIdx) (r : KeyRec) (s : State) : (State.setKey k r s).att = s.att := rfl
@[simp] theorem State.setKey_link (k : KeyIdx) (r : KeyRec) (s : State) : (State.setKey k r s).link = s.link := rfl
@[simp] theorem State.setKey_sup (k : KeyIdx) (r : KeyRec) (s : State) : (State.setKey k r s).sup = s.sup := rfl
@[simp] theorem State.setKey_mail (k : KeyIdx) (r : KeyRec) (s : State) : (State.setKey k r s).mail = s.mail := rfl
@[simp] theorem State.setKey_freeCount (k : KeyIdx) (r : KeyRec) (s : State) : (State.setKey k r s).freeCount = s.freeCount := rfl
@[simp] theorem State.setKey_pending (k : KeyIdx) (r : KeyRec) (s : State) : (State.setKey k r s).pending = s.pending := rfl

/-! ### setLink -/

@[simp] theorem State.setLink_cal (st : LinkState) (s : State) : (State.setLink st s).cal = s.cal := rfl
@[simp] theorem State.setLink_runCount (st : LinkState) (s : State) : (State.setLink st s).runCount = s.runCount := rfl
@[simp] theorem State.setLink_stepReplaced (st : LinkState) (s : State) : (State.setLink st s).stepReplaced = s.stepReplaced := rfl
@[simp] theorem State.setLink_ret (st : LinkState) (s : State) : (State.setLink st s).ret = s.ret := rfl
@[simp] theorem State.setLink_check (st : LinkState) (s : State) : (State.setLink st s).check = s.check := rfl
@[simp] theorem State.setLink_gates (st : LinkState) (s : State) : (State.setLink st s).gates = s.gates := rfl
@[simp] theorem State.setLink_results (st : LinkState) (s : State) : (State.setLink st s).results = s.results := rfl
@[simp] theorem State.setLink_holders (st : LinkState) (s : State) : (State.setLink st s).holders = s.holders := rfl
@[simp] theorem State.setLink_sw (st : LinkState) (s : State) : (State.setLink st s).sw = s.sw := rfl
@[simp] theorem State.setLink_gapStamps (st : LinkState) (s : State) : (State.setLink st s).gapStamps = s.gapStamps := rfl
@[simp] theorem State.setLink_queue (st : LinkState) (s : State) : (State.setLink st s).queue = s.queue := rfl
@[simp] theorem State.setLink_lastAdm (st : LinkState) (s : State) : (State.setLink st s).lastAdm = s.lastAdm := rfl
@[simp] theorem State.setLink_staggerPast (st : LinkState) (s : State) : (State.setLink st s).staggerPast = s.staggerPast := rfl
@[simp] theorem State.setLink_pinTaken (st : LinkState) (s : State) : (State.setLink st s).pinTaken = s.pinTaken := rfl
@[simp] theorem State.setLink_faults (st : LinkState) (s : State) : (State.setLink st s).faults = s.faults := rfl
@[simp] theorem State.setLink_keys (st : LinkState) (s : State) : (State.setLink st s).keys = s.keys := rfl
@[simp] theorem State.setLink_att (st : LinkState) (s : State) : (State.setLink st s).att = s.att := rfl
@[simp] theorem State.setLink_link (st : LinkState) (s : State) : (State.setLink st s).link = { s.link with state := st } := rfl
@[simp] theorem State.setLink_sup (st : LinkState) (s : State) : (State.setLink st s).sup = s.sup := rfl
@[simp] theorem State.setLink_mail (st : LinkState) (s : State) : (State.setLink st s).mail = s.mail := rfl
@[simp] theorem State.setLink_freeCount (st : LinkState) (s : State) : (State.setLink st s).freeCount = s.freeCount := rfl
@[simp] theorem State.setLink_pending (st : LinkState) (s : State) : (State.setLink st s).pending = s.pending := rfl

/-! ### setSup -/

@[simp] theorem State.setSup_cal (st : SupState) (s : State) : (State.setSup st s).cal = s.cal := rfl
@[simp] theorem State.setSup_runCount (st : SupState) (s : State) : (State.setSup st s).runCount = s.runCount := rfl
@[simp] theorem State.setSup_stepReplaced (st : SupState) (s : State) : (State.setSup st s).stepReplaced = s.stepReplaced := rfl
@[simp] theorem State.setSup_ret (st : SupState) (s : State) : (State.setSup st s).ret = s.ret := rfl
@[simp] theorem State.setSup_check (st : SupState) (s : State) : (State.setSup st s).check = s.check := rfl
@[simp] theorem State.setSup_gates (st : SupState) (s : State) : (State.setSup st s).gates = s.gates := rfl
@[simp] theorem State.setSup_results (st : SupState) (s : State) : (State.setSup st s).results = s.results := rfl
@[simp] theorem State.setSup_holders (st : SupState) (s : State) : (State.setSup st s).holders = s.holders := rfl
@[simp] theorem State.setSup_sw (st : SupState) (s : State) : (State.setSup st s).sw = s.sw := rfl
@[simp] theorem State.setSup_gapStamps (st : SupState) (s : State) : (State.setSup st s).gapStamps = s.gapStamps := rfl
@[simp] theorem State.setSup_queue (st : SupState) (s : State) : (State.setSup st s).queue = s.queue := rfl
@[simp] theorem State.setSup_lastAdm (st : SupState) (s : State) : (State.setSup st s).lastAdm = s.lastAdm := rfl
@[simp] theorem State.setSup_staggerPast (st : SupState) (s : State) : (State.setSup st s).staggerPast = s.staggerPast := rfl
@[simp] theorem State.setSup_pinTaken (st : SupState) (s : State) : (State.setSup st s).pinTaken = s.pinTaken := rfl
@[simp] theorem State.setSup_faults (st : SupState) (s : State) : (State.setSup st s).faults = s.faults := rfl
@[simp] theorem State.setSup_keys (st : SupState) (s : State) : (State.setSup st s).keys = s.keys := rfl
@[simp] theorem State.setSup_att (st : SupState) (s : State) : (State.setSup st s).att = s.att := rfl
@[simp] theorem State.setSup_link (st : SupState) (s : State) : (State.setSup st s).link = s.link := rfl
@[simp] theorem State.setSup_sup (st : SupState) (s : State) : (State.setSup st s).sup = { s.sup with state := st } := rfl
@[simp] theorem State.setSup_mail (st : SupState) (s : State) : (State.setSup st s).mail = s.mail := rfl
@[simp] theorem State.setSup_freeCount (st : SupState) (s : State) : (State.setSup st s).freeCount = s.freeCount := rfl
@[simp] theorem State.setSup_pending (st : SupState) (s : State) : (State.setSup st s).pending = s.pending := rfl

/-! ### setChanRec -/

@[simp] theorem State.setChanRec_cal (ch : Chan) (r : ChanRec) (s : State) : (State.setChanRec ch r s).cal = s.cal := rfl
@[simp] theorem State.setChanRec_runCount (ch : Chan) (r : ChanRec) (s : State) : (State.setChanRec ch r s).runCount = s.runCount := rfl
@[simp] theorem State.setChanRec_stepReplaced (ch : Chan) (r : ChanRec) (s : State) : (State.setChanRec ch r s).stepReplaced = s.stepReplaced := rfl
@[simp] theorem State.setChanRec_ret (ch : Chan) (r : ChanRec) (s : State) : (State.setChanRec ch r s).ret = { s.ret with channels := s.ret.channels.set ch r } := rfl
@[simp] theorem State.setChanRec_check (ch : Chan) (r : ChanRec) (s : State) : (State.setChanRec ch r s).check = ⟨{ s.ret with channels := s.ret.channels.set ch r }⟩ := rfl
@[simp] theorem State.setChanRec_gates (ch : Chan) (r : ChanRec) (s : State) : (State.setChanRec ch r s).gates = s.gates := rfl
@[simp] theorem State.setChanRec_results (ch : Chan) (r : ChanRec) (s : State) : (State.setChanRec ch r s).results = s.results := rfl
@[simp] theorem State.setChanRec_holders (ch : Chan) (r : ChanRec) (s : State) : (State.setChanRec ch r s).holders = s.holders := rfl
@[simp] theorem State.setChanRec_sw (ch : Chan) (r : ChanRec) (s : State) : (State.setChanRec ch r s).sw = s.sw := rfl
@[simp] theorem State.setChanRec_gapStamps (ch : Chan) (r : ChanRec) (s : State) : (State.setChanRec ch r s).gapStamps = s.gapStamps := rfl
@[simp] theorem State.setChanRec_queue (ch : Chan) (r : ChanRec) (s : State) : (State.setChanRec ch r s).queue = s.queue := rfl
@[simp] theorem State.setChanRec_lastAdm (ch : Chan) (r : ChanRec) (s : State) : (State.setChanRec ch r s).lastAdm = s.lastAdm := rfl
@[simp] theorem State.setChanRec_staggerPast (ch : Chan) (r : ChanRec) (s : State) : (State.setChanRec ch r s).staggerPast = s.staggerPast := rfl
@[simp] theorem State.setChanRec_pinTaken (ch : Chan) (r : ChanRec) (s : State) : (State.setChanRec ch r s).pinTaken = s.pinTaken := rfl
@[simp] theorem State.setChanRec_faults (ch : Chan) (r : ChanRec) (s : State) : (State.setChanRec ch r s).faults = s.faults := rfl
@[simp] theorem State.setChanRec_keys (ch : Chan) (r : ChanRec) (s : State) : (State.setChanRec ch r s).keys = s.keys := rfl
@[simp] theorem State.setChanRec_att (ch : Chan) (r : ChanRec) (s : State) : (State.setChanRec ch r s).att = s.att := rfl
@[simp] theorem State.setChanRec_link (ch : Chan) (r : ChanRec) (s : State) : (State.setChanRec ch r s).link = s.link := rfl
@[simp] theorem State.setChanRec_sup (ch : Chan) (r : ChanRec) (s : State) : (State.setChanRec ch r s).sup = s.sup := rfl
@[simp] theorem State.setChanRec_mail (ch : Chan) (r : ChanRec) (s : State) : (State.setChanRec ch r s).mail = s.mail := rfl
@[simp] theorem State.setChanRec_freeCount (ch : Chan) (r : ChanRec) (s : State) : (State.setChanRec ch r s).freeCount = s.freeCount := rfl
@[simp] theorem State.setChanRec_pending (ch : Chan) (r : ChanRec) (s : State) : (State.setChanRec ch r s).pending = s.pending := rfl

/-! ### setLock -/

@[simp] theorem State.setLock_cal (ch : Chan) (b : Bool) (s : State) : (State.setLock ch b s).cal = s.cal := rfl
@[simp] theorem State.setLock_runCount (ch : Chan) (b : Bool) (s : State) : (State.setLock ch b s).runCount = s.runCount := rfl
@[simp] theorem State.setLock_stepReplaced (ch : Chan) (b : Bool) (s : State) : (State.setLock ch b s).stepReplaced = s.stepReplaced := rfl
@[simp] theorem State.setLock_ret (ch : Chan) (b : Bool) (s : State) : (State.setLock ch b s).ret = { s.ret with locks := s.ret.locks.set ch b } := rfl
@[simp] theorem State.setLock_check (ch : Chan) (b : Bool) (s : State) : (State.setLock ch b s).check = ⟨{ s.ret with locks := s.ret.locks.set ch b }⟩ := rfl
@[simp] theorem State.setLock_gates (ch : Chan) (b : Bool) (s : State) : (State.setLock ch b s).gates = s.gates := rfl
@[simp] theorem State.setLock_results (ch : Chan) (b : Bool) (s : State) : (State.setLock ch b s).results = s.results := rfl
@[simp] theorem State.setLock_holders (ch : Chan) (b : Bool) (s : State) : (State.setLock ch b s).holders = s.holders := rfl
@[simp] theorem State.setLock_sw (ch : Chan) (b : Bool) (s : State) : (State.setLock ch b s).sw = s.sw := rfl
@[simp] theorem State.setLock_gapStamps (ch : Chan) (b : Bool) (s : State) : (State.setLock ch b s).gapStamps = s.gapStamps := rfl
@[simp] theorem State.setLock_queue (ch : Chan) (b : Bool) (s : State) : (State.setLock ch b s).queue = s.queue := rfl
@[simp] theorem State.setLock_lastAdm (ch : Chan) (b : Bool) (s : State) : (State.setLock ch b s).lastAdm = s.lastAdm := rfl
@[simp] theorem State.setLock_staggerPast (ch : Chan) (b : Bool) (s : State) : (State.setLock ch b s).staggerPast = s.staggerPast := rfl
@[simp] theorem State.setLock_pinTaken (ch : Chan) (b : Bool) (s : State) : (State.setLock ch b s).pinTaken = s.pinTaken := rfl
@[simp] theorem State.setLock_faults (ch : Chan) (b : Bool) (s : State) : (State.setLock ch b s).faults = s.faults := rfl
@[simp] theorem State.setLock_keys (ch : Chan) (b : Bool) (s : State) : (State.setLock ch b s).keys = s.keys := rfl
@[simp] theorem State.setLock_att (ch : Chan) (b : Bool) (s : State) : (State.setLock ch b s).att = s.att := rfl
@[simp] theorem State.setLock_link (ch : Chan) (b : Bool) (s : State) : (State.setLock ch b s).link = s.link := rfl
@[simp] theorem State.setLock_sup (ch : Chan) (b : Bool) (s : State) : (State.setLock ch b s).sup = s.sup := rfl
@[simp] theorem State.setLock_mail (ch : Chan) (b : Bool) (s : State) : (State.setLock ch b s).mail = s.mail := rfl
@[simp] theorem State.setLock_freeCount (ch : Chan) (b : Bool) (s : State) : (State.setLock ch b s).freeCount = s.freeCount := rfl
@[simp] theorem State.setLock_pending (ch : Chan) (b : Bool) (s : State) : (State.setLock ch b s).pending = s.pending := rfl

/-! ### advanceEpoch -/

@[simp] theorem State.advanceEpoch_cal (n : Nat) (s : State) : (State.advanceEpoch n s).cal = s.cal := rfl
@[simp] theorem State.advanceEpoch_runCount (n : Nat) (s : State) : (State.advanceEpoch n s).runCount = s.runCount := rfl
@[simp] theorem State.advanceEpoch_stepReplaced (n : Nat) (s : State) : (State.advanceEpoch n s).stepReplaced = s.stepReplaced := rfl
@[simp] theorem State.advanceEpoch_ret (n : Nat) (s : State) : (State.advanceEpoch n s).ret = { s.ret with epoch := s.ret.epoch + BitVec.ofNat 16 n } := rfl
@[simp] theorem State.advanceEpoch_check (n : Nat) (s : State) : (State.advanceEpoch n s).check = ⟨{ s.ret with epoch := s.ret.epoch + BitVec.ofNat 16 n }⟩ := rfl
@[simp] theorem State.advanceEpoch_gates (n : Nat) (s : State) : (State.advanceEpoch n s).gates = s.gates := rfl
@[simp] theorem State.advanceEpoch_results (n : Nat) (s : State) : (State.advanceEpoch n s).results = s.results := rfl
@[simp] theorem State.advanceEpoch_holders (n : Nat) (s : State) : (State.advanceEpoch n s).holders = s.holders := rfl
@[simp] theorem State.advanceEpoch_sw (n : Nat) (s : State) : (State.advanceEpoch n s).sw = s.sw := rfl
@[simp] theorem State.advanceEpoch_gapStamps (n : Nat) (s : State) : (State.advanceEpoch n s).gapStamps = s.gapStamps := rfl
@[simp] theorem State.advanceEpoch_queue (n : Nat) (s : State) : (State.advanceEpoch n s).queue = s.queue := rfl
@[simp] theorem State.advanceEpoch_lastAdm (n : Nat) (s : State) : (State.advanceEpoch n s).lastAdm = s.lastAdm := rfl
@[simp] theorem State.advanceEpoch_staggerPast (n : Nat) (s : State) : (State.advanceEpoch n s).staggerPast = s.staggerPast := rfl
@[simp] theorem State.advanceEpoch_pinTaken (n : Nat) (s : State) : (State.advanceEpoch n s).pinTaken = s.pinTaken := rfl
@[simp] theorem State.advanceEpoch_faults (n : Nat) (s : State) : (State.advanceEpoch n s).faults = s.faults := rfl
@[simp] theorem State.advanceEpoch_keys (n : Nat) (s : State) : (State.advanceEpoch n s).keys = s.keys := rfl
@[simp] theorem State.advanceEpoch_att (n : Nat) (s : State) : (State.advanceEpoch n s).att = s.att := rfl
@[simp] theorem State.advanceEpoch_link (n : Nat) (s : State) : (State.advanceEpoch n s).link = s.link := rfl
@[simp] theorem State.advanceEpoch_sup (n : Nat) (s : State) : (State.advanceEpoch n s).sup = s.sup := rfl
@[simp] theorem State.advanceEpoch_mail (n : Nat) (s : State) : (State.advanceEpoch n s).mail = s.mail := rfl
@[simp] theorem State.advanceEpoch_freeCount (n : Nat) (s : State) : (State.advanceEpoch n s).freeCount = s.freeCount := rfl
@[simp] theorem State.advanceEpoch_pending (n : Nat) (s : State) : (State.advanceEpoch n s).pending = s.pending := rfl

/-! ### raiseChannels -/

@[simp] theorem State.raiseChannels_cal (cs : ChanSet) (s : State) : (State.raiseChannels cs s).cal = s.cal := rfl
@[simp] theorem State.raiseChannels_runCount (cs : ChanSet) (s : State) : (State.raiseChannels cs s).runCount = s.runCount := rfl
@[simp] theorem State.raiseChannels_stepReplaced (cs : ChanSet) (s : State) : (State.raiseChannels cs s).stepReplaced = s.stepReplaced := rfl
@[simp] theorem State.raiseChannels_ret (cs : ChanSet) (s : State) : (State.raiseChannels cs s).ret = s.ret := rfl
@[simp] theorem State.raiseChannels_check (cs : ChanSet) (s : State) : (State.raiseChannels cs s).check = s.check := rfl
@[simp] theorem State.raiseChannels_gates (cs : ChanSet) (s : State) : (State.raiseChannels cs s).gates = s.gates := rfl
@[simp] theorem State.raiseChannels_results (cs : ChanSet) (s : State) : (State.raiseChannels cs s).results = s.results := rfl
@[simp] theorem State.raiseChannels_holders (cs : ChanSet) (s : State) : (State.raiseChannels cs s).holders = s.holders := rfl
@[simp] theorem State.raiseChannels_sw (cs : ChanSet) (s : State) : (State.raiseChannels cs s).sw = s.sw := rfl
@[simp] theorem State.raiseChannels_gapStamps (cs : ChanSet) (s : State) : (State.raiseChannels cs s).gapStamps = s.gapStamps := rfl
@[simp] theorem State.raiseChannels_queue (cs : ChanSet) (s : State) : (State.raiseChannels cs s).queue = s.queue := rfl
@[simp] theorem State.raiseChannels_lastAdm (cs : ChanSet) (s : State) : (State.raiseChannels cs s).lastAdm = s.lastAdm := rfl
@[simp] theorem State.raiseChannels_staggerPast (cs : ChanSet) (s : State) : (State.raiseChannels cs s).staggerPast = s.staggerPast := rfl
@[simp] theorem State.raiseChannels_pinTaken (cs : ChanSet) (s : State) : (State.raiseChannels cs s).pinTaken = s.pinTaken := rfl
@[simp] theorem State.raiseChannels_faults (cs : ChanSet) (s : State) : (State.raiseChannels cs s).faults = s.faults := rfl
@[simp] theorem State.raiseChannels_keys (cs : ChanSet) (s : State) : (State.raiseChannels cs s).keys = s.keys := rfl
@[simp] theorem State.raiseChannels_att (cs : ChanSet) (s : State) : (State.raiseChannels cs s).att = { s.att with channel := s.att.channel ||| cs } := rfl
@[simp] theorem State.raiseChannels_link (cs : ChanSet) (s : State) : (State.raiseChannels cs s).link = s.link := rfl
@[simp] theorem State.raiseChannels_sup (cs : ChanSet) (s : State) : (State.raiseChannels cs s).sup = s.sup := rfl
@[simp] theorem State.raiseChannels_mail (cs : ChanSet) (s : State) : (State.raiseChannels cs s).mail = s.mail := rfl
@[simp] theorem State.raiseChannels_freeCount (cs : ChanSet) (s : State) : (State.raiseChannels cs s).freeCount = s.freeCount := rfl
@[simp] theorem State.raiseChannels_pending (cs : ChanSet) (s : State) : (State.raiseChannels cs s).pending = s.pending := rfl

/-! ### raiseChannel -/

@[simp] theorem State.raiseChannel_cal (ch : Chan) (s : State) : (State.raiseChannel ch s).cal = s.cal := rfl
@[simp] theorem State.raiseChannel_runCount (ch : Chan) (s : State) : (State.raiseChannel ch s).runCount = s.runCount := rfl
@[simp] theorem State.raiseChannel_stepReplaced (ch : Chan) (s : State) : (State.raiseChannel ch s).stepReplaced = s.stepReplaced := rfl
@[simp] theorem State.raiseChannel_ret (ch : Chan) (s : State) : (State.raiseChannel ch s).ret = s.ret := rfl
@[simp] theorem State.raiseChannel_check (ch : Chan) (s : State) : (State.raiseChannel ch s).check = s.check := rfl
@[simp] theorem State.raiseChannel_gates (ch : Chan) (s : State) : (State.raiseChannel ch s).gates = s.gates := rfl
@[simp] theorem State.raiseChannel_results (ch : Chan) (s : State) : (State.raiseChannel ch s).results = s.results := rfl
@[simp] theorem State.raiseChannel_holders (ch : Chan) (s : State) : (State.raiseChannel ch s).holders = s.holders := rfl
@[simp] theorem State.raiseChannel_sw (ch : Chan) (s : State) : (State.raiseChannel ch s).sw = s.sw := rfl
@[simp] theorem State.raiseChannel_gapStamps (ch : Chan) (s : State) : (State.raiseChannel ch s).gapStamps = s.gapStamps := rfl
@[simp] theorem State.raiseChannel_queue (ch : Chan) (s : State) : (State.raiseChannel ch s).queue = s.queue := rfl
@[simp] theorem State.raiseChannel_lastAdm (ch : Chan) (s : State) : (State.raiseChannel ch s).lastAdm = s.lastAdm := rfl
@[simp] theorem State.raiseChannel_staggerPast (ch : Chan) (s : State) : (State.raiseChannel ch s).staggerPast = s.staggerPast := rfl
@[simp] theorem State.raiseChannel_pinTaken (ch : Chan) (s : State) : (State.raiseChannel ch s).pinTaken = s.pinTaken := rfl
@[simp] theorem State.raiseChannel_faults (ch : Chan) (s : State) : (State.raiseChannel ch s).faults = s.faults := rfl
@[simp] theorem State.raiseChannel_keys (ch : Chan) (s : State) : (State.raiseChannel ch s).keys = s.keys := rfl
@[simp] theorem State.raiseChannel_att (ch : Chan) (s : State) : (State.raiseChannel ch s).att = { s.att with channel := s.att.channel ||| BitVec.twoPow 16 ch.val } := rfl
@[simp] theorem State.raiseChannel_link (ch : Chan) (s : State) : (State.raiseChannel ch s).link = s.link := rfl
@[simp] theorem State.raiseChannel_sup (ch : Chan) (s : State) : (State.raiseChannel ch s).sup = s.sup := rfl
@[simp] theorem State.raiseChannel_mail (ch : Chan) (s : State) : (State.raiseChannel ch s).mail = s.mail := rfl
@[simp] theorem State.raiseChannel_freeCount (ch : Chan) (s : State) : (State.raiseChannel ch s).freeCount = s.freeCount := rfl
@[simp] theorem State.raiseChannel_pending (ch : Chan) (s : State) : (State.raiseChannel ch s).pending = s.pending := rfl

/-! ### raiseFault -/

@[simp] theorem State.raiseFault_cal (ch : Chan) (s : State) : (State.raiseFault ch s).cal = s.cal := rfl
@[simp] theorem State.raiseFault_runCount (ch : Chan) (s : State) : (State.raiseFault ch s).runCount = s.runCount := rfl
@[simp] theorem State.raiseFault_stepReplaced (ch : Chan) (s : State) : (State.raiseFault ch s).stepReplaced = s.stepReplaced := rfl
@[simp] theorem State.raiseFault_ret (ch : Chan) (s : State) : (State.raiseFault ch s).ret = s.ret := rfl
@[simp] theorem State.raiseFault_check (ch : Chan) (s : State) : (State.raiseFault ch s).check = s.check := rfl
@[simp] theorem State.raiseFault_gates (ch : Chan) (s : State) : (State.raiseFault ch s).gates = s.gates := rfl
@[simp] theorem State.raiseFault_results (ch : Chan) (s : State) : (State.raiseFault ch s).results = s.results := rfl
@[simp] theorem State.raiseFault_holders (ch : Chan) (s : State) : (State.raiseFault ch s).holders = s.holders := rfl
@[simp] theorem State.raiseFault_sw (ch : Chan) (s : State) : (State.raiseFault ch s).sw = s.sw := rfl
@[simp] theorem State.raiseFault_gapStamps (ch : Chan) (s : State) : (State.raiseFault ch s).gapStamps = s.gapStamps := rfl
@[simp] theorem State.raiseFault_queue (ch : Chan) (s : State) : (State.raiseFault ch s).queue = s.queue := rfl
@[simp] theorem State.raiseFault_lastAdm (ch : Chan) (s : State) : (State.raiseFault ch s).lastAdm = s.lastAdm := rfl
@[simp] theorem State.raiseFault_staggerPast (ch : Chan) (s : State) : (State.raiseFault ch s).staggerPast = s.staggerPast := rfl
@[simp] theorem State.raiseFault_pinTaken (ch : Chan) (s : State) : (State.raiseFault ch s).pinTaken = s.pinTaken := rfl
@[simp] theorem State.raiseFault_faults (ch : Chan) (s : State) : (State.raiseFault ch s).faults = s.faults := rfl
@[simp] theorem State.raiseFault_keys (ch : Chan) (s : State) : (State.raiseFault ch s).keys = s.keys := rfl
@[simp] theorem State.raiseFault_att (ch : Chan) (s : State) : (State.raiseFault ch s).att = { s.att with fault := s.att.fault ||| BitVec.twoPow 16 ch.val } := rfl
@[simp] theorem State.raiseFault_link (ch : Chan) (s : State) : (State.raiseFault ch s).link = s.link := rfl
@[simp] theorem State.raiseFault_sup (ch : Chan) (s : State) : (State.raiseFault ch s).sup = s.sup := rfl
@[simp] theorem State.raiseFault_mail (ch : Chan) (s : State) : (State.raiseFault ch s).mail = s.mail := rfl
@[simp] theorem State.raiseFault_freeCount (ch : Chan) (s : State) : (State.raiseFault ch s).freeCount = s.freeCount := rfl
@[simp] theorem State.raiseFault_pending (ch : Chan) (s : State) : (State.raiseFault ch s).pending = s.pending := rfl

/-! ### raisePrograms -/

@[simp] theorem State.raisePrograms_cal (hs : BitVec 96) (s : State) : (State.raisePrograms hs s).cal = s.cal := rfl
@[simp] theorem State.raisePrograms_runCount (hs : BitVec 96) (s : State) : (State.raisePrograms hs s).runCount = s.runCount := rfl
@[simp] theorem State.raisePrograms_stepReplaced (hs : BitVec 96) (s : State) : (State.raisePrograms hs s).stepReplaced = s.stepReplaced := rfl
@[simp] theorem State.raisePrograms_ret (hs : BitVec 96) (s : State) : (State.raisePrograms hs s).ret = s.ret := rfl
@[simp] theorem State.raisePrograms_check (hs : BitVec 96) (s : State) : (State.raisePrograms hs s).check = s.check := rfl
@[simp] theorem State.raisePrograms_gates (hs : BitVec 96) (s : State) : (State.raisePrograms hs s).gates = s.gates := rfl
@[simp] theorem State.raisePrograms_results (hs : BitVec 96) (s : State) : (State.raisePrograms hs s).results = s.results := rfl
@[simp] theorem State.raisePrograms_holders (hs : BitVec 96) (s : State) : (State.raisePrograms hs s).holders = s.holders := rfl
@[simp] theorem State.raisePrograms_sw (hs : BitVec 96) (s : State) : (State.raisePrograms hs s).sw = s.sw := rfl
@[simp] theorem State.raisePrograms_gapStamps (hs : BitVec 96) (s : State) : (State.raisePrograms hs s).gapStamps = s.gapStamps := rfl
@[simp] theorem State.raisePrograms_queue (hs : BitVec 96) (s : State) : (State.raisePrograms hs s).queue = s.queue := rfl
@[simp] theorem State.raisePrograms_lastAdm (hs : BitVec 96) (s : State) : (State.raisePrograms hs s).lastAdm = s.lastAdm := rfl
@[simp] theorem State.raisePrograms_staggerPast (hs : BitVec 96) (s : State) : (State.raisePrograms hs s).staggerPast = s.staggerPast := rfl
@[simp] theorem State.raisePrograms_pinTaken (hs : BitVec 96) (s : State) : (State.raisePrograms hs s).pinTaken = s.pinTaken := rfl
@[simp] theorem State.raisePrograms_faults (hs : BitVec 96) (s : State) : (State.raisePrograms hs s).faults = s.faults := rfl
@[simp] theorem State.raisePrograms_keys (hs : BitVec 96) (s : State) : (State.raisePrograms hs s).keys = s.keys := rfl
@[simp] theorem State.raisePrograms_att (hs : BitVec 96) (s : State) : (State.raisePrograms hs s).att = { s.att with program := s.att.program ||| hs } := rfl
@[simp] theorem State.raisePrograms_link (hs : BitVec 96) (s : State) : (State.raisePrograms hs s).link = s.link := rfl
@[simp] theorem State.raisePrograms_sup (hs : BitVec 96) (s : State) : (State.raisePrograms hs s).sup = s.sup := rfl
@[simp] theorem State.raisePrograms_mail (hs : BitVec 96) (s : State) : (State.raisePrograms hs s).mail = s.mail := rfl
@[simp] theorem State.raisePrograms_freeCount (hs : BitVec 96) (s : State) : (State.raisePrograms hs s).freeCount = s.freeCount := rfl
@[simp] theorem State.raisePrograms_pending (hs : BitVec 96) (s : State) : (State.raisePrograms hs s).pending = s.pending := rfl

/-! ### raiseOverrides -/

@[simp] theorem State.raiseOverrides_cal (os : BitVec 16) (s : State) : (State.raiseOverrides os s).cal = s.cal := rfl
@[simp] theorem State.raiseOverrides_runCount (os : BitVec 16) (s : State) : (State.raiseOverrides os s).runCount = s.runCount := rfl
@[simp] theorem State.raiseOverrides_stepReplaced (os : BitVec 16) (s : State) : (State.raiseOverrides os s).stepReplaced = s.stepReplaced := rfl
@[simp] theorem State.raiseOverrides_ret (os : BitVec 16) (s : State) : (State.raiseOverrides os s).ret = s.ret := rfl
@[simp] theorem State.raiseOverrides_check (os : BitVec 16) (s : State) : (State.raiseOverrides os s).check = s.check := rfl
@[simp] theorem State.raiseOverrides_gates (os : BitVec 16) (s : State) : (State.raiseOverrides os s).gates = s.gates := rfl
@[simp] theorem State.raiseOverrides_results (os : BitVec 16) (s : State) : (State.raiseOverrides os s).results = s.results := rfl
@[simp] theorem State.raiseOverrides_holders (os : BitVec 16) (s : State) : (State.raiseOverrides os s).holders = s.holders := rfl
@[simp] theorem State.raiseOverrides_sw (os : BitVec 16) (s : State) : (State.raiseOverrides os s).sw = s.sw := rfl
@[simp] theorem State.raiseOverrides_gapStamps (os : BitVec 16) (s : State) : (State.raiseOverrides os s).gapStamps = s.gapStamps := rfl
@[simp] theorem State.raiseOverrides_queue (os : BitVec 16) (s : State) : (State.raiseOverrides os s).queue = s.queue := rfl
@[simp] theorem State.raiseOverrides_lastAdm (os : BitVec 16) (s : State) : (State.raiseOverrides os s).lastAdm = s.lastAdm := rfl
@[simp] theorem State.raiseOverrides_staggerPast (os : BitVec 16) (s : State) : (State.raiseOverrides os s).staggerPast = s.staggerPast := rfl
@[simp] theorem State.raiseOverrides_pinTaken (os : BitVec 16) (s : State) : (State.raiseOverrides os s).pinTaken = s.pinTaken := rfl
@[simp] theorem State.raiseOverrides_faults (os : BitVec 16) (s : State) : (State.raiseOverrides os s).faults = s.faults := rfl
@[simp] theorem State.raiseOverrides_keys (os : BitVec 16) (s : State) : (State.raiseOverrides os s).keys = s.keys := rfl
@[simp] theorem State.raiseOverrides_att (os : BitVec 16) (s : State) : (State.raiseOverrides os s).att = { s.att with override := s.att.override ||| os } := rfl
@[simp] theorem State.raiseOverrides_link (os : BitVec 16) (s : State) : (State.raiseOverrides os s).link = s.link := rfl
@[simp] theorem State.raiseOverrides_sup (os : BitVec 16) (s : State) : (State.raiseOverrides os s).sup = s.sup := rfl
@[simp] theorem State.raiseOverrides_mail (os : BitVec 16) (s : State) : (State.raiseOverrides os s).mail = s.mail := rfl
@[simp] theorem State.raiseOverrides_freeCount (os : BitVec 16) (s : State) : (State.raiseOverrides os s).freeCount = s.freeCount := rfl
@[simp] theorem State.raiseOverrides_pending (os : BitVec 16) (s : State) : (State.raiseOverrides os s).pending = s.pending := rfl

/-! ### raiseGate -/

@[simp] theorem State.raiseGate_cal (g : GateIdx) (s : State) : (State.raiseGate g s).cal = s.cal := rfl
@[simp] theorem State.raiseGate_runCount (g : GateIdx) (s : State) : (State.raiseGate g s).runCount = s.runCount := rfl
@[simp] theorem State.raiseGate_stepReplaced (g : GateIdx) (s : State) : (State.raiseGate g s).stepReplaced = s.stepReplaced := rfl
@[simp] theorem State.raiseGate_ret (g : GateIdx) (s : State) : (State.raiseGate g s).ret = s.ret := rfl
@[simp] theorem State.raiseGate_check (g : GateIdx) (s : State) : (State.raiseGate g s).check = s.check := rfl
@[simp] theorem State.raiseGate_gates (g : GateIdx) (s : State) : (State.raiseGate g s).gates = s.gates := rfl
@[simp] theorem State.raiseGate_results (g : GateIdx) (s : State) : (State.raiseGate g s).results = s.results := rfl
@[simp] theorem State.raiseGate_holders (g : GateIdx) (s : State) : (State.raiseGate g s).holders = s.holders := rfl
@[simp] theorem State.raiseGate_sw (g : GateIdx) (s : State) : (State.raiseGate g s).sw = s.sw := rfl
@[simp] theorem State.raiseGate_gapStamps (g : GateIdx) (s : State) : (State.raiseGate g s).gapStamps = s.gapStamps := rfl
@[simp] theorem State.raiseGate_queue (g : GateIdx) (s : State) : (State.raiseGate g s).queue = s.queue := rfl
@[simp] theorem State.raiseGate_lastAdm (g : GateIdx) (s : State) : (State.raiseGate g s).lastAdm = s.lastAdm := rfl
@[simp] theorem State.raiseGate_staggerPast (g : GateIdx) (s : State) : (State.raiseGate g s).staggerPast = s.staggerPast := rfl
@[simp] theorem State.raiseGate_pinTaken (g : GateIdx) (s : State) : (State.raiseGate g s).pinTaken = s.pinTaken := rfl
@[simp] theorem State.raiseGate_faults (g : GateIdx) (s : State) : (State.raiseGate g s).faults = s.faults := rfl
@[simp] theorem State.raiseGate_keys (g : GateIdx) (s : State) : (State.raiseGate g s).keys = s.keys := rfl
@[simp] theorem State.raiseGate_att (g : GateIdx) (s : State) : (State.raiseGate g s).att = { s.att with gate := s.att.gate ||| BitVec.twoPow 4 g.val } := rfl
@[simp] theorem State.raiseGate_link (g : GateIdx) (s : State) : (State.raiseGate g s).link = s.link := rfl
@[simp] theorem State.raiseGate_sup (g : GateIdx) (s : State) : (State.raiseGate g s).sup = s.sup := rfl
@[simp] theorem State.raiseGate_mail (g : GateIdx) (s : State) : (State.raiseGate g s).mail = s.mail := rfl
@[simp] theorem State.raiseGate_freeCount (g : GateIdx) (s : State) : (State.raiseGate g s).freeCount = s.freeCount := rfl
@[simp] theorem State.raiseGate_pending (g : GateIdx) (s : State) : (State.raiseGate g s).pending = s.pending := rfl

/-! ### raiseClock -/

@[simp] theorem State.raiseClock_cal (s : State) : (State.raiseClock s).cal = s.cal := rfl
@[simp] theorem State.raiseClock_runCount (s : State) : (State.raiseClock s).runCount = s.runCount := rfl
@[simp] theorem State.raiseClock_stepReplaced (s : State) : (State.raiseClock s).stepReplaced = s.stepReplaced := rfl
@[simp] theorem State.raiseClock_ret (s : State) : (State.raiseClock s).ret = s.ret := rfl
@[simp] theorem State.raiseClock_check (s : State) : (State.raiseClock s).check = s.check := rfl
@[simp] theorem State.raiseClock_gates (s : State) : (State.raiseClock s).gates = s.gates := rfl
@[simp] theorem State.raiseClock_results (s : State) : (State.raiseClock s).results = s.results := rfl
@[simp] theorem State.raiseClock_holders (s : State) : (State.raiseClock s).holders = s.holders := rfl
@[simp] theorem State.raiseClock_sw (s : State) : (State.raiseClock s).sw = s.sw := rfl
@[simp] theorem State.raiseClock_gapStamps (s : State) : (State.raiseClock s).gapStamps = s.gapStamps := rfl
@[simp] theorem State.raiseClock_queue (s : State) : (State.raiseClock s).queue = s.queue := rfl
@[simp] theorem State.raiseClock_lastAdm (s : State) : (State.raiseClock s).lastAdm = s.lastAdm := rfl
@[simp] theorem State.raiseClock_staggerPast (s : State) : (State.raiseClock s).staggerPast = s.staggerPast := rfl
@[simp] theorem State.raiseClock_pinTaken (s : State) : (State.raiseClock s).pinTaken = s.pinTaken := rfl
@[simp] theorem State.raiseClock_faults (s : State) : (State.raiseClock s).faults = s.faults := rfl
@[simp] theorem State.raiseClock_keys (s : State) : (State.raiseClock s).keys = s.keys := rfl
@[simp] theorem State.raiseClock_att (s : State) : (State.raiseClock s).att = { s.att with clock := true } := rfl
@[simp] theorem State.raiseClock_link (s : State) : (State.raiseClock s).link = s.link := rfl
@[simp] theorem State.raiseClock_sup (s : State) : (State.raiseClock s).sup = s.sup := rfl
@[simp] theorem State.raiseClock_mail (s : State) : (State.raiseClock s).mail = s.mail := rfl
@[simp] theorem State.raiseClock_freeCount (s : State) : (State.raiseClock s).freeCount = s.freeCount := rfl
@[simp] theorem State.raiseClock_pending (s : State) : (State.raiseClock s).pending = s.pending := rfl

/-! ### raiseStart -/

@[simp] theorem State.raiseStart_cal (s : State) : (State.raiseStart s).cal = s.cal := rfl
@[simp] theorem State.raiseStart_runCount (s : State) : (State.raiseStart s).runCount = s.runCount := rfl
@[simp] theorem State.raiseStart_stepReplaced (s : State) : (State.raiseStart s).stepReplaced = s.stepReplaced := rfl
@[simp] theorem State.raiseStart_ret (s : State) : (State.raiseStart s).ret = s.ret := rfl
@[simp] theorem State.raiseStart_check (s : State) : (State.raiseStart s).check = s.check := rfl
@[simp] theorem State.raiseStart_gates (s : State) : (State.raiseStart s).gates = s.gates := rfl
@[simp] theorem State.raiseStart_results (s : State) : (State.raiseStart s).results = s.results := rfl
@[simp] theorem State.raiseStart_holders (s : State) : (State.raiseStart s).holders = s.holders := rfl
@[simp] theorem State.raiseStart_sw (s : State) : (State.raiseStart s).sw = s.sw := rfl
@[simp] theorem State.raiseStart_gapStamps (s : State) : (State.raiseStart s).gapStamps = s.gapStamps := rfl
@[simp] theorem State.raiseStart_queue (s : State) : (State.raiseStart s).queue = s.queue := rfl
@[simp] theorem State.raiseStart_lastAdm (s : State) : (State.raiseStart s).lastAdm = s.lastAdm := rfl
@[simp] theorem State.raiseStart_staggerPast (s : State) : (State.raiseStart s).staggerPast = s.staggerPast := rfl
@[simp] theorem State.raiseStart_pinTaken (s : State) : (State.raiseStart s).pinTaken = s.pinTaken := rfl
@[simp] theorem State.raiseStart_faults (s : State) : (State.raiseStart s).faults = s.faults := rfl
@[simp] theorem State.raiseStart_keys (s : State) : (State.raiseStart s).keys = s.keys := rfl
@[simp] theorem State.raiseStart_att (s : State) : (State.raiseStart s).att = { s.att with start := true } := rfl
@[simp] theorem State.raiseStart_link (s : State) : (State.raiseStart s).link = s.link := rfl
@[simp] theorem State.raiseStart_sup (s : State) : (State.raiseStart s).sup = s.sup := rfl
@[simp] theorem State.raiseStart_mail (s : State) : (State.raiseStart s).mail = s.mail := rfl
@[simp] theorem State.raiseStart_freeCount (s : State) : (State.raiseStart s).freeCount = s.freeCount := rfl
@[simp] theorem State.raiseStart_pending (s : State) : (State.raiseStart s).pending = s.pending := rfl

/-! ### raiseAllOff -/

@[simp] theorem State.raiseAllOff_cal (s : State) : (State.raiseAllOff s).cal = s.cal := rfl
@[simp] theorem State.raiseAllOff_runCount (s : State) : (State.raiseAllOff s).runCount = s.runCount := rfl
@[simp] theorem State.raiseAllOff_stepReplaced (s : State) : (State.raiseAllOff s).stepReplaced = s.stepReplaced := rfl
@[simp] theorem State.raiseAllOff_ret (s : State) : (State.raiseAllOff s).ret = s.ret := rfl
@[simp] theorem State.raiseAllOff_check (s : State) : (State.raiseAllOff s).check = s.check := rfl
@[simp] theorem State.raiseAllOff_gates (s : State) : (State.raiseAllOff s).gates = s.gates := rfl
@[simp] theorem State.raiseAllOff_results (s : State) : (State.raiseAllOff s).results = s.results := rfl
@[simp] theorem State.raiseAllOff_holders (s : State) : (State.raiseAllOff s).holders = s.holders := rfl
@[simp] theorem State.raiseAllOff_sw (s : State) : (State.raiseAllOff s).sw = s.sw := rfl
@[simp] theorem State.raiseAllOff_gapStamps (s : State) : (State.raiseAllOff s).gapStamps = s.gapStamps := rfl
@[simp] theorem State.raiseAllOff_queue (s : State) : (State.raiseAllOff s).queue = s.queue := rfl
@[simp] theorem State.raiseAllOff_lastAdm (s : State) : (State.raiseAllOff s).lastAdm = s.lastAdm := rfl
@[simp] theorem State.raiseAllOff_staggerPast (s : State) : (State.raiseAllOff s).staggerPast = s.staggerPast := rfl
@[simp] theorem State.raiseAllOff_pinTaken (s : State) : (State.raiseAllOff s).pinTaken = s.pinTaken := rfl
@[simp] theorem State.raiseAllOff_faults (s : State) : (State.raiseAllOff s).faults = s.faults := rfl
@[simp] theorem State.raiseAllOff_keys (s : State) : (State.raiseAllOff s).keys = s.keys := rfl
@[simp] theorem State.raiseAllOff_att (s : State) : (State.raiseAllOff s).att = { s.att with allOff := true } := rfl
@[simp] theorem State.raiseAllOff_link (s : State) : (State.raiseAllOff s).link = s.link := rfl
@[simp] theorem State.raiseAllOff_sup (s : State) : (State.raiseAllOff s).sup = s.sup := rfl
@[simp] theorem State.raiseAllOff_mail (s : State) : (State.raiseAllOff s).mail = s.mail := rfl
@[simp] theorem State.raiseAllOff_freeCount (s : State) : (State.raiseAllOff s).freeCount = s.freeCount := rfl
@[simp] theorem State.raiseAllOff_pending (s : State) : (State.raiseAllOff s).pending = s.pending := rfl

/-! ### raiseResponse -/

@[simp] theorem State.raiseResponse_cal (s : State) : (State.raiseResponse s).cal = s.cal := rfl
@[simp] theorem State.raiseResponse_runCount (s : State) : (State.raiseResponse s).runCount = s.runCount := rfl
@[simp] theorem State.raiseResponse_stepReplaced (s : State) : (State.raiseResponse s).stepReplaced = s.stepReplaced := rfl
@[simp] theorem State.raiseResponse_ret (s : State) : (State.raiseResponse s).ret = s.ret := rfl
@[simp] theorem State.raiseResponse_check (s : State) : (State.raiseResponse s).check = s.check := rfl
@[simp] theorem State.raiseResponse_gates (s : State) : (State.raiseResponse s).gates = s.gates := rfl
@[simp] theorem State.raiseResponse_results (s : State) : (State.raiseResponse s).results = s.results := rfl
@[simp] theorem State.raiseResponse_holders (s : State) : (State.raiseResponse s).holders = s.holders := rfl
@[simp] theorem State.raiseResponse_sw (s : State) : (State.raiseResponse s).sw = s.sw := rfl
@[simp] theorem State.raiseResponse_gapStamps (s : State) : (State.raiseResponse s).gapStamps = s.gapStamps := rfl
@[simp] theorem State.raiseResponse_queue (s : State) : (State.raiseResponse s).queue = s.queue := rfl
@[simp] theorem State.raiseResponse_lastAdm (s : State) : (State.raiseResponse s).lastAdm = s.lastAdm := rfl
@[simp] theorem State.raiseResponse_staggerPast (s : State) : (State.raiseResponse s).staggerPast = s.staggerPast := rfl
@[simp] theorem State.raiseResponse_pinTaken (s : State) : (State.raiseResponse s).pinTaken = s.pinTaken := rfl
@[simp] theorem State.raiseResponse_faults (s : State) : (State.raiseResponse s).faults = s.faults := rfl
@[simp] theorem State.raiseResponse_keys (s : State) : (State.raiseResponse s).keys = s.keys := rfl
@[simp] theorem State.raiseResponse_att (s : State) : (State.raiseResponse s).att = { s.att with response := true } := rfl
@[simp] theorem State.raiseResponse_link (s : State) : (State.raiseResponse s).link = s.link := rfl
@[simp] theorem State.raiseResponse_sup (s : State) : (State.raiseResponse s).sup = s.sup := rfl
@[simp] theorem State.raiseResponse_mail (s : State) : (State.raiseResponse s).mail = s.mail := rfl
@[simp] theorem State.raiseResponse_freeCount (s : State) : (State.raiseResponse s).freeCount = s.freeCount := rfl
@[simp] theorem State.raiseResponse_pending (s : State) : (State.raiseResponse s).pending = s.pending := rfl

/-! ### raiseOverrun -/

@[simp] theorem State.raiseOverrun_cal (s : State) : (State.raiseOverrun s).cal = s.cal := rfl
@[simp] theorem State.raiseOverrun_runCount (s : State) : (State.raiseOverrun s).runCount = s.runCount := rfl
@[simp] theorem State.raiseOverrun_stepReplaced (s : State) : (State.raiseOverrun s).stepReplaced = s.stepReplaced := rfl
@[simp] theorem State.raiseOverrun_ret (s : State) : (State.raiseOverrun s).ret = s.ret := rfl
@[simp] theorem State.raiseOverrun_check (s : State) : (State.raiseOverrun s).check = s.check := rfl
@[simp] theorem State.raiseOverrun_gates (s : State) : (State.raiseOverrun s).gates = s.gates := rfl
@[simp] theorem State.raiseOverrun_results (s : State) : (State.raiseOverrun s).results = s.results := rfl
@[simp] theorem State.raiseOverrun_holders (s : State) : (State.raiseOverrun s).holders = s.holders := rfl
@[simp] theorem State.raiseOverrun_sw (s : State) : (State.raiseOverrun s).sw = s.sw := rfl
@[simp] theorem State.raiseOverrun_gapStamps (s : State) : (State.raiseOverrun s).gapStamps = s.gapStamps := rfl
@[simp] theorem State.raiseOverrun_queue (s : State) : (State.raiseOverrun s).queue = s.queue := rfl
@[simp] theorem State.raiseOverrun_lastAdm (s : State) : (State.raiseOverrun s).lastAdm = s.lastAdm := rfl
@[simp] theorem State.raiseOverrun_staggerPast (s : State) : (State.raiseOverrun s).staggerPast = s.staggerPast := rfl
@[simp] theorem State.raiseOverrun_pinTaken (s : State) : (State.raiseOverrun s).pinTaken = s.pinTaken := rfl
@[simp] theorem State.raiseOverrun_faults (s : State) : (State.raiseOverrun s).faults = s.faults := rfl
@[simp] theorem State.raiseOverrun_keys (s : State) : (State.raiseOverrun s).keys = s.keys := rfl
@[simp] theorem State.raiseOverrun_att (s : State) : (State.raiseOverrun s).att = { s.att with overrun := true } := rfl
@[simp] theorem State.raiseOverrun_link (s : State) : (State.raiseOverrun s).link = s.link := rfl
@[simp] theorem State.raiseOverrun_sup (s : State) : (State.raiseOverrun s).sup = s.sup := rfl
@[simp] theorem State.raiseOverrun_mail (s : State) : (State.raiseOverrun s).mail = s.mail := rfl
@[simp] theorem State.raiseOverrun_freeCount (s : State) : (State.raiseOverrun s).freeCount = s.freeCount := rfl
@[simp] theorem State.raiseOverrun_pending (s : State) : (State.raiseOverrun s).pending = s.pending := rfl

/-! ### raiseFraming -/

@[simp] theorem State.raiseFraming_cal (s : State) : (State.raiseFraming s).cal = s.cal := rfl
@[simp] theorem State.raiseFraming_runCount (s : State) : (State.raiseFraming s).runCount = s.runCount := rfl
@[simp] theorem State.raiseFraming_stepReplaced (s : State) : (State.raiseFraming s).stepReplaced = s.stepReplaced := rfl
@[simp] theorem State.raiseFraming_ret (s : State) : (State.raiseFraming s).ret = s.ret := rfl
@[simp] theorem State.raiseFraming_check (s : State) : (State.raiseFraming s).check = s.check := rfl
@[simp] theorem State.raiseFraming_gates (s : State) : (State.raiseFraming s).gates = s.gates := rfl
@[simp] theorem State.raiseFraming_results (s : State) : (State.raiseFraming s).results = s.results := rfl
@[simp] theorem State.raiseFraming_holders (s : State) : (State.raiseFraming s).holders = s.holders := rfl
@[simp] theorem State.raiseFraming_sw (s : State) : (State.raiseFraming s).sw = s.sw := rfl
@[simp] theorem State.raiseFraming_gapStamps (s : State) : (State.raiseFraming s).gapStamps = s.gapStamps := rfl
@[simp] theorem State.raiseFraming_queue (s : State) : (State.raiseFraming s).queue = s.queue := rfl
@[simp] theorem State.raiseFraming_lastAdm (s : State) : (State.raiseFraming s).lastAdm = s.lastAdm := rfl
@[simp] theorem State.raiseFraming_staggerPast (s : State) : (State.raiseFraming s).staggerPast = s.staggerPast := rfl
@[simp] theorem State.raiseFraming_pinTaken (s : State) : (State.raiseFraming s).pinTaken = s.pinTaken := rfl
@[simp] theorem State.raiseFraming_faults (s : State) : (State.raiseFraming s).faults = s.faults := rfl
@[simp] theorem State.raiseFraming_keys (s : State) : (State.raiseFraming s).keys = s.keys := rfl
@[simp] theorem State.raiseFraming_att (s : State) : (State.raiseFraming s).att = { s.att with framing := true } := rfl
@[simp] theorem State.raiseFraming_link (s : State) : (State.raiseFraming s).link = s.link := rfl
@[simp] theorem State.raiseFraming_sup (s : State) : (State.raiseFraming s).sup = s.sup := rfl
@[simp] theorem State.raiseFraming_mail (s : State) : (State.raiseFraming s).mail = s.mail := rfl
@[simp] theorem State.raiseFraming_freeCount (s : State) : (State.raiseFraming s).freeCount = s.freeCount := rfl
@[simp] theorem State.raiseFraming_pending (s : State) : (State.raiseFraming s).pending = s.pending := rfl

/-! ### postBoundary -/

@[simp] theorem State.postBoundary_cal (b : Boundary) (s : State) : (State.postBoundary b s).cal = s.cal := rfl
@[simp] theorem State.postBoundary_runCount (b : Boundary) (s : State) : (State.postBoundary b s).runCount = s.runCount := rfl
@[simp] theorem State.postBoundary_stepReplaced (b : Boundary) (s : State) : (State.postBoundary b s).stepReplaced = s.stepReplaced := rfl
@[simp] theorem State.postBoundary_ret (b : Boundary) (s : State) : (State.postBoundary b s).ret = s.ret := rfl
@[simp] theorem State.postBoundary_check (b : Boundary) (s : State) : (State.postBoundary b s).check = s.check := rfl
@[simp] theorem State.postBoundary_gates (b : Boundary) (s : State) : (State.postBoundary b s).gates = s.gates := rfl
@[simp] theorem State.postBoundary_results (b : Boundary) (s : State) : (State.postBoundary b s).results = s.results := rfl
@[simp] theorem State.postBoundary_holders (b : Boundary) (s : State) : (State.postBoundary b s).holders = s.holders := rfl
@[simp] theorem State.postBoundary_sw (b : Boundary) (s : State) : (State.postBoundary b s).sw = s.sw := rfl
@[simp] theorem State.postBoundary_gapStamps (b : Boundary) (s : State) : (State.postBoundary b s).gapStamps = s.gapStamps := rfl
@[simp] theorem State.postBoundary_queue (b : Boundary) (s : State) : (State.postBoundary b s).queue = s.queue := rfl
@[simp] theorem State.postBoundary_lastAdm (b : Boundary) (s : State) : (State.postBoundary b s).lastAdm = s.lastAdm := rfl
@[simp] theorem State.postBoundary_staggerPast (b : Boundary) (s : State) : (State.postBoundary b s).staggerPast = s.staggerPast := rfl
@[simp] theorem State.postBoundary_pinTaken (b : Boundary) (s : State) : (State.postBoundary b s).pinTaken = s.pinTaken := rfl
@[simp] theorem State.postBoundary_faults (b : Boundary) (s : State) : (State.postBoundary b s).faults = s.faults := rfl
@[simp] theorem State.postBoundary_keys (b : Boundary) (s : State) : (State.postBoundary b s).keys = s.keys := rfl
@[simp] theorem State.postBoundary_att (b : Boundary) (s : State) : (State.postBoundary b s).att = s.att := rfl
@[simp] theorem State.postBoundary_link (b : Boundary) (s : State) : (State.postBoundary b s).link = s.link := rfl
@[simp] theorem State.postBoundary_sup (b : Boundary) (s : State) : (State.postBoundary b s).sup = s.sup := rfl
@[simp] theorem State.postBoundary_mail (b : Boundary) (s : State) : (State.postBoundary b s).mail = { s.mail with boundaries := s.mail.boundaries ++ [b] } := rfl
@[simp] theorem State.postBoundary_freeCount (b : Boundary) (s : State) : (State.postBoundary b s).freeCount = s.freeCount := rfl
@[simp] theorem State.postBoundary_pending (b : Boundary) (s : State) : (State.postBoundary b s).pending = s.pending := rfl

/-! ### postGateReport -/

@[simp] theorem State.postGateReport_cal (g : GateIdx) (st : GateState) (s : State) : (State.postGateReport g st s).cal = s.cal := rfl
@[simp] theorem State.postGateReport_runCount (g : GateIdx) (st : GateState) (s : State) : (State.postGateReport g st s).runCount = s.runCount := rfl
@[simp] theorem State.postGateReport_stepReplaced (g : GateIdx) (st : GateState) (s : State) : (State.postGateReport g st s).stepReplaced = s.stepReplaced := rfl
@[simp] theorem State.postGateReport_ret (g : GateIdx) (st : GateState) (s : State) : (State.postGateReport g st s).ret = s.ret := rfl
@[simp] theorem State.postGateReport_check (g : GateIdx) (st : GateState) (s : State) : (State.postGateReport g st s).check = s.check := rfl
@[simp] theorem State.postGateReport_gates (g : GateIdx) (st : GateState) (s : State) : (State.postGateReport g st s).gates = s.gates := rfl
@[simp] theorem State.postGateReport_results (g : GateIdx) (st : GateState) (s : State) : (State.postGateReport g st s).results = s.results := rfl
@[simp] theorem State.postGateReport_holders (g : GateIdx) (st : GateState) (s : State) : (State.postGateReport g st s).holders = s.holders := rfl
@[simp] theorem State.postGateReport_sw (g : GateIdx) (st : GateState) (s : State) : (State.postGateReport g st s).sw = s.sw := rfl
@[simp] theorem State.postGateReport_gapStamps (g : GateIdx) (st : GateState) (s : State) : (State.postGateReport g st s).gapStamps = s.gapStamps := rfl
@[simp] theorem State.postGateReport_queue (g : GateIdx) (st : GateState) (s : State) : (State.postGateReport g st s).queue = s.queue := rfl
@[simp] theorem State.postGateReport_lastAdm (g : GateIdx) (st : GateState) (s : State) : (State.postGateReport g st s).lastAdm = s.lastAdm := rfl
@[simp] theorem State.postGateReport_staggerPast (g : GateIdx) (st : GateState) (s : State) : (State.postGateReport g st s).staggerPast = s.staggerPast := rfl
@[simp] theorem State.postGateReport_pinTaken (g : GateIdx) (st : GateState) (s : State) : (State.postGateReport g st s).pinTaken = s.pinTaken := rfl
@[simp] theorem State.postGateReport_faults (g : GateIdx) (st : GateState) (s : State) : (State.postGateReport g st s).faults = s.faults := rfl
@[simp] theorem State.postGateReport_keys (g : GateIdx) (st : GateState) (s : State) : (State.postGateReport g st s).keys = s.keys := rfl
@[simp] theorem State.postGateReport_att (g : GateIdx) (st : GateState) (s : State) : (State.postGateReport g st s).att = s.att := rfl
@[simp] theorem State.postGateReport_link (g : GateIdx) (st : GateState) (s : State) : (State.postGateReport g st s).link = s.link := rfl
@[simp] theorem State.postGateReport_sup (g : GateIdx) (st : GateState) (s : State) : (State.postGateReport g st s).sup = s.sup := rfl
@[simp] theorem State.postGateReport_mail (g : GateIdx) (st : GateState) (s : State) : (State.postGateReport g st s).mail = { s.mail with gateReports := s.mail.gateReports ++ [(g, st)] } := rfl
@[simp] theorem State.postGateReport_freeCount (g : GateIdx) (st : GateState) (s : State) : (State.postGateReport g st s).freeCount = s.freeCount := rfl
@[simp] theorem State.postGateReport_pending (g : GateIdx) (st : GateState) (s : State) : (State.postGateReport g st s).pending = s.pending := rfl

/-! ### postKeyRequest -/

@[simp] theorem State.postKeyRequest_cal (k : KeyIdx) (r : KeyRequest) (s : State) : (State.postKeyRequest k r s).cal = s.cal := rfl
@[simp] theorem State.postKeyRequest_runCount (k : KeyIdx) (r : KeyRequest) (s : State) : (State.postKeyRequest k r s).runCount = s.runCount := rfl
@[simp] theorem State.postKeyRequest_stepReplaced (k : KeyIdx) (r : KeyRequest) (s : State) : (State.postKeyRequest k r s).stepReplaced = s.stepReplaced := rfl
@[simp] theorem State.postKeyRequest_ret (k : KeyIdx) (r : KeyRequest) (s : State) : (State.postKeyRequest k r s).ret = s.ret := rfl
@[simp] theorem State.postKeyRequest_check (k : KeyIdx) (r : KeyRequest) (s : State) : (State.postKeyRequest k r s).check = s.check := rfl
@[simp] theorem State.postKeyRequest_gates (k : KeyIdx) (r : KeyRequest) (s : State) : (State.postKeyRequest k r s).gates = s.gates := rfl
@[simp] theorem State.postKeyRequest_results (k : KeyIdx) (r : KeyRequest) (s : State) : (State.postKeyRequest k r s).results = s.results := rfl
@[simp] theorem State.postKeyRequest_holders (k : KeyIdx) (r : KeyRequest) (s : State) : (State.postKeyRequest k r s).holders = s.holders := rfl
@[simp] theorem State.postKeyRequest_sw (k : KeyIdx) (r : KeyRequest) (s : State) : (State.postKeyRequest k r s).sw = s.sw := rfl
@[simp] theorem State.postKeyRequest_gapStamps (k : KeyIdx) (r : KeyRequest) (s : State) : (State.postKeyRequest k r s).gapStamps = s.gapStamps := rfl
@[simp] theorem State.postKeyRequest_queue (k : KeyIdx) (r : KeyRequest) (s : State) : (State.postKeyRequest k r s).queue = s.queue := rfl
@[simp] theorem State.postKeyRequest_lastAdm (k : KeyIdx) (r : KeyRequest) (s : State) : (State.postKeyRequest k r s).lastAdm = s.lastAdm := rfl
@[simp] theorem State.postKeyRequest_staggerPast (k : KeyIdx) (r : KeyRequest) (s : State) : (State.postKeyRequest k r s).staggerPast = s.staggerPast := rfl
@[simp] theorem State.postKeyRequest_pinTaken (k : KeyIdx) (r : KeyRequest) (s : State) : (State.postKeyRequest k r s).pinTaken = s.pinTaken := rfl
@[simp] theorem State.postKeyRequest_faults (k : KeyIdx) (r : KeyRequest) (s : State) : (State.postKeyRequest k r s).faults = s.faults := rfl
@[simp] theorem State.postKeyRequest_keys (k : KeyIdx) (r : KeyRequest) (s : State) : (State.postKeyRequest k r s).keys = s.keys := rfl
@[simp] theorem State.postKeyRequest_att (k : KeyIdx) (r : KeyRequest) (s : State) : (State.postKeyRequest k r s).att = s.att := rfl
@[simp] theorem State.postKeyRequest_link (k : KeyIdx) (r : KeyRequest) (s : State) : (State.postKeyRequest k r s).link = s.link := rfl
@[simp] theorem State.postKeyRequest_sup (k : KeyIdx) (r : KeyRequest) (s : State) : (State.postKeyRequest k r s).sup = s.sup := rfl
@[simp] theorem State.postKeyRequest_mail (k : KeyIdx) (r : KeyRequest) (s : State) : (State.postKeyRequest k r s).mail = { s.mail with keyRequests := s.mail.keyRequests.set k (s.mail.keyRequests[k] ++ [r]) } := rfl
@[simp] theorem State.postKeyRequest_freeCount (k : KeyIdx) (r : KeyRequest) (s : State) : (State.postKeyRequest k r s).freeCount = s.freeCount := rfl
@[simp] theorem State.postKeyRequest_pending (k : KeyIdx) (r : KeyRequest) (s : State) : (State.postKeyRequest k r s).pending = s.pending := rfl

/-! ### request -/

@[simp] theorem State.request_cal (cs : ChanSet) (s : State) : (State.request cs s).cal = s.cal := by unfold State.request; split <;> rfl
@[simp] theorem State.request_runCount (cs : ChanSet) (s : State) : (State.request cs s).runCount = s.runCount := by unfold State.request; split <;> rfl
@[simp] theorem State.request_stepReplaced (cs : ChanSet) (s : State) : (State.request cs s).stepReplaced = s.stepReplaced := by unfold State.request; split <;> rfl
@[simp] theorem State.request_ret (cs : ChanSet) (s : State) : (State.request cs s).ret = s.ret := by unfold State.request; split <;> rfl
@[simp] theorem State.request_check (cs : ChanSet) (s : State) : (State.request cs s).check = s.check := by unfold State.request; split <;> rfl
@[simp] theorem State.request_gates (cs : ChanSet) (s : State) : (State.request cs s).gates = s.gates := by unfold State.request; split <;> rfl
@[simp] theorem State.request_results (cs : ChanSet) (s : State) : (State.request cs s).results = s.results := by unfold State.request; split <;> rfl
@[simp] theorem State.request_holders (cs : ChanSet) (s : State) : (State.request cs s).holders = s.holders := by unfold State.request; split <;> rfl
@[simp] theorem State.request_sw (cs : ChanSet) (s : State) : (State.request cs s).sw = s.sw := by unfold State.request; split <;> rfl
@[simp] theorem State.request_gapStamps (cs : ChanSet) (s : State) : (State.request cs s).gapStamps = s.gapStamps := by unfold State.request; split <;> rfl
@[simp] theorem State.request_queue (cs : ChanSet) (s : State) : (State.request cs s).queue = s.queue := by unfold State.request; split <;> rfl
@[simp] theorem State.request_lastAdm (cs : ChanSet) (s : State) : (State.request cs s).lastAdm = s.lastAdm := by unfold State.request; split <;> rfl
@[simp] theorem State.request_staggerPast (cs : ChanSet) (s : State) : (State.request cs s).staggerPast = s.staggerPast := by unfold State.request; split <;> rfl
@[simp] theorem State.request_pinTaken (cs : ChanSet) (s : State) : (State.request cs s).pinTaken = s.pinTaken := by unfold State.request; split <;> rfl
@[simp] theorem State.request_faults (cs : ChanSet) (s : State) : (State.request cs s).faults = s.faults := by unfold State.request; split <;> rfl
@[simp] theorem State.request_keys (cs : ChanSet) (s : State) : (State.request cs s).keys = s.keys := by unfold State.request; split <;> rfl
@[simp] theorem State.request_att (cs : ChanSet) (s : State) : (State.request cs s).att = s.att := by unfold State.request; split <;> rfl
@[simp] theorem State.request_link (cs : ChanSet) (s : State) : (State.request cs s).link = s.link := by unfold State.request; split <;> rfl
@[simp] theorem State.request_sup (cs : ChanSet) (s : State) : (State.request cs s).sup = s.sup := by unfold State.request; split <;> rfl
@[simp] theorem State.request_freeCount (cs : ChanSet) (s : State) : (State.request cs s).freeCount = s.freeCount := by unfold State.request; split <;> rfl
@[simp] theorem State.request_pending (cs : ChanSet) (s : State) : (State.request cs s).pending = s.pending := by unfold State.request; split <;> rfl

/-! ### postVerdicts -/

@[simp] theorem State.postVerdicts_cal (vs : List (Chan × Verdict)) (s : State) : (State.postVerdicts vs s).cal = s.cal := by unfold State.postVerdicts; split <;> rfl
@[simp] theorem State.postVerdicts_runCount (vs : List (Chan × Verdict)) (s : State) : (State.postVerdicts vs s).runCount = s.runCount := by unfold State.postVerdicts; split <;> rfl
@[simp] theorem State.postVerdicts_stepReplaced (vs : List (Chan × Verdict)) (s : State) : (State.postVerdicts vs s).stepReplaced = s.stepReplaced := by unfold State.postVerdicts; split <;> rfl
@[simp] theorem State.postVerdicts_ret (vs : List (Chan × Verdict)) (s : State) : (State.postVerdicts vs s).ret = s.ret := by unfold State.postVerdicts; split <;> rfl
@[simp] theorem State.postVerdicts_check (vs : List (Chan × Verdict)) (s : State) : (State.postVerdicts vs s).check = s.check := by unfold State.postVerdicts; split <;> rfl
@[simp] theorem State.postVerdicts_gates (vs : List (Chan × Verdict)) (s : State) : (State.postVerdicts vs s).gates = s.gates := by unfold State.postVerdicts; split <;> rfl
@[simp] theorem State.postVerdicts_results (vs : List (Chan × Verdict)) (s : State) : (State.postVerdicts vs s).results = s.results := by unfold State.postVerdicts; split <;> rfl
@[simp] theorem State.postVerdicts_holders (vs : List (Chan × Verdict)) (s : State) : (State.postVerdicts vs s).holders = s.holders := by unfold State.postVerdicts; split <;> rfl
@[simp] theorem State.postVerdicts_sw (vs : List (Chan × Verdict)) (s : State) : (State.postVerdicts vs s).sw = s.sw := by unfold State.postVerdicts; split <;> rfl
@[simp] theorem State.postVerdicts_gapStamps (vs : List (Chan × Verdict)) (s : State) : (State.postVerdicts vs s).gapStamps = s.gapStamps := by unfold State.postVerdicts; split <;> rfl
@[simp] theorem State.postVerdicts_queue (vs : List (Chan × Verdict)) (s : State) : (State.postVerdicts vs s).queue = s.queue := by unfold State.postVerdicts; split <;> rfl
@[simp] theorem State.postVerdicts_lastAdm (vs : List (Chan × Verdict)) (s : State) : (State.postVerdicts vs s).lastAdm = s.lastAdm := by unfold State.postVerdicts; split <;> rfl
@[simp] theorem State.postVerdicts_staggerPast (vs : List (Chan × Verdict)) (s : State) : (State.postVerdicts vs s).staggerPast = s.staggerPast := by unfold State.postVerdicts; split <;> rfl
@[simp] theorem State.postVerdicts_pinTaken (vs : List (Chan × Verdict)) (s : State) : (State.postVerdicts vs s).pinTaken = s.pinTaken := by unfold State.postVerdicts; split <;> rfl
@[simp] theorem State.postVerdicts_faults (vs : List (Chan × Verdict)) (s : State) : (State.postVerdicts vs s).faults = s.faults := by unfold State.postVerdicts; split <;> rfl
@[simp] theorem State.postVerdicts_keys (vs : List (Chan × Verdict)) (s : State) : (State.postVerdicts vs s).keys = s.keys := by unfold State.postVerdicts; split <;> rfl
@[simp] theorem State.postVerdicts_att (vs : List (Chan × Verdict)) (s : State) : (State.postVerdicts vs s).att = s.att := by unfold State.postVerdicts; split <;> rfl
@[simp] theorem State.postVerdicts_link (vs : List (Chan × Verdict)) (s : State) : (State.postVerdicts vs s).link = s.link := by unfold State.postVerdicts; split <;> rfl
@[simp] theorem State.postVerdicts_sup (vs : List (Chan × Verdict)) (s : State) : (State.postVerdicts vs s).sup = s.sup := by unfold State.postVerdicts; split <;> rfl
@[simp] theorem State.postVerdicts_freeCount (vs : List (Chan × Verdict)) (s : State) : (State.postVerdicts vs s).freeCount = s.freeCount := by unfold State.postVerdicts; split <;> rfl
@[simp] theorem State.postVerdicts_pending (vs : List (Chan × Verdict)) (s : State) : (State.postVerdicts vs s).pending = s.pending := by unfold State.postVerdicts; split <;> rfl

/-! ### postHandOff -/

@[simp] theorem State.postHandOff_cal (ts : List (Chan × Level)) (s : State) : (State.postHandOff ts s).cal = s.cal := by unfold State.postHandOff; split <;> rfl
@[simp] theorem State.postHandOff_runCount (ts : List (Chan × Level)) (s : State) : (State.postHandOff ts s).runCount = s.runCount := by unfold State.postHandOff; split <;> rfl
@[simp] theorem State.postHandOff_stepReplaced (ts : List (Chan × Level)) (s : State) : (State.postHandOff ts s).stepReplaced = s.stepReplaced := by unfold State.postHandOff; split <;> rfl
@[simp] theorem State.postHandOff_ret (ts : List (Chan × Level)) (s : State) : (State.postHandOff ts s).ret = s.ret := by unfold State.postHandOff; split <;> rfl
@[simp] theorem State.postHandOff_check (ts : List (Chan × Level)) (s : State) : (State.postHandOff ts s).check = s.check := by unfold State.postHandOff; split <;> rfl
@[simp] theorem State.postHandOff_gates (ts : List (Chan × Level)) (s : State) : (State.postHandOff ts s).gates = s.gates := by unfold State.postHandOff; split <;> rfl
@[simp] theorem State.postHandOff_results (ts : List (Chan × Level)) (s : State) : (State.postHandOff ts s).results = s.results := by unfold State.postHandOff; split <;> rfl
@[simp] theorem State.postHandOff_holders (ts : List (Chan × Level)) (s : State) : (State.postHandOff ts s).holders = s.holders := by unfold State.postHandOff; split <;> rfl
@[simp] theorem State.postHandOff_sw (ts : List (Chan × Level)) (s : State) : (State.postHandOff ts s).sw = s.sw := by unfold State.postHandOff; split <;> rfl
@[simp] theorem State.postHandOff_gapStamps (ts : List (Chan × Level)) (s : State) : (State.postHandOff ts s).gapStamps = s.gapStamps := by unfold State.postHandOff; split <;> rfl
@[simp] theorem State.postHandOff_queue (ts : List (Chan × Level)) (s : State) : (State.postHandOff ts s).queue = s.queue := by unfold State.postHandOff; split <;> rfl
@[simp] theorem State.postHandOff_lastAdm (ts : List (Chan × Level)) (s : State) : (State.postHandOff ts s).lastAdm = s.lastAdm := by unfold State.postHandOff; split <;> rfl
@[simp] theorem State.postHandOff_staggerPast (ts : List (Chan × Level)) (s : State) : (State.postHandOff ts s).staggerPast = s.staggerPast := by unfold State.postHandOff; split <;> rfl
@[simp] theorem State.postHandOff_pinTaken (ts : List (Chan × Level)) (s : State) : (State.postHandOff ts s).pinTaken = s.pinTaken := by unfold State.postHandOff; split <;> rfl
@[simp] theorem State.postHandOff_faults (ts : List (Chan × Level)) (s : State) : (State.postHandOff ts s).faults = s.faults := by unfold State.postHandOff; split <;> rfl
@[simp] theorem State.postHandOff_keys (ts : List (Chan × Level)) (s : State) : (State.postHandOff ts s).keys = s.keys := by unfold State.postHandOff; split <;> rfl
@[simp] theorem State.postHandOff_att (ts : List (Chan × Level)) (s : State) : (State.postHandOff ts s).att = s.att := by unfold State.postHandOff; split <;> rfl
@[simp] theorem State.postHandOff_link (ts : List (Chan × Level)) (s : State) : (State.postHandOff ts s).link = s.link := by unfold State.postHandOff; split <;> rfl
@[simp] theorem State.postHandOff_sup (ts : List (Chan × Level)) (s : State) : (State.postHandOff ts s).sup = s.sup := by unfold State.postHandOff; split <;> rfl
@[simp] theorem State.postHandOff_freeCount (ts : List (Chan × Level)) (s : State) : (State.postHandOff ts s).freeCount = s.freeCount := by unfold State.postHandOff; split <;> rfl
@[simp] theorem State.postHandOff_pending (ts : List (Chan × Level)) (s : State) : (State.postHandOff ts s).pending = s.pending := by unfold State.postHandOff; split <;> rfl

/-! ### postLevels -/

@[simp] theorem State.postLevels_cal (cs : ChanSet) (s : State) : (State.postLevels cs s).cal = s.cal := by unfold State.postLevels; split <;> rfl
@[simp] theorem State.postLevels_runCount (cs : ChanSet) (s : State) : (State.postLevels cs s).runCount = s.runCount := by unfold State.postLevels; split <;> rfl
@[simp] theorem State.postLevels_stepReplaced (cs : ChanSet) (s : State) : (State.postLevels cs s).stepReplaced = s.stepReplaced := by unfold State.postLevels; split <;> rfl
@[simp] theorem State.postLevels_ret (cs : ChanSet) (s : State) : (State.postLevels cs s).ret = s.ret := by unfold State.postLevels; split <;> rfl
@[simp] theorem State.postLevels_check (cs : ChanSet) (s : State) : (State.postLevels cs s).check = s.check := by unfold State.postLevels; split <;> rfl
@[simp] theorem State.postLevels_gates (cs : ChanSet) (s : State) : (State.postLevels cs s).gates = s.gates := by unfold State.postLevels; split <;> rfl
@[simp] theorem State.postLevels_results (cs : ChanSet) (s : State) : (State.postLevels cs s).results = s.results := by unfold State.postLevels; split <;> rfl
@[simp] theorem State.postLevels_holders (cs : ChanSet) (s : State) : (State.postLevels cs s).holders = s.holders := by unfold State.postLevels; split <;> rfl
@[simp] theorem State.postLevels_sw (cs : ChanSet) (s : State) : (State.postLevels cs s).sw = s.sw := by unfold State.postLevels; split <;> rfl
@[simp] theorem State.postLevels_gapStamps (cs : ChanSet) (s : State) : (State.postLevels cs s).gapStamps = s.gapStamps := by unfold State.postLevels; split <;> rfl
@[simp] theorem State.postLevels_queue (cs : ChanSet) (s : State) : (State.postLevels cs s).queue = s.queue := by unfold State.postLevels; split <;> rfl
@[simp] theorem State.postLevels_lastAdm (cs : ChanSet) (s : State) : (State.postLevels cs s).lastAdm = s.lastAdm := by unfold State.postLevels; split <;> rfl
@[simp] theorem State.postLevels_staggerPast (cs : ChanSet) (s : State) : (State.postLevels cs s).staggerPast = s.staggerPast := by unfold State.postLevels; split <;> rfl
@[simp] theorem State.postLevels_pinTaken (cs : ChanSet) (s : State) : (State.postLevels cs s).pinTaken = s.pinTaken := by unfold State.postLevels; split <;> rfl
@[simp] theorem State.postLevels_faults (cs : ChanSet) (s : State) : (State.postLevels cs s).faults = s.faults := by unfold State.postLevels; split <;> rfl
@[simp] theorem State.postLevels_keys (cs : ChanSet) (s : State) : (State.postLevels cs s).keys = s.keys := by unfold State.postLevels; split <;> rfl
@[simp] theorem State.postLevels_att (cs : ChanSet) (s : State) : (State.postLevels cs s).att = s.att := by unfold State.postLevels; split <;> rfl
@[simp] theorem State.postLevels_link (cs : ChanSet) (s : State) : (State.postLevels cs s).link = s.link := by unfold State.postLevels; split <;> rfl
@[simp] theorem State.postLevels_sup (cs : ChanSet) (s : State) : (State.postLevels cs s).sup = s.sup := by unfold State.postLevels; split <;> rfl
@[simp] theorem State.postLevels_freeCount (cs : ChanSet) (s : State) : (State.postLevels cs s).freeCount = s.freeCount := by unfold State.postLevels; split <;> rfl
@[simp] theorem State.postLevels_pending (cs : ChanSet) (s : State) : (State.postLevels cs s).pending = s.pending := by unfold State.postLevels; split <;> rfl

/-- What one re-resolution request adds to the mail. -/
theorem State.request_mail (cs : ChanSet) (s : State) :
    (s.request cs).mail = if cs = 0 then s.mail else { s.mail with requests := s.mail.requests ++ [cs] } := by
  unfold State.request; split <;> rfl

/-- What one verdict report adds to the mail. -/
theorem State.postVerdicts_mail (vs : List (Chan × Verdict)) (s : State) :
    (s.postVerdicts vs).mail = if vs = [] then s.mail else { s.mail with verdictReports := s.mail.verdictReports ++ [vs] } := by
  unfold State.postVerdicts; split <;> rfl

/-- What one hand-off adds to the mail. -/
theorem State.postHandOff_mail (ts : List (Chan × Level)) (s : State) :
    (s.postHandOff ts).mail = if ts = [] then s.mail else { s.mail with handOffs := s.mail.handOffs ++ [ts] } := by
  unfold State.postHandOff; split <;> rfl

/-- What one applied-level report adds to the mail. -/
theorem State.postLevels_mail (cs : ChanSet) (s : State) :
    (s.postLevels cs).mail = if cs = 0 then s.mail else { s.mail with levelReports := s.mail.levelReports ++ [cs] } := by
  unfold State.postLevels; split <;> rfl

end Sys2Proof.Machine
end

