-- ==== Sys2Proof/Laws/Words.lean ====
section
/-! SUPPORT. Channel sets, tables read bit by bit, and the parameter readers on parameters that are in range. -/

namespace Sys2Proof.Machine

/-! ### Sets -/

/-- A fold of unions, bit by bit. -/
theorem foldl_or_getLsbD {n w : Nat} (l : List (Fin n)) (f : Fin n → BitVec w) (a : BitVec w) (k : Nat) :
    (l.foldl (fun acc i => acc ||| f i) a).getLsbD k = (a.getLsbD k || l.any fun i => (f i).getLsbD k) := by
  induction l generalizing a with
  | nil => simp
  | cons x xs ih => simp [ih, Bool.or_assoc]

/-- A fold that adds the bit of each index that passes a test. -/
theorem foldl_bits_getLsbD {n w : Nat} (l : List (Fin n)) (p : Fin n → Bool) (a : BitVec w) (k : Nat) (hk : k < w) :
    (l.foldl (fun acc i => if p i then acc ||| BitVec.twoPow w i.val else acc) a).getLsbD k =
      (a.getLsbD k || l.any fun i => p i && decide (i.val = k)) := by
  induction l generalizing a with
  | nil => simp
  | cons x xs ih =>
    rw [List.foldl_cons, ih]
    cases h : p x <;> simp [h, Bool.or_assoc, hk, eq_comm]

/-- The set of the channels that satisfy a test holds exactly those channels. -/
theorem chansWhere_getLsbD (p : Chan → Bool) (ch : Chan) : (chansWhere p).getLsbD ch.val = p ch := by
  rw [chansWhere, foldl_bits_getLsbD _ _ _ _ ch.isLt, Bool.eq_iff_iff]
  simp [Fin.val_inj]

/-- The same, in the form simp gives a bit of a word. -/
@[simp] theorem chansWhere_getElem (p : Chan → Bool) (ch : Chan) : (chansWhere p)[ch.val] = p ch := by
  rw [← BitVec.getLsbD_eq_getElem, chansWhere_getLsbD]

/-- The channels of a set, listed. -/
@[simp] theorem mem_chansOf (cs : ChanSet) (ch : Chan) : ch ∈ chansOf cs ↔ cs.getLsbD ch.val = true := by
  simp [chansOf]

/-- Two channel sets with the same channels are equal. -/
theorem chanSet_ext {a b : ChanSet} (h : ∀ ch : Chan, a.getLsbD ch.val = b.getLsbD ch.val) : a = b :=
  BitVec.eq_of_getLsbD_eq fun i hi => h ⟨i, hi⟩

/-- The set of the channels a set holds is that set. -/
theorem chansWhere_self (cs : ChanSet) : (chansWhere fun ch => cs.getLsbD ch.val) = cs :=
  chanSet_ext fun ch => chansWhere_getLsbD _ ch

/-- A channel's bit, read. -/
theorem chan_twoPow_getLsbD (a b : Chan) : (BitVec.twoPow 16 a.val).getLsbD b.val = decide (b = a) := by
  rw [BitVec.getLsbD_twoPow, Bool.eq_iff_iff]
  simp [Fin.ext_iff, eq_comm]

/-- The channels an event concerns, slot by slot (R34). -/
theorem concerned_getLsbD (before after : Vector ProgSlot 96) (k : Nat) :
    (concerned before after).getLsbD k =
      (List.finRange 96).any fun i => (ProgSlot.concern before[i] after[i]).getLsbD k := by
  rw [concerned, foldl_or_getLsbD]
  simp

/-- A slot left as it was names no channel. -/
@[simp] theorem ProgSlot.concern_self (x : ProgSlot) : ProgSlot.concern x x = 0 := by
  unfold ProgSlot.concern
  cases x.activeDef <;> simp

/-- An event on one slot names the channels that slot names. -/
theorem concerned_set (t : Vector ProgSlot 96) (i : ProgIdx) (x : ProgSlot) :
    concerned t (t.set i x) = ProgSlot.concern t[i] x := by
  refine BitVec.eq_of_getLsbD_eq fun k _ => ?_
  rw [concerned_getLsbD, Bool.eq_iff_iff, List.any_eq_true]
  constructor
  · rintro ⟨j, -, hj⟩
    rw [set_getElem] at hj
    split at hj
    · subst_vars
      exact hj
    · simp at hj
  · exact fun h => ⟨i, by simp, by rwa [set_getElem_self]⟩

/-- A live slot contributes its definition exactly while its record is ACTIVE. -/
theorem ProgSlot.activeDef_live {x : ProgSlot} {r : ProgRec} (h : x.live = some r) :
    x.activeDef = match r.state with
      | .active _ => some r.defn
      | _ => none := by
  unfold ProgSlot.activeDef
  rw [h]
  cases hr : r.state <;> simp [hr]

/-- A FREE slot contributes nothing. -/
theorem ProgSlot.activeDef_free {x : ProgSlot} (h : x.live = none) : x.activeDef = none := by
  unfold ProgSlot.activeDef
  rw [h]

/-- The channels that left live records in one operation, slot by slot. -/
theorem leftChannels_getLsbD (before after : Vector OvrSlot 16) (k : Nat) :
    (leftChannels before after).getLsbD k =
      (List.finRange 16).any fun i => (before[i].channels &&& ~~~after[i].channels).getLsbD k := by
  rw [leftChannels, foldl_or_getLsbD]
  simp

/-! ### Readers -/

/-- A number in range is read as its index. -/
theorem asFin_val {n : Nat} (i : Fin n) (k : Nat) : asFin n i.val k = .ok i := by simp [asFin]

/-- A channel byte in range is read as its channel. -/
theorem readChanByte_val {b : Byte} {ch : Chan} (h : b.toNat = ch.val) (k : Nat) : readChanByte b k = .ok ch := by
  rw [readChanByte, h, asFin_val]

/-- A handle in range is read as its slot. -/
theorem readHandle_val {n : Nat} {b : Byte} {i : Fin n} (h : b.toNat = i.val + 1) (k : Nat) :
    readHandle n b k = .ok i := by
  simp [readHandle, h, asFin_val]

/-- A handle and a generation in range are read as a name. -/
theorem readName_val {n : Nat} {h g : Byte} {i : Fin n} {gen : Gen} (hh : h.toNat = i.val + 1)
    (hg : g.toNat = gen.val) : readName n [h, g] = .ok ⟨i, gen⟩ := by
  simp only [readName, readNameBytes, readHandle_val hh, hg, asFin_val]

end Sys2Proof.Machine
end

