-- ==== Sys2Proof/Laws/Ops.lean ====
section
/-! SUPPORT. What each shared operation does, said once: completions, the guard of RUNNING, the mail, the tables' events, the
resolver's event, and transactions. -/

namespace Sys2Proof.Machine

/-! ### Completion (R172) -/

/-- A command that stands in EXECUTING is found by its owner. -/
theorem State.slot_of_holds {s : State} {code : Byte} {ps : List Byte} (h : s.holds code ps) : s.slot code = some ps := by
  obtain ⟨h₁, h₂⟩ := h
  simp [State.slot, h₁, h₂]

/-- Whatever an owner finds stands in EXECUTING, in a RUNNING part. -/
theorem State.holds_of_slot {s : State} {code : Byte} {ps : List Byte} (h : s.slot code = some ps) : s.holds code ps := by
  unfold State.slot at h
  split at h
  · rename_i c h₁ h₂
    split at h
    · rename_i hc
      obtain rfl := Option.some.inj h
      exact ⟨h₁, by rw [h₂, ← hc]⟩
    · cases h
  · cases h

/-- A completion is the owner's answer, put in the response slot. -/
theorem complete_of_holds {s : State} {code : Byte} {ps : List Byte} (owner : List Byte → State → Answer)
    (h : s.holds code ps) : complete code owner s = (owner ps s).respond code := by
  simp only [complete, State.slot_of_holds h]

/-- Where no such command stands in EXECUTING, nothing happens. -/
theorem complete_of_none {s : State} {code : Byte} (owner : List Byte → State → Answer) (h : s.slot code = none) :
    complete code owner s = s := by
  simp only [complete, h]

/-- An answer in the response slot is the state answered. -/
theorem Answer.respond_eq (t : State) (result : ResultCode) (payload : List Byte) (code : Byte) :
    Answer.respond ⟨t, result, payload⟩ code = t.answered code result payload := rfl

/-- A check that passes goes on with what was read. -/
theorem checked_ok {α : Type} {read : Except Nat α} {a : α} (h : read = .ok a) (s : State) (f : α → Answer) :
    checked read s f = f a := by
  rw [h]
  rfl

/-- A check that fails is BAD-PARAMETER with its index. -/
theorem checked_error {α : Type} {read : Except Nat α} {index : Nat} (h : read = .error index) (s : State)
    (f : α → Answer) : checked read s f = ⟨s, .badParameter, [BitVec.ofNat 8 index]⟩ := by
  rw [h]
  rfl

/-- The tail of a completion's proof: what the owner answers, as the next state. -/
theorem next_complete {s t : State} {code : Byte} {ps : List Byte} {owner : List Byte → State → Answer}
    (h : s.holds code ps) (e : (owner ps s).respond code = t) :
    (Host.Outcome.next (complete code owner s) : Host.Outcome State Fault Refusal) = .next t := by
  rw [complete_of_holds owner h, e]

/-! ### The guard of RUNNING -/

/-- An event is taken while the supervisor is RUNNING. -/
theorem whileRunning_running {s : State} (f : State → State) (h : s.sup.state = .running) : whileRunning f s = f s := by
  simp [whileRunning, h]

/-- In any other state it is not. -/
theorem whileRunning_other {s : State} (f : State → State) (h : s.sup.state ≠ .running) : whileRunning f s = s := by
  simp [whileRunning, h]

/-- The tail of an event's proof: what the event leaves, as the next state. -/
theorem next_whileRunning {s t : State} {f : State → State} (h : s.sup.state = .running) (e : f s = t) :
    (Host.Outcome.next (whileRunning f s) : Host.Outcome State Fault Refusal) = .next t := by
  rw [whileRunning_running f h, e]

/-! ### The mail -/

/-- What is taken from a list waited at its place, and the rest stays in its order. -/
theorem waitingAt_eq_some {α : Type} {l rest : List α} {place : Nat} {x : α} :
    waitingAt l place = some (x, rest) ↔ l[place]? = some x ∧ rest = l.eraseIdx place := by
  simp only [waitingAt, Option.map_eq_some_iff, Prod.mk.injEq]
  exact ⟨fun ⟨_, h, rfl, e⟩ => ⟨h, e.symm⟩, fun ⟨h, e⟩ => ⟨x, h, rfl, e.symm⟩⟩

/-- At a place where nothing waits nothing is taken. -/
theorem waitingAt_eq_none {α : Type} {l : List α} {place : Nat} : waitingAt l place = none ↔ l[place]? = none := by
  simp [waitingAt]

/-- At place 0 the oldest waits. -/
@[simp] theorem waitingAt_zero {α : Type} (x : α) (l : List α) : waitingAt (x :: l) 0 = some (x, l) := rfl

/-- A request is handed on for a set that is not empty. -/
theorem State.request_eq (cs : ChanSet) (s : State) :
    s.request cs = { s with mail := { s.mail with requests := s.mail.requests ++ asRequest cs } } := by
  unfold State.request asRequest
  split <;> simp_all

/-- An applied-level report is handed on for a set that is not empty. -/
theorem State.postLevels_eq (cs : ChanSet) (s : State) :
    s.postLevels cs = { s with mail := { s.mail with levelReports := s.mail.levelReports ++ asRequest cs } } := by
  unfold State.postLevels asRequest
  split <;> simp_all

/-- A hand-off that names a channel is handed on. -/
theorem State.postHandOff_eq (ts : List (Chan × Level)) (s : State) :
    s.postHandOff ts = { s with mail := { s.mail with handOffs := s.mail.handOffs ++ (match ts with
      | [] => []
      | ts => [ts]) } } := by
  cases ts <;> simp [State.postHandOff]

/-- A verdict report that names a channel is handed on. -/
theorem State.postVerdicts_eq (vs : List (Chan × Verdict)) (s : State) :
    s.postVerdicts vs = { s with mail := { s.mail with verdictReports := s.mail.verdictReports ++ (match vs with
      | [] => []
      | vs => [vs]) } } := by
  cases vs <;> simp [State.postVerdicts]

/-! ### Events on the tables -/

/-- One slot of the Program Table replaced in an event of its own (R34). -/
theorem State.setProgram_eq (i : ProgIdx) (x : ProgSlot) (s : State) :
    s.setProgram i x = { s with
      ret := { s.ret with programs := s.ret.programs.set i x }
      check := ⟨{ s.ret with programs := s.ret.programs.set i x }⟩
      mail := { s.mail with
        requests := s.mail.requests ++ asRequest (ProgSlot.concern s.ret.programs[i] x) } } := by
  rw [← concerned_set]
  exact State.request_eq _ _

/-- An event that tests and evaluates the whole table (R27, R28, R34, R35). -/
theorem State.evaluateTable_eq (p : Present) (s : State) :
    let t : Vector ProgSlot 96 := tab fun i => s.ret.programs[i].retireOrEvaluate p
    let ret := { s.ret with
      programs := t, epoch := s.ret.epoch + BitVec.ofNat 16 (retiringCount p s.ret.programs) }
    s.evaluateTable p = { s with
      ret := ret
      check := ⟨ret⟩
      att := { s.att with program := s.att.program ||| retiring p s.ret.programs }
      mail := { s.mail with requests := s.mail.requests ++ asRequest (concerned s.ret.programs t) } } := by
  intro t ret
  simp only [State.evaluateTable, State.setPrograms, State.request_eq]
  rfl

/-- One operation of withdrawals and retirements with its request (R38, R49 to R51, R57). -/
theorem State.endOverrides_eq (t : Vector OvrSlot 16) (s : State) :
    let ret := { s.ret with
      overrides := t, epoch := s.ret.epoch + BitVec.ofNat 16 (changedCount s.ret.overrides t) }
    s.endOverrides t = { s with
      ret := ret
      check := ⟨ret⟩
      att := { s.att with override := s.att.override ||| freedSlots s.ret.overrides t }
      mail := { s.mail with requests := s.mail.requests ++ asRequest (leftChannels s.ret.overrides t) } } := by
  intro ret
  simp only [State.endOverrides, State.request_eq]
  rfl

/-- An event of the resolver: its results and holders, then what it hands on (R89 to R92). -/
theorem State.resolve_eq (sc : Scope) (s : State) :
    s.resolve sc = { s with
      results := resolved s sc
      holders := arbitratedHolders s sc
      att := { s.att with channel := s.att.channel ||| sourceChanges s.results (resolved s sc) }
      mail := { s.mail with
        handOffs := s.mail.handOffs ++ (match handOffOf s.results (resolved s sc) with
          | [] => []
          | ts => [ts])
        verdictReports := s.mail.verdictReports ++ (match verdictReportOf s.results (resolved s sc) with
          | [] => []
          | vs => [vs]) } } := by
  simp only [State.resolve, State.postHandOff_eq, State.postVerdicts_eq]
  rfl

/-- A change of a gate's working state, with its flag and report where the state changed (R67). -/
theorem State.changeGate_eq (g : GateIdx) (w : GateWork) (s : State) :
    s.changeGate g w = { s with
      gates := s.gates.set g w
      att := { s.att with gate :=
        if w.state = s.gates[g].state then s.att.gate else s.att.gate ||| BitVec.twoPow 4 g.val }
      mail := { s.mail with gateReports :=
        if w.state = s.gates[g].state then s.mail.gateReports else s.mail.gateReports ++ [(g, w.state)] } } := by
  by_cases h : w.state = s.gates[g].state
  · simp only [State.changeGate, h, if_true]
    rfl
  · simp only [State.changeGate, h, if_false]
    rfl

/-! ### Transactions -/

/-- While RUNNING, a whole first byte begins a transaction and names it. -/
theorem transact_whole {s : State} (n : Nat) (act : State → State) (h : s.sup.state = .running) :
    transact .whole n act s = act s.beginTransaction := by
  simp [transact, h, State.nameTransaction, State.beginTransaction]

/-- While RUNNING, the fall of CS# begins a transaction. -/
theorem transact_begins {s : State} (n : Nat) (act : State → State) (h : s.sup.state = .running) :
    transact .begins n act s = s.beginTransaction := by
  simp [transact, h]

/-- While RUNNING, the eighth bit of a transaction that has begun names it. -/
theorem transact_taken {s : State} {x : Transaction} (n : Nat) (act : State → State) (h : s.sup.state = .running)
    (hx : s.link.transaction = some x) (hn : x.named = false) : transact .taken n act s = act s := by
  simp [transact, h, State.nameTransaction, hx, hn]

/-- Outside RUNNING no transaction is taken. -/
theorem transact_dark {s : State} (part : FirstByte) (n : Nat) (act : State → State) (h : s.sup.state ≠ .running) :
    transact part n act s = s.deafTransaction (if part = .begins then 0 else n) := by
  cases part <;> simp [transact, h]

/-- With no transaction open, the rise of CS# changes nothing. -/
theorem State.endTransaction_none {s : State} (h : s.link.transaction = none) : s.endTransaction = s := by
  simp [State.endTransaction, h]

/-- The rise of CS# closes the transaction. -/
theorem State.endTransaction_closes (s : State) : s.endTransaction.link.transaction = none := by
  unfold State.endTransaction
  split
  · rename_i t h
    simp only [State.settleSticky]
    split <;> simp_all
  · assumption

/-- The rise of CS# takes nothing else than the link, and no flag but FRAMING. -/
theorem State.endTransaction_frame (s : State) :
    s.endTransaction = { s with
      link := s.endTransaction.link
      att := { s.att with framing := s.endTransaction.att.framing } } := by
  unfold State.endTransaction
  split
  · rename_i t h
    obtain ⟨seen, named, flagged, collected⟩ := t
    cases hs : s.link.state <;> cases collected <;>
      simp [State.discardPartial, State.releaseResponse, State.settleSticky, hs, h, State.setLink, State.flagFraming,
        State.flagError, State.raiseFraming]
  · rfl

end Sys2Proof.Machine
end

