-- ==== Sys2Proof/Laws/Sequencer.lean ====
section
/-! SUPPORT. What the sequencer's operations do to one channel, and when an event of the sequencer is its change alone. -/

namespace Sys2Proof.Machine

/-! ### One channel -/

/-- A channel goes to a switching state as R116 says. -/
theorem State.goTo_eq (ch : Chan) (st : SwState) (s : State) : s.goTo ch st = s.moved ch st := rfl

/-- A timer without a mark, as a proposition (R6). -/
theorem elapsed_iff (now start : RunCount) (len : Nat) : elapsed now start len = true ↔ len ≤ (now - start).toNat :=
  decide_eq_true_iff

/-- A timer with a long-past mark, as a proposition (R99). -/
theorem elapsedOrPast_iff (past : Bool) (now start : RunCount) (len : Nat) :
    elapsedOrPast past now start len = true ↔ past = true ∨ len ≤ (now - start).toNat := by
  rw [elapsedOrPast, Bool.or_eq_true, elapsed_iff]

/-- The min-on timer has elapsed. -/
theorem State.minOnElapsed_iff (s : State) (ch : Chan) : s.minOnElapsed ch = true ↔ s.minOnOver ch :=
  elapsedOrPast_iff _ _ _ _

/-- The min-off timer has elapsed. -/
theorem State.minOffElapsed_iff (s : State) (ch : Chan) : s.minOffElapsed ch = true ↔ s.minOffOver ch :=
  elapsedOrPast_iff _ _ _ _

/-- The stagger timer has elapsed. -/
theorem State.staggerElapsed_iff (s : State) : s.staggerElapsed = true ↔ s.staggerOver := elapsedOrPast_iff _ _ _ _

/-- The group test of R103, as a proposition. -/
theorem State.blockedByGroup_iff (s : State) (ch : Chan) : s.blockedByGroup ch = true ↔ s.busyFor ch := by
  unfold State.blockedByGroup State.busyFor State.chan
  cases s.ret.channels[ch].group with
  | none => simp
  | some g =>
    simp only [State.groupBusy, Bool.or_eq_true, List.any_eq_true, Bool.and_eq_true, decide_eq_true_eq, Bool.not_eq_true',
      Option.some.injEq, exists_eq_left', List.mem_finRange, true_and]
    refine or_congr ⟨?_, ?_⟩ ?_
    · rintro ⟨o, ⟨h₁, h₂⟩, h₃⟩
      exact ⟨o, h₁, of_decide_eq_true h₃, h₂⟩
    · rintro ⟨o, h₁, h₃, h₂⟩
      exact ⟨o, ⟨h₁, h₂⟩, decide_eq_true h₃⟩
    · rw [← Bool.not_eq_true, State.gapElapsed, elapsedOrPast_iff, not_or, Bool.not_eq_true, Nat.not_le]

/-- The Switching Queue with a new entry in its place (R107). -/
theorem placeEntry_eq (q : List QueueEntry) (e : QueueEntry) : placeEntry q e = queueWith q e := by
  unfold placeEntry queueWith
  cases e.queueClass <;> simp

/-- The eligibility tests, one arm at a time (R103). -/
theorem State.testEligible_eq (ch : Chan) (s : State) :
    (s.allOff = true → s.testEligible ch = s.moved ch (.hold .allOff)) ∧
    (s.allOff = false → ¬s.minOffOver ch → s.testEligible ch = s.moved ch (.hold .dwell)) ∧
    (s.allOff = false → s.minOffOver ch → s.busyFor ch → s.testEligible ch = s.moved ch (.hold .group)) ∧
    (s.allOff = false → s.minOffOver ch → ¬s.busyFor ch → s.testEligible ch =
      { s with queue := queueWith s.queue ⟨ch, s.ret.channels[ch].queueClass, s.sw[ch].target⟩ }.moved ch .queued) := by
  rw [← State.minOffElapsed_iff, ← State.blockedByGroup_iff]
  refine ⟨fun a => ?_, fun a b => ?_, fun a b c => ?_, fun a b c => ?_⟩ <;> unfold State.testEligible
  · rw [if_pos a, State.goTo_eq]
  · rw [if_neg (by simp [a]), if_pos (by simpa using b), State.goTo_eq]
  · rw [if_neg (by simp [a]), if_neg (by simp [b]), if_pos c, State.goTo_eq]
  · rw [if_neg (by simp [a]), if_neg (by simp [b]), if_neg c, State.enqueue, State.goTo_eq, placeEntry_eq]
    rfl

/-! ### Events -/

/-- With an empty queue no head is admitted. -/
theorem State.admitDue_nil {s : State} (h : s.queue = []) : s.admitDue = s := by
  simp [State.admitDue, h, State.admitUpTo]

/-- Before the stagger timer has elapsed no head is admitted (R109). -/
theorem State.admitDue_wait {s : State} (h : ¬s.staggerOver) : s.admitDue = s := by
  rw [← State.staggerElapsed_iff] at h
  unfold State.admitDue
  cases hq : s.queue with
  | nil => rfl
  | cons e rest => simp [State.admitUpTo, hq, h]

/-- Nothing changed, nothing to report. -/
@[simp] theorem levelChanges_self (s : State) : levelChanges s s = 0 := by
  refine chanSet_ext fun ch => ?_
  rw [levelChanges, chansWhere_getLsbD]
  simp

/-- A queue left as it was brings no test for admission. -/
theorem admissionTested_of_queue {s t : State} (h : t.queue = s.queue) : admissionTested s t = false := by
  simp only [admissionTested, State.head, h]
  simp only [ne_eq, not_true_eq_false, decide_false, Bool.false_or, List.any_eq_false]
  intro e he
  simp only [Bool.not_eq_true, List.all_eq_false]
  exact ⟨e, he, by simp⟩

/-- An event whose change leaves the queue alone is that change and its report (R115). -/
theorem sequencerEvent_of_queue {s : State} (f : State → State) (h : (f s).queue = s.queue) :
    sequencerEvent f s = (f s).postLevels (levelChanges s (f s)) := by
  simp [sequencerEvent, admissionTested_of_queue h]

/-- An event whose change is none changes nothing. -/
theorem sequencerEvent_still {s : State} (f : State → State) (h : f s = s) : sequencerEvent f s = s := by
  rw [sequencerEvent_of_queue f (by rw [h]), h, levelChanges_self]
  rfl

end Sys2Proof.Machine
end

