-- ==== Sys2Proof/Tests/Slice0.lean ====
section
/-! SUPPORT. Tests. The expected values are the manual's: its worked examples, its tables, and the numbers of its rules. Each
test is one step, or one function, on a small state. After them, for each statement with hypotheses, a witness: concrete
states and operands that meet them, clause by clause. -/

open Sys2Proof Sys2Proof.Machine

namespace Sys2Proof.Tests

/- The tests are checked one after another, so that few threads run at once. -/
set_option Elab.async false

/-! ### Small states -/

/-- A running part with a host command in EXECUTING. -/
def host (code : Byte) (params : List Byte) (s : State) : State :=
  { s with link := { s.link with state := .executing ⟨code, params⟩ } }

/-- A running part with one channel's switching record replaced. -/
def withSw (ch : Chan) (w : Switching) (s : State) : State := s.setSw ch w

/-- A part in another supervisor state. -/
def inSup (st : SupState) (s : State) : State := { s with sup := { s.sup with state := st } }

/-- The next state, where there is one. -/
def after (o : Host.Outcome State Fault Refusal) : State :=
  match o with
  | .next t => t
  | _ => State.reset

/-- A command in EXECUTING is held. -/
theorem host_holds (code : Byte) (params : List Byte) (s : State) (h : s.sup.state = .running) :
    (host code params s).holds code params := ⟨h, rfl⟩

/-! ### WellFormed refuses (00_scope.md; R155, R156, R167) -/

theorem test_wellFormed_vddFall : (Instr.vddFall 4200).wellFormed = false := by decide
theorem test_wellFormed_vddRise : (Instr.vddRise 4399).wellFormed = false := by decide
theorem test_wellFormed_vddBelow : (Instr.vddBelowQualificationThreshold 4400).wellFormed = false := by decide
theorem test_wellFormed_backupFall : (Instr.backupSupplyFall 2000).wellFormed = false := by decide
theorem test_wellFormed_domainLoss : (Instr.backupDomainLoss 1799 1800).wellFormed = false := by decide
theorem test_wellFormed_powerUp : (Instr.backupDomainPowerUp 1799 1799).wellFormed = false := by decide
theorem test_wellFormed_framing : (Instr.framing (.firstByte 0xC3 .whole 0)).wellFormed = false := by decide

/-! ### The wire (R170, R168; the worked example of 10_the_host_link_and_attention.md) -/

/-- READ TIME is sent as 0xC3, 0x01, 0x00, 0x15. -/
theorem test_command_frame : commandFrame 0x01 [] = [0x01, 0x00, 0x15] := by decide +kernel

/-- The NOT-YET frame of the example: echo 0x01, result 14, length 0, check 0xBD. -/
theorem test_not_yet_frame : (Response.mk 0x01 .notYet []).frame = [0x01, 0x0E, 0x00, 0xBD] := by decide +kernel

/-- The good check byte takes the link to EXECUTING. -/
theorem test_command_good : (after (exec (.command [0x01, 0x00, 0x15] .whole) State.reset)).link.state =
    .executing ⟨0x01, []⟩ := by decide +kernel

/-- A check byte that is not good is answered by the link. -/
theorem test_command_bad_check : (after (exec (.command [0x01, 0x00, 0x14] .whole) State.reset)).link.state =
    .ready ⟨0x01, .badCheck, []⟩ := by decide +kernel

/-- With the clock VALID and nothing pending in an enabled category the status byte is 0x82 in IDLE. -/
theorem test_status_idle : State.statusByte { State.reset with ret := { State.reset.ret with clockValid := true } } =
    0x82 := by decide +kernel

/-- And 0x92 in EXECUTING. -/
theorem test_status_executing : State.statusByte
    (host 0x01 [] { State.reset with ret := { State.reset.ret with clockValid := true } }) = 0x92 := by decide +kernel

/-- After a cold start START and CLOCK are pending, ATTN# is released, and CLOCK VALID is clear. -/
theorem test_status_cold : State.reset.statusByte = 0x80 := by decide +kernel

/-- A FETCH in IDLE reads NO-RESPONSE with echo 0x00. -/
theorem test_fetch_idle : ((after (exec (.fetch 3 .whole) State.reset)).link.miso) = [0x80, 0x00, 0x0F, 0x00] := by
  decide +kernel

/-- A second command is refused with OVERRUN. -/
theorem test_overrun : (after (exec (.command [0x01, 0x00, 0x15] .whole) (host 0x01 [] State.reset))).att.overrun = true := by
  decide +kernel

/-- A completion between the status byte and the eighth bit: EXECUTING was shown, and the response is shifted out (R174). -/
theorem test_completion_between :
    let u := after (exec (.fetch 4 .begins) (host 0x51 [] State.reset))
    (after (exec (.fetch 4 .taken) (after (exec .releaseAllOff u)))).link.miso = [0x90, 0x51, 0, 0, 0x4F] := by
  decide +kernel

/-- While the part is not RUNNING every byte reads 0xFF. -/
theorem test_deaf : (after (exec (.status 1 .whole) (inSup .retention State.reset))).link.miso = [0xFF, 0xFF] := by
  decide +kernel

/-! ### Time (R1, R2, R9, R10) -/

/-- 2000 is a leap year: 28 February is followed by the 29th. -/
theorem test_leap_day : (Calendar.mk 2000 2 28 23 59 59 9).advance = ⟨2000, 2, 29, 0, 0, 0, 0⟩ := by decide

/-- 2000-01-01 is a Saturday, and Saturday is 5 from Monday. -/
theorem test_saturday : weekday 2000 1 1 = 5 := by decide

/-- The year rollover makes the clock INVALID. -/
theorem test_rollover : (after (exec .yearRollover { State.reset with
    cal := .last, ret := { State.reset.ret with clockValid := true } })).ret.clockValid = false := by decide +kernel

/-- SET TIME sets the tenth to 0. -/
theorem test_set_time : (after (exec (.setTime false) (host 0x02 [26, 6, 15, 12, 30, 7] State.reset))).cal =
    ⟨2026, 6, 15, 12, 30, 7, 0⟩ := by decide +kernel

/-- Month 13 is BAD-PARAMETER at index 1. -/
theorem test_set_time_month : (after (exec (.setTime false) (host 0x02 [26, 13, 15, 12, 30, 7] State.reset))).link.state =
    .ready ⟨0x02, .badParameter, [1]⟩ := by decide +kernel

/-- A SET TIME taken before the step due with it: the run count takes that step alone (R11). -/
theorem test_set_time_first :
    let t := after (exec .calendarAdvance (after (exec (.setTime true) (host 0x02 [26, 6, 15, 12, 30, 7] State.reset))))
    (t.cal, t.runCount) = (⟨2026, 6, 15, 12, 30, 7, 0⟩, 1) := by decide +kernel

/-! ### Programs (the worked examples of 02_the_program_table.md and 11_command_reference.md) -/

/-- P1 of the examples: Monday to Friday, 18:00 to 23:00, priority 2, level 15, CH0 and CH1. -/
def p1 : ProgDef := ⟨.daily 31 1080 1380, 2, 15, 3, none⟩

/-- Friday 2026-06-19 17:59:59.9 with the clock VALID. -/
def friday : State := { State.reset with
  cal := ⟨2026, 6, 19, 17, 59, 59, 9⟩, ret := { State.reset.ret with clockValid := true } }

/-- The parameters of the example's CREATE PROGRAM. -/
def p1Bytes : List Byte := [0, 0x02, 0x0F, 3, 0, 31, 0x38, 4, 0x64, 5]

/-- The length is 10, and the definition is the example's. -/
theorem test_p1_bytes : readCreateProgram p1Bytes = .ok (false, p1) := by decide +kernel

/-- The completion at 17:59:59.9 answers OK, handle 1, generation 0, state WAITING. -/
theorem test_create_program : (after (exec .createProgram (host 0x10 p1Bytes friday))).link.state =
    .ready ⟨0x10, .ok, [1, 3]⟩ := by decide +kernel

/-- The window is open at 18:00 and closed at 23:00. -/
theorem test_p1_window : (p1.timing.inWindow ⟨2026, 6, 19, 1080⟩, p1.timing.inWindow ⟨2026, 6, 19, 1380⟩) =
    (true, false) := by decide

/-- A window of 22:00 to 06:00 on Friday runs on past midnight, and is closed on Saturday at 06:00. -/
theorem test_night_window : ((Timing.daily 31 1320 360).inWindow ⟨2026, 6, 20, 359⟩,
    (Timing.daily 31 1320 360).inWindow ⟨2026, 6, 20, 360⟩) = (true, false) := by decide

/-- A name of a FREE slot is NO-SUCH-RECORD with the reason NONE. -/
theorem test_read_free : (after (exec .readProgram (host 0x12 [5, 0] State.reset))).link.state =
    .ready ⟨0x12, .noSuchRecord, [0]⟩ := by decide +kernel

/-- An EDIT PROGRAM with handle 0 and kind 3 fails at the handle, which R193 checks first. -/
theorem test_edit_handle_first : readEditProgram [0, 0, 0x30, 0x0F, 3, 0, 31, 0x38, 4, 0x64, 5] = .error 0 := rfl

/-- A minute boundary that finds P1 WAITING at 18:00 makes it ACTIVE with the run count as its stamp. -/
theorem test_boundary : (ProgRec.evaluate ⟨p1, .waiting⟩ ⟨49, ⟨2026, 6, 19, 1080⟩, true, State.reset.gates⟩).state =
    .active 49 := by decide +kernel

/-! ### Gates (R65, R66; the example of R71) -/

/-- The fourth dark sample takes G1 from HIGH to LOW at debounce count 4. -/
theorem test_fourth_sample : (takeSample ⟨true, 64, 192, 4⟩ ⟨.auto, .high, 3, .towardLow, 0, true⟩ 64).state = .low := by
  decide

/-- A sample between the thresholds counts toward LOW in UNKNOWN. -/
theorem test_unknown_band : (takeSample ⟨true, 64, 192, 4⟩ ⟨.auto, .unknown, 2, .towardHigh, 0, true⟩ 100).counter = 1 := by
  decide

/-- A round cut short after its first two conversions leaves G2 without its sample (R63). -/
theorem test_round_cut_short :
    let t := after (exec (.converterRound 1 2 3 4 2) State.reset)
    (t.gates[(1 : GateIdx)].sample, t.gates[(2 : GateIdx)].sampleValid) = (2, false) := by decide +kernel

/-! ### Overrides (03_overrides.md) -/

/-- CREATE OVERRIDE takes O1 at generation 0. -/
theorem test_create_override : (after (exec .createOverride (host 0x20 [0x0F, 1, 0, 15, 0] State.reset))).link.state =
    .ready ⟨0x20, .ok, [1, 0]⟩ := by decide +kernel

/-- A timer restarted at 50,153,000 for 15 minutes expires at 50,162,000. -/
theorem test_expiry : expiryOf 50153000 15 = 50162000 := by decide

/-! ### Loads (the worked example of 07_output_stage_and_load_faults.md) -/

/-- CH9 ON at 15 at run count 30,000,600, with two faults behind it. -/
def fan : State := { withSw 9 ⟨.on, 15, 15, 30000600, false, 0, false, 0, false⟩ State.reset with
  runCount := 30000600, faults := State.reset.faults.set 9 ⟨0, 2, some 30000400, true⟩ }

/-- The third report locks it, above the limit of 2. -/
theorem test_third_fault : ((after (exec (.overcurrentReport 9) fan)).sw[(9 : Chan)].state,
    (after (exec (.overcurrentReport 9) fan)).faults[(9 : Chan)].count) = (.locked, 3) := by decide +kernel

/-- The clean-run timer is found elapsed 600 tenths after the admission, and the count becomes 0. -/
theorem test_clean_run : (after (exec (.cleanRunExpiry 9) { fan with runCount := 30001200 })).faults[(9 : Chan)].count =
    0 := by decide +kernel

/-- After its 5.0 s a FAULTED channel whose min-off has not run goes to HOLD(DWELL). -/
theorem test_retry_holds : (after (exec (.retryTimerExpiry 9) { State.reset with
    runCount := 30000250
    sw := State.reset.sw.set 9 ⟨.faulted, 15, 0, 0, false, 30000200, false, 0, false⟩
    faults := State.reset.faults.set 9 ⟨0, 1, some 30000200, false⟩
    ret := { State.reset.ret with
      channels := State.reset.ret.channels.set 9 ⟨.switch, none, .normal, 0, 0, 20, 0, 2⟩ } })).sw[(9 : Chan)].state = .hold .dwell := by decide +kernel

/-- A channel with a ramp step is admitted at level 1 below a higher target. -/
theorem test_ramp_start : (after (exec .handOff { State.reset with
    runCount := 100
    mail := { Mail.empty with handOffs := [[(0, 9)]] }
    ret := { State.reset.ret with
      channels := State.reset.ret.channels.set 0 ⟨.dimmed, none, .normal, 0, 0, 0, 2, 2⟩ } })).sw[(0 : Chan)].applied = 1 := by decide +kernel

/-- A FIRST entry enters ahead of the NORMAL ones. -/
theorem test_first_entry : (placeEntry [⟨0, .first, 1⟩, ⟨1, .normal, 1⟩] ⟨2, .first, 1⟩).map (·.chan) = [0, 2, 1] := by
  decide

/-! ### Resolution (R93) -/

/-- Of two requests that wait, the later may be taken first. -/
theorem test_requests_either_order :
    (after (exec (.reResolutionRequest 1) { State.reset with mail := { Mail.empty with requests := [1, 2] } })).mail.requests = [1] := by
  decide +kernel

/-! ### Keys (R142, R146) -/

/-- The third disagreeing sample in a row changes the debounced level. -/
theorem test_third_sample : debounce ⟨false, 2, .idle⟩ true = (⟨true, 0, .idle⟩, true) := by decide

/-- The requests of two keys wait apart, and the higher key's may be taken first (R151). -/
theorem test_keys_either_order :
    let s := { State.reset with mail := { Mail.empty with
      keyRequests := (Mail.empty.keyRequests.set 0 [.release 1]).set 7 [.create ⟨.key 7, 9, 1, .latched⟩] } }
    (after (exec (.creationRequest 7) s)).mail.keyRequests[(0 : KeyIdx)] = [.release 1] := by decide +kernel

/-- The hold timer elapses 20 tenths after the press was recognised. -/
theorem test_hold : ((KeyState.pressed 100).heldLong 119, (KeyState.pressed 100).heldLong 120) = (false, true) := by
  decide

/-! ### Supplies and starts (R155 to R163) -/

/-- VDD below 4.2 V ends RUNNING, and 4.2 V does not. -/
theorem test_fall : ((after (exec (.vddFall 4199) State.reset)).sup.state, (after (exec (.vddFall 4200) State.reset)).sup.state) =
    (.retention, .running) := by decide +kernel

/-- FACTORY CLEAR begins STARTING with the cold request set. -/
theorem test_factory_clear : ((after (exec .factoryClear (host 0x5F [] State.reset))).sup.state,
    (after (exec .factoryClear (host 0x5F [] State.reset))).sup.coldRequest) = (.starting, true) := by decide +kernel

/-- A cold start leaves START and CLOCK pending. -/
theorem test_cold_start : (after (exec (.startingEnd false) { State.reset with
    sup := { State.reset.sup with state := .starting, startingFor := 2, coldRequest := true } })).att =
    { Pending.none with start := true, clock := true } := by decide +kernel

/-- The step takes the waiting commands first in, first out. -/
theorem test_step : (after (step { State.reset with pending := [.calendarAdvance, .staggerExpiry] })).pending =
    [.staggerExpiry] := by decide +kernel

/-! ### Witnesses: states -/

/-- A part with one channel record replaced. -/
def withRec (ch : Chan) (r : ChanRec) (s : State) : State := s.setChanRec ch r

/-- A part with one fault record replaced. -/
def withFault (ch : Chan) (f : FaultRec) (s : State) : State := s.setFault ch f

/-- A part with one program slot replaced. -/
def withProg (i : ProgIdx) (x : ProgSlot) (s : State) : State :=
  { s with ret := { s.ret with programs := s.ret.programs.set i x } }

/-- A part with one override slot replaced. -/
def withOvr (i : OvrIdx) (x : OvrSlot) (s : State) : State :=
  { s with ret := { s.ret with overrides := s.ret.overrides.set i x } }

/-- A part with something in the mail. -/
def withMail (m : Mail) (s : State) : State := { s with mail := m }

/-- CH0 ON at 15. -/
def swOn : Switching := ⟨.on, 15, 15, 0, false, 0, false, 0, false⟩

/-- CH0 in a switching state with a target, undriven. -/
def swRest (st : SwState) (target : Level) : Switching := ⟨st, target, 0, 0, false, 0, false, 0, false⟩

/-- A live P1, in a state. -/
def liveP1 (st : ProgState) : ProgSlot := ⟨some ⟨p1, st⟩, 0, .none⟩

/-- A live override of CH0 in a kind. -/
def liveO (k : OvrKind) : OvrSlot := ⟨some ⟨.host, 15, 1, k, 0⟩, 0, .none⟩

/-- One entry waits. -/
def waiting : State := { withSw 0 (swRest .queued 15) State.reset with queue := [⟨0, .normal, 15⟩] }

/-! ### Witnesses: the step and the commands as a whole -/

theorem witness_StepTakesTheFrontCommand :
    { State.reset with pending := [.staggerExpiry] }.pending = .staggerExpiry :: [] ∧ State.reset.pending = [] :=
  ⟨rfl, rfl⟩

theorem witness_EveryCommandCompletes :
    hostCode .readTime = some 0x01 ∧ (0x01 : Byte) ≠ 0x5E ∧ (0x01 : Byte) ≠ 0x5F ∧
      (host 0x01 [] State.reset).holds 0x01 [] := ⟨rfl, by decide, by decide, rfl, rfl⟩

theorem witness_RefusedCommandsChangeNothing :
    (hostCode .readProgram = some 0x12 ∧ (host 0x12 [5, 0] State.reset).holds 0x12 [5, 0] ∧
      exec .readProgram (host 0x12 [5, 0] State.reset) = .next (after (exec .readProgram (host 0x12 [5, 0] State.reset))) ∧
      (after (exec .readProgram (host 0x12 [5, 0] State.reset))).link.state = .ready ⟨0x12, .noSuchRecord, [0]⟩ ∧
      ResultCode.noSuchRecord ≠ .ok) ∧
    (fixedLength .readProgram = some 2 ∧ (host 0x12 [5] State.reset).holds 0x12 [5] ∧ [(5 : Byte)].length ≠ 2) ∧
    (hostCode .editProgram = some 0x11 ∧ (host 0x11 [0, 0, 0x30] State.reset).holds 0x11 [0, 0, 0x30] ∧
      firstFailing (paramChecks [0, 0, 0x30] .editProgram) = some 0 ∧
      firstFailing (paramChecks [1, 16, 0x30] .editProgram) = some 1 ∧
      firstFailing (paramChecks [1, 0, 0x30] .editProgram) = some 2 ∧
      firstFailing (paramChecks [1, 0] .editProgram) = some 2 ∧ firstFailing (paramChecks [5, 0] .readProgram) = none) :=
  ⟨⟨rfl, ⟨rfl, rfl⟩, rfl, by decide +kernel, by decide⟩, ⟨rfl, ⟨rfl, rfl⟩, by decide⟩, rfl, ⟨rfl, rfl⟩, by decide, by decide,
    by decide, by decide, by decide⟩

theorem witness_NothingIsTakenOutsideRunning :
    (inSup .retention State.reset).sup.state ≠ .running ∧ takenWhileRunning .handOff = true ∧
      namesTransaction 0x01 = false := by decide +kernel

theorem witness_TimeHasFewWriters :
    exec .calendarAdvance State.reset = .next (after (exec .calendarAdvance State.reset)) ∧
      (after (exec .calendarAdvance State.reset)).runCount ≠ State.reset.runCount ∧
      (after (exec (.setTime false) (host 0x02 [26, 6, 15, 12, 30, 7] State.reset))).ret.clockValid = true ∧
      (host 0x02 [26, 6, 15, 12, 30, 7] State.reset).ret.clockValid = false :=
  ⟨rfl, by decide +kernel, by decide +kernel, rfl⟩

/-! ### Witnesses: invariants -/

/-- Reset with one step of the time base waiting. -/
def ticking : State := { State.reset with pending := [.calendarAdvance] }

theorem ticking_step : step ticking = .next (after (step ticking)) := rfl

theorem witness_EveryStepKeepsTheCheckValue : ticking.CheckFollows ∧ step ticking = .next (after (step ticking)) :=
  ⟨fun _ => rfl, rfl⟩

theorem witness_EveryStepKeepsTheCalendarInRange :
    ticking.CalendarInRange ∧ step ticking = .next (after (step ticking)) := ⟨fun _ => by decide, rfl⟩

/-- Every override slot of `ticking` is FREE. -/
theorem ticking_free : ∀ i : OvrIdx, ticking.ret.overrides[i] = .cold := fun i => tabConst_getElem 16 _ i

/-- `ticking` meets the invariant of the Override Table. -/
theorem ticking_apart : ticking.OverridesApart where
  apart i j _ := by rw [ticking_free, ticking_free]; rfl
  nonempty i r h := by rw [ticking_free] at h; cases h
  bindings k b h := by rw [show ticking.ret.bindings[k] = none from tabConst_getElem 8 _ k] at h; cases h
  waiting k c h := by rw [show ticking.mail.keyRequests[k] = [] from tabConst_getElem 8 _ k] at h; cases h

theorem witness_EveryStepKeepsTheOverridesApart :
    ticking.OverridesSound ∧ step ticking = .next (after (step ticking)) := ⟨fun _ => ticking_apart, rfl⟩

/-- CH0 holds group A with a claim. -/
def holder : State := { withRec 0 ⟨.switch, some .A, .normal, 9, 0, 0, 0, 2⟩ ticking with
  results := State.reset.results.set 0 ⟨.fallback, .fallback, 9, ⟨.fallback, 9⟩, 9, false⟩
  holders := State.reset.holders.set 0 (some 0) }

/-- A channel of `holder` is settled, by the decision of R87. -/
theorem holder_settled : ∀ ch : Chan, holder.settled ch := by
  have h : ∀ ch : Chan, settleTarget holder holder.holders ch holder.results[ch] = holder.results[ch] := by
    decide +kernel
  intro ch
  have e := h ch
  unfold settleTarget at e
  unfold State.settled
  split <;> rename_i hg <;> rw [hg] at e
  · rw [← e]
    exact ⟨rfl, rfl⟩
  · dsimp only at e
    split <;> rename_i hh
    · rw [if_pos hh] at e
      rw [← e]
      exact ⟨rfl, rfl⟩
    · rw [if_neg hh] at e
      rw [← e]
      exact ⟨rfl, by simp⟩

theorem witness_EveryStepKeepsTheTargetsSettled :
    holder.TargetsSettled ∧ step holder = .next (after (step holder)) ∧ holder.sup.state = .running ∧
      (holder.chan 0).group = some .A ∧ holder.results[(0 : Chan)].target ≠ 0 :=
  ⟨fun _ => holder_settled, rfl, rfl, by decide +kernel, by decide +kernel⟩

/-- Where every channel rests at OFF and nothing waits, the sequencer's invariant holds. -/
theorem agrees_of_cold {s : State} (hsw : ∀ ch : Chan, s.sw[ch] = .cold) (hq : s.queue = [])
    (hl : ∀ ch : Chan, s.ret.locks[ch] = false) (hf : ∀ ch : Chan, s.faults[ch] = .cold)
    (hh : ∀ ts ∈ s.mail.handOffs, (ts.map (·.1)).Nodup) : s.SwitchingAgrees where
  queued ch := by rw [hsw, hq]; simp [Switching.cold]
  once := by rw [hq]; simp
  levels := by rw [hq]; simp
  classes := by rw [hq]; exact .nil
  applied ch := by rw [hsw]; simp [Switching.cold, SwState.driven]
  wishOff ch := by rw [hsw]; simp [Switching.cold]
  wishOn ch := by rw [hsw]; simp [Switching.cold]
  ramp ch := by rw [hsw]; simp [Switching.cold]
  locks ch := by rw [hsw, hl]; simp [Switching.cold]
  counts ch := by rw [hf]; simp [FaultRec.cold]
  allOff _ := ⟨hq, fun ch => by rw [hsw]; rfl⟩
  handOffs := hh

theorem ticking_agrees : ticking.SwitchingAgrees :=
  agrees_of_cold (fun ch => tabConst_getElem 16 _ ch) rfl (fun ch => tabConst_getElem 16 _ ch)
    (fun ch => tabConst_getElem 16 _ ch) (by intro ts h; cases h)

theorem witness_EveryStepKeepsSwitchingSound :
    ticking.SwitchingSound ∧ step ticking = .next (after (step ticking)) := ⟨fun _ => ticking_agrees, rfl⟩

theorem witness_EveryStepKeepsTheGatesSound :
    ticking.GatesSound ∧ step ticking = .next (after (step ticking)) := by
  refine ⟨fun _ g => ?_, rfl⟩
  rw [show ticking.gates[g] = GateWork.cold from tabConst_getElem 4 _ g,
    show ticking.ret.gates[g] = GateConfig.cold from tabConst_getElem 4 _ g]
  constructor <;> simp [GateWork.cold, GateConfig.cold]

/-! ### Witnesses: time -/

theorem witness_TheCalendarCountsEveryTenth :
    (Calendar.mk 2099 12 31 23 59 59 8).inRange = true ∧
      Calendar.mk 2099 12 31 23 59 59 8 ≠ ⟨2099, 12, 31, 23, 59, 59, 9⟩ ∧
      (Calendar.mk 2000 2 29 23 59 59 9).inRange = true := by decide

theorem witness_CalendarAdvanceMovesBothTimeBases :
    State.reset.sup.state ≠ .off ∧ State.reset.stepReplaced = false ∧ { State.reset with stepReplaced := true }.stepReplaced = true ∧ State.reset.cal ≠ ⟨2099, 12, 31, 23, 59, 59, 9⟩ ∧
      (inSup .off State.reset).sup.state = .off ∧
      ({ State.reset with cal := .last }.sup.state ≠ .off ∧ { State.reset with cal := .last }.stepReplaced = false ∧
        { State.reset with cal := .last }.cal = ⟨2099, 12, 31, 23, 59, 59, 9⟩) := by decide +kernel

theorem witness_MinuteBoundaryEvaluatesTheTable :
    let s := withMail { Mail.empty with boundaries := [⟨⟨2026, 6, 19, 1080⟩, true⟩] } friday
    s.sup.state = .running ∧ s.mail.boundaries = ⟨⟨2026, 6, 19, 1080⟩, true⟩ :: [] := ⟨rfl, rfl⟩

theorem witness_YearRolloverInvalidatesTheClock :
    let s := { State.reset with cal := .last }
    (s.sup.state = .running ∧ s.cal = ⟨2099, 12, 31, 23, 59, 59, 9⟩ ∧ s.stepReplaced = false ∧ s.mail.boundaries = []) ∧
      (inSup .starting s).sup.state = .starting ∧ State.reset.cal ≠ ⟨2099, 12, 31, 23, 59, 59, 9⟩ :=
  ⟨⟨rfl, rfl, rfl, rfl⟩, rfl, by decide⟩

theorem witness_SetTimeLoadsTheCalendar :
    let s := host 0x02 [99, 12, 31, 23, 59, 59] State.reset
    let u := withMail { Mail.empty with boundaries := [⟨⟨2026, 6, 19, 1080⟩, true⟩] } s
    s.holds 0x02 [99, 12, 31, 23, 59, 59] ∧ 31 ≤ monthLength (2000 + 99) 12 ∧ s.mail.boundaries = [] ∧
      u.holds 0x02 [99, 12, 31, 23, 59, 59] ∧ u.mail.boundaries ≠ [] ∧
      exec .minuteBoundary u = .next (after (exec .minuteBoundary u)) :=
  ⟨⟨rfl, rfl⟩, by decide, rfl, ⟨rfl, rfl⟩, List.cons_ne_nil _ _, rfl⟩

theorem witness_ReadTimeReportsTheTime :
    (host 0x01 [] State.reset).holds 0x01 [] ∧ (host 0x01 [7] State.reset).holds 0x01 [7] ∧ [(7 : Byte)] ≠ [] :=
  ⟨⟨rfl, rfl⟩, ⟨rfl, rfl⟩, by decide⟩

/-! ### Witnesses: the Program Table -/

theorem witness_EvaluationFollowsTheFourInputs :
    let p : Present := ⟨49, ⟨2026, 6, 19, 1080⟩, true, State.reset.gates⟩
    (ProgRec.mk p1 .disabled).state = .disabled ∧ (ProgRec.mk p1 .waiting).state ≠ .disabled ∧
      ((ProgRec.mk p1 .waiting).evaluate p).state = .active 49 ∧
      ((ProgRec.mk { p1 with condition := some ⟨0, .low⟩ } .waiting).evaluate p).state = .suppressed := by decide +kernel

theorem witness_WindowsOpenAndCloseByKind :
    (1439 ≤ 1439 ∧ 0 ≤ 1439 ∧ 1439 ≠ 0) ∧
      ((Stamp.mk 2000 1 1 0).inRange = true ∧ (Stamp.mk 2099 12 31 1439).inRange = true ∧
        (Stamp.mk 2000 2 29 0).inRange = true) ∧ (2 ≤ 2 ∧ 1 < 2) := by decide

theorem witness_CreateProgramTakesTheLowestFreeSlot :
    let s := host 0x10 p1Bytes friday
    let dated : ProgDef := ⟨.dated ⟨2026, 6, 18, 0⟩ ⟨2026, 6, 19, 1079⟩, 0, 1, 1, none⟩
    let datedBytes : List Byte := [0, 0x10, 0x01, 1, 0, 26, 6, 18, 0, 0, 26, 6, 19, 0x37, 4]
    let full := { s with ret := { s.ret with programs := tabConst 96 (liveP1 .waiting) } }
    (s.holds 0x10 p1Bytes ∧ readCreateProgram p1Bytes = .ok (false, p1) ∧
      ¬(s.ret.clockValid = true ∧ p1.timing.ended s.cal.present = true) ∧
      s.ret.programs[(0 : ProgIdx)].live = none ∧ ∀ j : ProgIdx, j < 0 → s.ret.programs[j].live ≠ none) ∧
    (full.holds 0x10 p1Bytes ∧ ∀ i : ProgIdx, full.ret.programs[i].live ≠ none) ∧
    ((host 0x10 datedBytes friday).holds 0x10 datedBytes ∧ readCreateProgram datedBytes = .ok (false, dated) ∧
      friday.ret.clockValid = true ∧ dated.timing.ended friday.cal.present = true) :=
  ⟨⟨⟨rfl, rfl⟩, by decide +kernel, by decide +kernel, by decide +kernel, fun j h => absurd h (Nat.not_lt_zero j.val)⟩,
    ⟨⟨rfl, rfl⟩, fun i => by
      rw [show (tabConst 96 (liveP1 .waiting))[i] = liveP1 .waiting from tabConst_getElem 96 _ i]
      simp [liveP1]⟩,
    ⟨rfl, rfl⟩, by decide +kernel, rfl, by decide⟩

theorem witness_EditProgramReplacesTheDefinition :
    let ps : List Byte := 1 :: 0 :: p1Bytes.tail
    let past : List Byte := [1, 0, 0x10, 0x01, 1, 0, 26, 6, 18, 0, 0, 26, 6, 19, 0x37, 4]
    let s := host 0x11 ps (withProg 0 (liveP1 .waiting) friday)
    (s.holds 0x11 ps ∧ readEditProgram ps = .ok (⟨0, 0⟩, p1) ∧ s.ret.programs[(0 : ProgIdx)].gen = 0 ∧
      s.ret.programs[(0 : ProgIdx)].live = some ⟨p1, .waiting⟩ ∧
      ¬(s.ret.clockValid = true ∧ p1.timing.ended s.cal.present = true)) ∧
    (host 0x11 past s).holds 0x11 past ∧
      readEditProgram past = .ok (⟨0, 0⟩, ⟨.dated ⟨2026, 6, 18, 0⟩ ⟨2026, 6, 19, 1079⟩, 0, 1, 1, none⟩) :=
  ⟨⟨⟨rfl, rfl⟩, by decide +kernel, by decide +kernel, by decide +kernel, by decide +kernel⟩, ⟨rfl, rfl⟩,
    by decide +kernel⟩

theorem witness_EnableDisableAndDeleteActOnTheRecord :
    let s := withProg 95 (liveP1 .disabled) friday
    let u := withProg 95 (liveP1 (.active 7)) friday
    (96 : Byte).toNat = (95 : ProgIdx).val + 1 ∧ (0 : Byte).toNat = s.ret.programs[(95 : ProgIdx)].gen.val ∧
      s.ret.programs[(95 : ProgIdx)].live = some ⟨p1, .disabled⟩ ∧
      u.ret.programs[(95 : ProgIdx)].live = some ⟨p1, .active 7⟩ ∧ (host 0x13 [96, 0] s).holds 0x13 [96, 0] ∧
      (host 0x14 [96, 0] u).holds 0x14 [96, 0] ∧ (host 0x15 [96, 0] u).holds 0x15 [96, 0] :=
  ⟨by decide, by decide +kernel, by decide +kernel, by decide +kernel, ⟨rfl, rfl⟩, ⟨rfl, rfl⟩, ⟨rfl, rfl⟩⟩

theorem witness_NamesAreJudgedAgainstTheSlot :
    let s := State.reset
    ((host 0x12 [96, 15] s).holds 0x12 [96, 15] ∧ (15 : Byte).toNat ≠ s.ret.programs[(95 : ProgIdx)].gen.val ∧
      (host 0x12 [1, 0] s).holds 0x12 [1, 0] ∧ (0 : Byte).toNat = s.ret.programs[(0 : ProgIdx)].gen.val ∧
      s.ret.programs[(0 : ProgIdx)].live = none) ∧
    ((host 0x11 (1 :: 3 :: p1Bytes.tail) s).holds 0x11 (1 :: 3 :: p1Bytes.tail) ∧
      readEditProgram (1 :: 3 :: p1Bytes.tail) = .ok (⟨0, 3⟩, p1) ∧ (3 : Gen) ≠ s.ret.programs[(0 : ProgIdx)].gen) ∧
    ((host 0x11 (1 :: 0 :: p1Bytes.tail) s).holds 0x11 (1 :: 0 :: p1Bytes.tail) ∧
      readEditProgram (1 :: 0 :: p1Bytes.tail) = .ok (⟨0, 0⟩, p1) ∧ (0 : Gen) = s.ret.programs[(0 : ProgIdx)].gen) ∧
    ((host 0x22 [16, 15] s).holds 0x22 [16, 15] ∧ (15 : Byte).toNat ≠ s.ret.overrides[(15 : OvrIdx)].gen.val ∧
      (host 0x24 [1, 0] s).holds 0x24 [1, 0] ∧ (0 : Byte).toNat = s.ret.overrides[(0 : OvrIdx)].gen.val ∧
      s.ret.overrides[(0 : OvrIdx)].live = none) ∧
    ((host 0x21 [1, 0, 0xA0, 5] s).holds 0x21 [1, 0, 0xA0, 5] ∧ (0xA0 : Byte).toNat + 256 * (5 : Byte).toNat = 1440 ∧
      (host 0x21 [1, 9, 1, 0] s).holds 0x21 [1, 9, 1, 0] ∧ (9 : Byte).toNat ≠ s.ret.overrides[(0 : OvrIdx)].gen.val) :=
  ⟨⟨⟨rfl, rfl⟩, by decide +kernel, ⟨rfl, rfl⟩, by decide +kernel, by decide +kernel⟩,
    ⟨⟨rfl, rfl⟩, by decide +kernel, by decide +kernel⟩, ⟨⟨rfl, rfl⟩, by decide +kernel, by decide +kernel⟩,
    ⟨⟨rfl, rfl⟩, by decide +kernel, ⟨rfl, rfl⟩, by decide +kernel, by decide +kernel⟩,
    ⟨rfl, rfl⟩, by decide, ⟨rfl, rfl⟩, by decide +kernel⟩

theorem witness_ReportsChangeNothing :
    let s := withOvr 15 (liveO .latched) (withProg 95 (liveP1 .waiting) State.reset)
    ((host 0x12 [96, 0] s).holds 0x12 [96, 0] ∧ s.ret.programs[(95 : ProgIdx)].live = some ⟨p1, .waiting⟩ ∧
      (0 : Byte).toNat = s.ret.programs[(95 : ProgIdx)].gen.val) ∧
    ((host 0x16 [96, 1, 0] s).holds 0x16 [96, 1, 0] ∧ (96 : Byte) ≠ 0 ∧ (0 : Byte) ++ (1 : Byte) ≠ s.ret.epoch) ∧
    ((host 0x16 [0, 1, 0] s).holds 0x16 [0, 1, 0] ∧ (host 0x24 [16] s).holds 0x24 [16]) ∧
    ((host 0x24 [16, 0] s).holds 0x24 [16, 0] ∧ (0 : Byte).toNat = s.ret.overrides[(15 : OvrIdx)].gen.val ∧
      s.ret.overrides[(15 : OvrIdx)].live = some ⟨.host, 15, 1, .latched, 0⟩) ∧
    ((host 0x42 [] s).holds 0x42 [] ∧ (host 0x33 [15] s).holds 0x33 [15] ∧ (15 : Byte).toNat = (15 : Chan).val) ∧
    ((host 0x34 [0] s).holds 0x34 [0] ∧ (host 0x3A [] s).holds 0x3A [] ∧ (host 0x49 [8] s).holds 0x49 [8] ∧
      (8 : Byte).toNat = (7 : KeyIdx).val + 1) :=
  ⟨⟨⟨rfl, rfl⟩, by decide +kernel, by decide +kernel⟩, ⟨⟨rfl, rfl⟩, by decide, by decide +kernel⟩,
    ⟨⟨rfl, rfl⟩, rfl, rfl⟩, ⟨⟨rfl, rfl⟩, by decide +kernel, by decide +kernel⟩, ⟨⟨rfl, rfl⟩, ⟨rfl, rfl⟩, rfl⟩,
    ⟨rfl, rfl⟩, ⟨rfl, rfl⟩, ⟨rfl, rfl⟩, rfl⟩

theorem witness_AGateReportEvaluatesItsRecords :
    let s := withMail { Mail.empty with gateReports := [(3, .low)] } State.reset
    s.sup.state = .running ∧ s.mail.gateReports = (3, .low) :: [] := ⟨rfl, rfl⟩

/-! ### Witnesses: the Override Table -/

theorem witness_WithdrawalTakesChannelsOneByOne :
    let r : OvrRec := ⟨.host, 9, 3, .untilNext [(0, ⟨.fallback, 0⟩), (1, ⟨.fallback, 0⟩)], 0⟩
    OvrSlot.cold.live = none ∧ r.channels &&& 4 = 0 ∧ (r.channels &&& 3 ≠ 0 ∧ r.channels &&& ~~~3 = 0) ∧
      (r.channels &&& 1 ≠ 0 ∧ r.channels &&& ~~~1 ≠ 0) := by decide

theorem witness_ACreationTakesItsChannels :
    let c : Creation := ⟨.host, 15, 1, .timed 15⟩
    let ps : List Byte := [0x0F, 1, 0, 15, 0]
    let k := withMail { Mail.empty with keyRequests := Mail.empty.keyRequests.set 7 [.create c] } State.reset
    ((withdrawn State.reset.ret.overrides c.channels .superseded)[(0 : OvrIdx)].live = none ∧
      (host 0x20 ps State.reset).holds 0x20 ps ∧ readCreateOverride ps = .ok c) ∧
    (k.sup.state = .running ∧ k.mail.keyRequests[(7 : KeyIdx)] = .create c :: []) ∧
    (ticking.OverridesApart ∧ (1 : ChanSet) ≠ 0) :=
  ⟨⟨by decide +kernel, ⟨rfl, rfl⟩, by decide +kernel⟩, ⟨rfl, by decide +kernel⟩, ticking_apart, by decide⟩

theorem witness_AReleaseWithdrawsTheNamedChannels :
    let k := withMail { Mail.empty with keyRequests := Mail.empty.keyRequests.set 0 [.release 1] } State.reset
    ((host 0x23 [1, 0] State.reset).holds 0x23 [1, 0] ∧ (0 : Byte) ++ (1 : Byte) = (1 : ChanSet) ∧ (1 : ChanSet) ≠ 0) ∧
    (k.sup.state = .running ∧ k.mail.keyRequests[(0 : KeyIdx)] = .release 1 :: []) :=
  ⟨⟨⟨rfl, rfl⟩, by decide, by decide⟩, rfl, by decide +kernel⟩

theorem witness_OverridesAreCancelledExpiredAndExtended :
    let s := withOvr 0 (liveO (.timed 0 1)) State.reset
    let u := withOvr 0 (liveO .latched) State.reset
    ((host 0x22 [1, 0] s).holds 0x22 [1, 0] ∧ (0 : Byte).toNat = s.ret.overrides[(0 : OvrIdx)].gen.val ∧
      s.ret.overrides[(0 : OvrIdx)].live = some ⟨.host, 15, 1, .timed 0 1, 0⟩) ∧
    (1 * 600 ≤ ({ s with runCount := 600 }.runCount - 0).toNat ∧ ({ s with runCount := 599 }.runCount - 0).toNat < 1 * 600) ∧
    ((host 0x21 [1, 0, 1, 0] s).holds 0x21 [1, 0, 1, 0] ∧ (host 0x21 [1, 0, 1, 0] u).holds 0x21 [1, 0, 1, 0] ∧
      u.ret.overrides[(0 : OvrIdx)].live = some ⟨.host, 15, 1, .latched, 0⟩) :=
  ⟨⟨⟨rfl, rfl⟩, by decide +kernel, by decide +kernel⟩, by decide +kernel, ⟨rfl, rfl⟩, ⟨rfl, rfl⟩, by decide +kernel⟩

theorem witness_AVerdictReportEndsMovedChannels :
    let s := withMail { Mail.empty with verdictReports := [[(0, ⟨.fallback, 3⟩)]] } State.reset
    s.sup.state = .running ∧ s.mail.verdictReports = [(0, ⟨.fallback, 3⟩)] :: [] := ⟨rfl, rfl⟩

theorem witness_SettingsReplaceTheirItem :
    let s := State.reset
    ((host 0x52 [0] s).holds 0x52 [0] ∧ (host 0x52 [1] s).holds 0x52 [1] ∧ (host 0x52 [2] s).holds 0x52 [2]) ∧
    (host 0x53 [0xFF, 3] s).holds 0x53 [0xFF, 3] ∧
    ((host 0x48 [8, 0x3F, 1, 0, 0x30, 0, 0] s).holds 0x48 [8, 0x3F, 1, 0, 0x30, 0, 0] ∧
      readBindKey [8, 0x3F, 1, 0, 0x30, 0, 0] = .ok (7, some ⟨.off, 1, 15, .latched⟩)) ∧
    ((host 0x4A [1] s).holds 0x4A [1] ∧ (1 : Byte).getLsbD 0 = true ∧ s.ret.panelLocked = false ∧
      (host 0x4A [0] s).holds 0x4A [0] ∧ (0 : Byte).getLsbD 0 = false) :=
  ⟨⟨⟨rfl, rfl⟩, ⟨rfl, rfl⟩, rfl, rfl⟩, ⟨rfl, rfl⟩, ⟨⟨rfl, rfl⟩, by decide +kernel⟩, ⟨rfl, rfl⟩, by decide, rfl, ⟨rfl, rfl⟩,
    by decide⟩

/-! ### Witnesses: gates and resolution -/

/-- A gate's working state agrees where each of the eight clauses is seen to hold. -/
theorem agrees_low (c : Nat) (d : Direction) (h : c = 0 ↔ d = .none) (hd : d ≠ .towardLow) :
    (GateWork.mk .auto .low c d 0 true).Agrees true := by
  constructor <;> simp_all

theorem agrees_high (c : Nat) (d : Direction) (h : c = 0 ↔ d = .none) (hd : d ≠ .towardHigh) :
    (GateWork.mk .auto .high c d 0 true).Agrees true := by
  constructor <;> simp_all

theorem agrees_unknown (c : Nat) (d : Direction) (h : c = 0 ↔ d = .none) :
    (GateWork.mk .auto .unknown c d 0 true).Agrees true := by
  constructor <;> simp_all

theorem witness_ConverterRoundsAreCountedWithHysteresis :
    (GateWork.cold.Agrees false ∧ GateWork.cold.state = .disabled) ∧
      (GateWork.mk .auto .low 3 .towardHigh 0 true).Agrees true ∧ (GateWork.mk .auto .high 3 .towardLow 0 true).Agrees true ∧
      (GateWork.mk .auto .unknown 3 .towardLow 0 true).Agrees true ∧ (192 : Byte) ≤ 192 ∧ (191 : Byte) < 192 ∧
      (64 : Byte) ≤ 64 ∧ (64 : Byte) < 65 ∧ 4 ≤ 3 + 1 ∧ State.reset.sup.state = .running :=
  ⟨⟨by constructor <;> simp [GateWork.cold], rfl⟩, agrees_low 3 _ (by simp) (by decide), agrees_high 3 _ (by simp) (by decide),
    agrees_unknown 3 _ (by simp), by decide, by decide, by decide, by decide, by decide, rfl⟩

theorem witness_GateCommandsActOnTheGate :
    let s := State.reset
    let u := s.setGate 3 ⟨.auto, .low, 0, .none, 0, false⟩
    (host 0x40 [3, 0x80, 254, 255, 15] s).holds 0x40 [3, 0x80, 254, 255, 15] ∧
      readConfigureGate [3, 0x80, 254, 255, 15] = .ok (3, ⟨true, 254, 255, 15⟩) ∧
      (host 0x41 [3, 2] s).holds 0x41 [3, 2] ∧ readGateMode [3, 2] = .ok (3, .forcedHigh) ∧
      s.gates[(3 : GateIdx)].state = .disabled ∧ (host 0x41 [3, 2] u).holds 0x41 [3, 2] ∧
      u.gates[(3 : GateIdx)].state ≠ .disabled :=
  ⟨⟨rfl, rfl⟩, by decide +kernel, ⟨rfl, rfl⟩, by decide +kernel, by decide +kernel, ⟨rfl, rfl⟩, by decide +kernel⟩

theorem witness_TheRankingIsATotalOrder : ticking.OverridesApart := ticking_apart

theorem witness_ArbitrationChoosesTheHolder :
    arbitrate holder holder.results .A = some 0 ∧ arbitrate holder holder.results .B = none := by decide +kernel

theorem witness_TheResolverTakesItsEvents :
    let s := withMail { Mail.empty with requests := [1, 2], levelReports := [4, 1] } holder
    (s.sup.state = .running ∧ s.mail.requests[1]? = some 2 ∧ s.mail.levelReports[1]? = some 1 ∧ s.mail.requests = 1 :: 2 :: []) ∧
      (0, 0) ∈ handOffOf holder.results State.reset.results ∧
      (0, ⟨.fallback, 0⟩) ∈ verdictReportOf holder.results State.reset.results :=
  ⟨⟨rfl, rfl, rfl, rfl⟩, by decide +kernel, by decide +kernel⟩

theorem witness_ChannelCommandsReResolve :
    let s := State.reset
    let on := withSw 15 swOn s
    ((host 0x32 [15, 9] s).holds 0x32 [15, 9] ∧ (15 : Byte).toNat = (15 : Chan).val) ∧
    ((host 0x30 [7, 0x88] s).holds 0x30 [7, 0x88] ∧
      readConfigureChannel [7, 0x88] = .ok ⟨7, .dimmed, some .A, .normal⟩ ∧ s.sw[(7 : Chan)].state = .off ∧
      s.ret.channels[(7 : Chan)].group ≠ some .A) ∧
    ((host 0x30 [8, 0] s).holds 0x30 [8, 0] ∧ readConfigureChannel [8, 0] = .ok ⟨8, .switch, none, .normal⟩ ∧
      s.ret.channels[(8 : Chan)].group = none) ∧
    ((host 0x30 [15, 0] on).holds 0x30 [15, 0] ∧ readConfigureChannel [15, 0] = .ok ⟨15, .switch, none, .normal⟩ ∧
      on.sw[(15 : Chan)].state = .on) :=
  ⟨⟨⟨rfl, rfl⟩, rfl⟩, ⟨⟨rfl, rfl⟩, by decide +kernel, by decide +kernel, by decide +kernel⟩,
    ⟨⟨rfl, rfl⟩, by decide +kernel, by decide +kernel⟩, ⟨rfl, rfl⟩, by decide +kernel, by decide +kernel⟩

/-! ### Witnesses: the sequencer -/

/-- A hand-off to CH0 in a switching state. -/
def handing (w : Switching) (l : Level) : State :=
  withMail { Mail.empty with handOffs := [[(0, l)]] } (withSw 0 w State.reset)

theorem handing_driven (w : Switching) (l : Level) (h : w.applied ≠ 0 ↔ w.state.driven = true) :
    (handing w l).sup.state = .running ∧ (handing w l).mail.handOffs = [(0, l)] :: [] ∧
      ((handing w l).sw[(0 : Chan)].applied ≠ 0 ↔ (handing w l).sw[(0 : Chan)].state.driven = true) := by
  refine ⟨rfl, rfl, ?_⟩
  rw [show (handing w l).sw[(0 : Chan)] = w from set_getElem_self _ (0 : Chan) w]
  exact h

theorem witness_AHandOffActsByState :
    (∀ w ∈ [swRest .off 0, swRest (.hold .group) 15, swOn, { swOn with state := .ending, target := 0 },
        { swOn with state := .fading, target := 0 }, swRest .faulted 15, swRest .locked 15],
      ∀ l : Level, (handing w l).sup.state = .running ∧ (handing w l).mail.handOffs = [(0, l)] :: [] ∧
        ((handing w l).sw[(0 : Chan)].applied ≠ 0 ↔ (handing w l).sw[(0 : Chan)].state.driven = true)) ∧
    (waiting.sw[(0 : Chan)].state = .queued ∧ ¬waiting.staggerOver ∧
      (waiting.sw[(0 : Chan)].applied ≠ 0 ↔ waiting.sw[(0 : Chan)].state.driven = true)) ∧
    waiting.queue.head?.map (·.chan) = some 0 ∧ { waiting with staggerPast := true }.staggerOver ∧
      waiting.Waiting waiting.queue ∧ waiting.queue ≠ [] ∧ waiting.sw[(1 : Chan)].state ≠ .queued := by
  refine ⟨fun w hw l => handing_driven w l ?_, ⟨by decide +kernel, ?_, by decide +kernel⟩, rfl, .inl rfl, ⟨by decide, ?_⟩,
    by decide, by decide +kernel⟩
  · revert w
    decide
  · rintro (h | h)
    · exact absurd h (by decide)
    · exact absurd h (by decide +kernel)
  · intro e he
    obtain rfl := List.mem_singleton.mp he
    exact ⟨by decide, by decide +kernel, by decide +kernel⟩

theorem witness_AHandOffIsTakenWhole :
    let s := withMail { Mail.empty with handOffs := [[(0, 15), (1, 0)]] } ticking
    s.sup.state = .running ∧ s.mail.handOffs = [(0, 15), (1, 0)] :: [] ∧
      ([((0 : Chan), (15 : Level)), (1, 0)].map (·.1)).Pairwise (· < ·) ∧ s.SwitchingAgrees :=
  ⟨rfl, rfl, by decide, agrees_of_cold (fun ch => tabConst_getElem 16 _ ch) rfl (fun ch => tabConst_getElem 16 _ ch)
    (fun ch => tabConst_getElem 16 _ ch) (by
      intro ts h
      obtain rfl := List.mem_singleton.mp h
      decide)⟩

theorem witness_TheHeadIsAdmittedByTheStagger :
    (waiting.sup.state = .running ∧ waiting.queue = ⟨0, .normal, 15⟩ :: [] ∧ waiting.sw[(0 : Chan)].state = .queued ∧
      waiting.sw[(0 : Chan)].applied = 0 ∧ (15 : Level) ≠ 0 ∧ waiting.ret.stagger ≠ 0) ∧
    { waiting with runCount := 5 }.staggerOver ∧ { waiting with staggerPast := true }.staggerOver ∧
    { waiting with ret := { waiting.ret with stagger := 0 } }.ret.stagger = 0 ∧ State.reset.queue = [] ∧
    (host 0x39 [255] waiting).holds 0x39 [255] :=
  ⟨⟨rfl, rfl, by decide +kernel, by decide +kernel, by decide, by decide⟩, .inr (by decide +kernel), .inl rfl, rfl, rfl,
    rfl, rfl⟩

theorem witness_WaitsEndAtTheirExpiry :
    let ending := withSw 0 { swOn with state := .ending, target := 0 } State.reset
    let faded := withRec 0 ⟨.dimmed, none, .normal, 0, 0, 0, 1, 2⟩ ending
    let dwell := withSw 0 (swRest (.hold .dwell) 15) State.reset
    let group := withSw 0 (swRest (.hold .group) 15) (withRec 0 ⟨.switch, some .A, .normal, 0, 0, 0, 0, 2⟩ State.reset)
    (ending.sw[(0 : Chan)].state = .ending ∧ ending.minOnOver 0 ∧ ending.sw[(0 : Chan)].applied ≠ 0) ∧
    (faded.sw[(0 : Chan)].state = .ending ∧ faded.minOnOver 0 ∧ faded.ret.channels[(0 : Chan)].kind = .dimmed ∧
      faded.ret.channels[(0 : Chan)].ramp ≠ 0) ∧
    (dwell.sw[(0 : Chan)].state = .hold .dwell ∧ dwell.minOffOver 0 ∧ dwell.sw[(0 : Chan)].applied = 0) ∧
    (group.sw[(0 : Chan)].state = .hold .group ∧ group.ret.channels[(0 : Chan)].group = some .A ∧
      group.ret.gaps[Group.A.idx].toNat ≤ (group.runCount - group.gapStamps[Group.A.idx].stamp).toNat ∧
      (∀ o : Chan, (group.ret.channels[o].group = some .A ∧ group.sw[o].state = .hold .group) → o = 0) ∧
      group.queue = []) :=
  ⟨⟨by decide +kernel, .inr (by decide +kernel), by decide +kernel⟩,
    ⟨by decide +kernel, .inr (by decide +kernel), by decide +kernel, by decide +kernel⟩,
    ⟨by decide +kernel, .inr (by decide +kernel), by decide +kernel⟩,
    by decide +kernel, by decide +kernel, by decide +kernel, by decide +kernel, rfl⟩

theorem witness_RampsMoveOneLevelAStep :
    let r := withRec 0 ⟨.dimmed, none, .normal, 0, 0, 0, 1, 2⟩ { State.reset with runCount := 1 }
    let up := withSw 0 ⟨.on, 15, 1, 0, false, 0, false, 0, true⟩ r
    let down := withSw 0 ⟨.on, 1, 15, 0, false, 0, false, 0, true⟩ r
    let fade := withSw 0 ⟨.fading, 0, 2, 0, false, 0, false, 0, false⟩ r
    let last := withSw 0 ⟨.fading, 0, 1, 0, false, 0, false, 0, false⟩ r
    ∀ s ∈ [up, down, fade, last], s.sup.state = .running ∧ s.sw[(0 : Chan)].applied ≠ 0 ∧
      s.sw[(0 : Chan)].target ≠ s.sw[(0 : Chan)].applied ∧
      s.ret.channels[(0 : Chan)].ramp.val ≤ (s.runCount - s.sw[(0 : Chan)].rampStamp).toNat := by decide +kernel

theorem witness_LongPastMarksStay :
    ({ waiting with staggerPast := true }.staggerPast = true ∧
      (after (exec .staggerExpiry { waiting with staggerPast := true })).staggerPast = false) ∧
    State.reset.sup.state = .running ∧
      2550 ≤ ({ State.reset with runCount := 2550 }.runCount - State.reset.sw[(0 : Chan)].admStamp).toNat ∧
      255 ≤ ({ State.reset with runCount := 255 }.runCount - State.reset.lastAdm).toNat := by decide +kernel

theorem witness_TheAllOffConditionIsEnteredAndReleased :
    let s := withSw 0 swOn State.reset
    let held := withSw 0 (swRest (.hold .allOff) 15) { State.reset with pinTaken := true }
    let latched := { held with pinTaken := false, ret := { State.reset.ret with hostLatch := true } }
    (s.sup.state = .running ∧ s.allOff = false ∧
      (∀ ch : Chan, s.sw[ch].applied ≠ 0 ↔ s.sw[ch].state.driven = true) ∧ (host 0x50 [] s).holds 0x50 []) ∧
    ((false || s.ret.hostLatch) = s.allOff ∧ (host 0x50 [] held).holds 0x50 [] ∧ held.allOff = true ∧
      (host 0x51 [] held).holds 0x51 [] ∧ held.pinTaken = true) ∧
    (held.ret.hostLatch = false ∧ (∀ e ∈ held.queue, held.sw[e.chan].state = .queued) ∧
      held.sw[(0 : Chan)].state = .hold .allOff ∧ (∀ o : Chan, held.sw[o].state = .hold .allOff → o = 0) ∧
      held.queue = [] ∧ held.sw[(0 : Chan)].applied = 0) ∧
    (latched.allOff = true ∧ latched.pinTaken = false ∧ (host 0x51 [] latched).holds 0x51 []) :=
  ⟨⟨rfl, by decide +kernel, by decide +kernel, rfl, rfl⟩,
    ⟨by decide +kernel, ⟨rfl, rfl⟩, by decide +kernel, ⟨rfl, rfl⟩, rfl⟩,
    ⟨rfl, by decide +kernel, by decide +kernel, by decide +kernel, rfl, by decide +kernel⟩,
    by decide +kernel, rfl, rfl, rfl⟩

theorem witness_NewLengthsActInTheirStep :
    let ps : List Byte := [0, 1, 1, 0, 0]
    let c : ChannelTiming := ⟨0, 1, 1, 0, 0⟩
    let s := host 0x31 ps State.reset
    (s.holds 0x31 ps ∧ readChannelTiming ps = .ok c ∧ s.faults[(0 : Chan)].count ≤ c.retry.val + 1 ∧
      s.sw[(0 : Chan)].state = .off ∧ s.sw[(0 : Chan)].ramping = false) ∧
    ((withFault 0 ⟨0, 2, none, false⟩ s).holds 0x31 ps ∧
      c.retry.val + 1 < (withFault 0 ⟨0, 2, none, false⟩ s).faults[(0 : Chan)].count) ∧
    ((withSw 0 { swOn with state := .ending, target := 0 } s).sw[(0 : Chan)].state = .ending ∧
      (withSw 0 (swRest (.hold .dwell) 15) s).sw[(0 : Chan)].state = .hold .dwell ∧
      (withSw 0 ⟨.on, 15, 1, 0, false, 0, false, 0, true⟩ s).sw[(0 : Chan)].ramping = true ∧
      (withSw 0 { swOn with state := .fading, target := 0 } s).sw[(0 : Chan)].state = .fading) ∧
    (let long := withRec 0 ⟨.dimmed, none, .normal, 0, 2, 2, 2, 2⟩ (host 0x31 [0, 1, 1, 1, 0] State.reset)
      let short := withRec 0 ⟨.dimmed, none, .normal, 0, 1, 1, 1, 2⟩ long
      let d : ChannelTiming := ⟨0, 1, 1, 1, 0⟩
      readChannelTiming [0, 1, 1, 1, 0] = .ok d ∧ long.holds 0x31 [0, 1, 1, 1, 0] ∧ short.holds 0x31 [0, 1, 1, 1, 0] ∧
      (d.minOn < long.ret.channels[(0 : Chan)].minOn ∧ d.minOff < long.ret.channels[(0 : Chan)].minOff ∧
        d.ramp < long.ret.channels[(0 : Chan)].ramp) ∧
      (short.ret.channels[(0 : Chan)].minOn ≤ d.minOn ∧ short.ret.channels[(0 : Chan)].minOff ≤ d.minOff ∧
        short.ret.channels[(0 : Chan)].ramp ≤ d.ramp) ∧ d.ramp ≠ 0) ∧
    (let g := host 0x38 [4, 255] State.reset
      let running : State := { host 0x38 [4, 254] State.reset with
        ret := { State.reset.ret with gaps := State.reset.ret.gaps.set Group.D.idx 255 }, runCount := 254 }
      g.holds 0x38 [4, 255] ∧ readConfigureGroup [4, 255] = .ok (.D, 255) ∧ g.ret.gaps[Group.D.idx] ≤ (255 : Byte) ∧
      running.holds 0x38 [4, 254] ∧ readConfigureGroup [4, 254] = .ok (.D, 254) ∧
      (254 : Byte) < running.ret.gaps[Group.D.idx] ∧
      ¬(running.gapStamps[Group.D.idx].past = true ∨
        running.ret.gaps[Group.D.idx].toNat ≤ (running.runCount - running.gapStamps[Group.D.idx].stamp).toNat)) :=
  ⟨⟨⟨rfl, rfl⟩, by decide +kernel, by decide +kernel, by decide +kernel, by decide +kernel⟩,
    ⟨⟨rfl, rfl⟩, by decide +kernel⟩, ⟨by decide +kernel, by decide +kernel, by decide +kernel, by decide +kernel⟩,
    ⟨by decide +kernel, ⟨rfl, rfl⟩, ⟨rfl, rfl⟩, by decide +kernel, by decide +kernel, by decide +kernel⟩,
    ⟨rfl, rfl⟩, by decide +kernel, by decide +kernel, ⟨rfl, rfl⟩, by decide +kernel, by decide +kernel, by decide +kernel⟩

/-- A member that its driven partner keeps in HOLD(GROUP), whose min-off has been lengthened since, stays there when CONFIGURE
GROUP replaces the gap by the same one: only a gap that the command shortens expires in its step (R99, R105). -/
theorem test_configure_group_keeps_a_blocked_member :
    let member : ChanRec := ⟨.switch, some .A, .normal, 0, 0, 0, 0, 2⟩
    let s := host 0x38 [1, 0] (withRec 1 member (withSw 1 swOn (withRec 0 { member with minOff := 255 }
      (withSw 0 (swRest (.hold .group) 15) State.reset))))
    ((after (exec .configureGroup s)).sw[(0 : Chan)].state = .hold .group ∧
      (after (exec .configureGroup s)).att.channel = s.att.channel) ∧
    (after (exec (.changeoverGapExpiry .A) s)).sw[(0 : Chan)].state = .hold .dwell := by decide +kernel

/-! ### Witnesses: load faults and keys -/

theorem witness_AnOvercurrentFaultsOrLocks :
    fan.sup.state = .running ∧ fan.sw[(9 : Chan)].state.driven = true ∧ fan.sw[(9 : Chan)].applied ≠ 0 ∧
      fan.sw[(0 : Chan)].state.driven = false := by decide +kernel

theorem witness_FaultsAreRetriedAndCleared :
    let s := withFault 9 ⟨0, 1, some 0, false⟩ (withSw 9 (swRest .faulted 15) { State.reset with runCount := 50 })
    let z := withFault 9 ⟨0, 1, some 0, false⟩ (withSw 9 (swRest .faulted 0) { State.reset with runCount := 50 })
    let locked := withSw 9 (swRest .locked 15) State.reset
    (s.sup.state = .running ∧ s.sw[(9 : Chan)].applied = 0 ∧ s.faults[(9 : Chan)].stamp = some 0 ∧
      s.sw[(9 : Chan)].state = .faulted ∧ 50 ≤ (s.runCount - 0).toNat ∧ s.sw[(9 : Chan)].target ≠ 0) ∧
    (z.sw[(9 : Chan)].state = .faulted ∧ z.sw[(9 : Chan)].target = 0) ∧
    ¬(50 ≤ ({ s with runCount := 49 }.runCount - 0).toNat) ∧
    ((host 0x35 [9] locked).holds 0x35 [9] ∧ (9 : Byte).toNat = (9 : Chan).val ∧ locked.sw[(9 : Chan)].state = .locked ∧
      locked.sw[(9 : Chan)].applied = 0 ∧ (host 0x35 [9] s).holds 0x35 [9] ∧ s.sw[(9 : Chan)].state ≠ .locked) :=
  ⟨by decide +kernel, by decide +kernel, by decide +kernel, ⟨rfl, rfl⟩, rfl, by decide +kernel, by decide +kernel, ⟨rfl, rfl⟩,
    by decide +kernel⟩

theorem witness_KeysAreDebouncedAndAct :
    let s := { State.reset with runCount := 20, keys := State.reset.keys.set 0 ⟨true, 0, .pressed 0⟩ }
    s.sup.state = .running ∧ s.keys[(0 : KeyIdx)].state = .pressed 0 ∧ 20 ≤ (s.runCount - 0).toNat ∧
      ({ s with runCount := 19 }.runCount - 0).toNat < 20 := by decide +kernel

/-! ### Witnesses: supplies, starts and the link -/

theorem witness_LeavingRunningStopsThePart :
    (State.reset.sup.state = .running ∧ (4199 : Nat) < 4200 ∧ 1800 ≤ max 4199 State.reset.sup.vbat) ∧
    ((host 0x5E [] State.reset).holds 0x5E [] ∧ (host 0x5E [1] State.reset).holds 0x5E [1] ∧
      (host 0x5F [] State.reset).holds 0x5F [] ∧ (host 0x5F [1] State.reset).holds 0x5F [1]) ∧
    ((inSup .retention State.reset).sup.state ≠ .running ∧ State.reset.ret.channels[(0 : Chan)].kind = .switch ∧
      (withRec 7 ⟨.dimmed, none, .normal, 0, 0, 0, 0, 2⟩ State.reset).ret.channels[(7 : Chan)].kind = .dimmed) :=
  ⟨by decide +kernel, ⟨⟨rfl, rfl⟩, ⟨rfl, rfl⟩, ⟨rfl, rfl⟩, rfl, rfl⟩, by decide +kernel⟩

theorem witness_RetentionJudgesTheSupplies :
    let s := inSup .retention State.reset
    let q := { s with sup := { s.sup with qualifying := true } }
    (s.sup.state = .retention ∧ 1800 ≤ max 0 s.sup.vbat) ∧ (q.sup.state = .retention ∧ q.sup.qualifying = true) ∧
    State.reset.sup.state ≠ .retention ∧ 1800 ≤ max s.sup.vdd 0 ∧ 4200 ≤ State.reset.sup.vdd ∧
    (s.sup.state ≠ .off ∧ (1799 : Nat) < 1800) ∧ (inSup .off State.reset).sup.state = .off := by decide +kernel

/-- A start that has lasted 200 ms. -/
def starting : State := { State.reset with sup := { State.reset.sup with state := .starting, startingFor := 2 } }

theorem witness_AColdStartTakesTheColdValues :
    let s := { starting with sup := { starting.sup with coldRequest := true } }
    let bad := { starting with check := ⟨{ starting.ret with stagger := 6 }⟩ }
    (s.sup.state = .starting ∧ 2 ≤ s.sup.startingFor ∧ s.sup.coldRequest = true) ∧
    (bad.sup.state = .starting ∧ 2 ≤ bad.sup.startingFor ∧ bad.sup.backupLost = false ∧ bad.sup.coldRequest = false ∧
      bad.check.store.stagger ≠ bad.ret.stagger) ∧
    State.reset.sup.state ≠ .starting ∧ { s with sup := { s.sup with startingFor := 1 } }.sup.startingFor < 2 := by
  decide +kernel

/-- A start with a live UNTIL-NEXT override of CH0 whose baseline is not the fallback's level. -/
def startingHeld : State :=
  let s := withOvr 0 (liveO (.untilNext [(0, ⟨.fallback, 9⟩)])) starting
  { s with check := ⟨s.ret⟩ }

theorem witness_AWarmStartKeepsTheRetainedItems :
    (startingHeld.sup.state = .starting ∧ 2 ≤ startingHeld.sup.startingFor ∧ startingHeld.sup.backupLost = false ∧
      startingHeld.sup.coldRequest = false ∧ startingHeld.check = ⟨startingHeld.ret⟩) ∧
    startingHeld.ret.overrides[(0 : OvrIdx)].live = some ⟨.host, 15, 1, .untilNext [(0, ⟨.fallback, 9⟩)], 0⟩ ∧
    (after (exec (.startingEnd false) startingHeld)).ret.overrides[(0 : OvrIdx)] = ⟨none, 1, .programChanged⟩ ∧
    (after (exec (.startingEnd false) startingHeld)).mail.requests = [1] :=
  ⟨⟨rfl, by decide, rfl, rfl, rfl⟩, by decide +kernel, by decide +kernel, by decide +kernel⟩

/-- A part in which a transaction has begun. -/
def begun (s : State) : State := after (exec (.status 0 .begins) s)

theorem whole_byte (s : State) (h : s.sup.state = .running) (h' : s.link.transaction = none) :
    s.TakesFirstByte .whole ⟨s.link.stickyError, false, false, false⟩ [s.statusByte] := ⟨h, .inl ⟨rfl, h', rfl, rfl⟩⟩

theorem taken_byte : (begun State.reset).TakesFirstByte .taken ⟨false, false, false, false⟩ [0x80] :=
  ⟨by decide +kernel, .inr ⟨rfl, by decide +kernel, rfl, by decide +kernel⟩⟩

theorem witness_CommandFramesAreJudged :
    (State.reset.TakesFirstByte .whole ⟨false, false, false, false⟩ [State.reset.statusByte] ∧
      (begun State.reset).TakesFirstByte .taken ⟨false, false, false, false⟩ [0x80]) ∧ State.reset.link.state = .idle ∧
      40 < (41 : Byte).toNat ∧ (40 : Byte).toNat ≤ 40 ∧
      (0x15 : Byte) = crc8 (0x01 :: 0x00 :: []) ∧ (0x14 : Byte) ≠ crc8 (0x01 :: 0x00 :: []) ∧
      hostCode .readTime = some 0x01 ∧ (¬∃ c : Instr, hostCode c = some 0x00) ∧
      (∃ c, (host 0x01 [] State.reset).link.state = .executing c) ∧
      (∃ r, (State.reset.setLink (.ready ⟨1, .ok, []⟩)).link.state = .ready r) :=
  ⟨⟨whole_byte State.reset rfl rfl, taken_byte⟩, rfl, by decide, by decide, by decide +kernel, by decide +kernel, rfl, by
    rintro ⟨c, h⟩
    cases c <;> simp [hostCode] at h, ⟨_, rfl⟩, ⟨_, rfl⟩⟩

theorem witness_StatusAndFetchAnswerTheHost :
    let r := State.reset.setLink (.ready ⟨1, .ok, []⟩)
    let e := host 0x01 [] State.reset
    (r.TakesFirstByte .whole ⟨false, false, false, false⟩ [r.statusByte] ∧ r.link.state = .ready ⟨1, .ok, []⟩) ∧
    (e.TakesFirstByte .whole ⟨false, false, false, false⟩ [e.statusByte] ∧ e.link.state = .executing ⟨1, []⟩) ∧
    ((begun State.reset).TakesFirstByte .taken ⟨false, false, false, false⟩ [0x80] ∧ State.reset.link.state = .idle) ∧
    (e.link.transaction = none ∧ hostCode .readTime = some 0x01 ∧ e.holds 0x01 []) ∧
    { State.reset.link with transaction := some ⟨false, true, false, false⟩ }.transaction = some ⟨false, true, false, false⟩ ∧
    exec .transactionEnd State.reset = .next State.reset ∧ ((1 : Byte) ≠ 0x00 ∧ (1 : Byte) ≠ 0xC3 ∧ (1 : Byte) ≠ 0x3C) ∧
    FirstByte.whole ≠ .taken :=
  ⟨⟨whole_byte _ rfl rfl, rfl⟩, ⟨whole_byte _ rfl rfl, rfl⟩, ⟨taken_byte, rfl⟩, ⟨rfl, rfl, rfl, rfl⟩, rfl, rfl, by decide,
    by decide⟩

theorem witness_TheRiseEndsTheTransaction :
    let open' (st : LinkState) (x : Transaction) : State := { State.reset with link := ⟨st, true, some x, []⟩ }
    (open' (.receiving [1]) ⟨false, true, false, false⟩).link.transaction = some ⟨false, true, false, false⟩ ∧
      (open' (.receiving [1]) ⟨false, true, false, false⟩).link.state = .receiving [1] ∧
      (open' (.ready ⟨1, .ok, []⟩) ⟨true, true, false, true⟩).link.state = .ready ⟨1, .ok, []⟩ ∧
      (open' .idle ⟨true, true, true, false⟩).link.state = .idle ∧
      (open' (.executing ⟨1, []⟩) ⟨true, true, false, false⟩).link.state = .executing ⟨1, []⟩ := ⟨rfl, rfl, rfl, rfl, rfl⟩

theorem witness_ReadAttentionClearsWhatItReports :
    (host 0x54 [] State.reset).holds 0x54 [] ∧ (0 : Nat) < 160 ∧ (159 : Nat) < 160 := ⟨⟨rfl, rfl⟩, by decide, by decide⟩

theorem witness_DefinitionsReadBackAsReported :
    readCreateProgram p1Bytes = .ok (false, p1) ∧ readEditProgram (1 :: 0 :: p1Bytes.tail) = .ok (⟨0, 0⟩, p1) ∧ p1.Valid ∧
      (ProgDef.mk (.dated ⟨2000, 1, 1, 0⟩ ⟨2000, 1, 1, 1⟩) 7 15 0x8000 (some ⟨3, .high⟩)).Valid ∧
      (ProgDef.mk (.cycle ⟨2099, 12, 31, 1439⟩ 1440 1439) 0 0 1 (some ⟨0, .low⟩)).Valid ∧
      (96 : Byte).toNat = (95 : ProgIdx).val + 1 ∧ (15 : Byte).toNat = (15 : Gen).val ∧
      firstFailing (paramChecks [0x2F, 1, 0, 0, 0] .createOverride) = none ∧
      firstFailing (paramChecks [15, 0xE0] .configureChannel) = none ∧
      firstFailing (paramChecks [15, 255, 255, 15, 3] .setChannelTiming) = none ∧
      firstFailing (paramChecks [3, 0x80, 254, 255, 15] .configureGate) = none ∧
      firstFailing (paramChecks [3, 2] .setGateMode) = none ∧
      firstFailing (paramChecks [8, 0x4F, 1, 0, 0x10, 0xA0, 5] .bindKey) = none ∧
      firstFailing (paramChecks [8, 0x0F, 0, 0, 0, 0, 0] .bindKey) = none := by
  refine ⟨by decide +kernel, by decide +kernel, ?_, ?_, ?_, by decide, by decide, by decide, by decide, by decide, by decide,
    by decide, by decide, by decide⟩ <;>
    simp only [ProgDef.Valid, p1] <;> decide

end Sys2Proof.Tests
end

section
/-! The time view of the state: what the calendar unit and the supervisor hold. Every operation of the other blocks leaves it
as it is, said once per operation; the statements about the time bases (R1 to R14) go through these lemmas. -/

namespace Sys2Proof.Machine

/-- What the calendar unit and the supervisor hold, with the queue of waiting commands. -/
structure TimeView where
  cal : Calendar
  runCount : RunCount
  stepReplaced : Bool
  clockValid : Bool
  sup : Supervisor
  freeCount : Nat
  pending : List Instr

/-- The time view of a state. -/
def State.timeView (s : State) : TimeView :=
  ⟨s.cal, s.runCount, s.stepReplaced, s.ret.clockValid, s.sup, s.freeCount, s.pending⟩

section Fields

variable {s t : State} (h : t.timeView = s.timeView)
include h

theorem State.cal_of_timeView : t.cal = s.cal := congrArg TimeView.cal h
theorem State.runCount_of_timeView : t.runCount = s.runCount := congrArg TimeView.runCount h
theorem State.clockValid_of_timeView : t.ret.clockValid = s.ret.clockValid := congrArg TimeView.clockValid h
theorem State.sup_of_timeView : t.sup = s.sup := congrArg TimeView.sup h

end Fields

/-! ### Shapes of operations -/

/-- A chain of operations that each leave the time view leaves it. -/
theorem foldl_timeView {α : Type} (f : State → α → State) (hf : ∀ s a, (f s a).timeView = s.timeView) (l : List α)
    (s : State) : (l.foldl f s).timeView = s.timeView := by
  induction l generalizing s with
  | nil => rfl
  | cons a l ih => exact (ih _).trans (hf s a)

theorem ite_timeView {p : Prop} [Decidable p] {a b s : State} (ha : a.timeView = s.timeView)
    (hb : b.timeView = s.timeView) : (if p then a else b).timeView = s.timeView := by
  split <;> assumption

theorem whileRunning_timeView {f : State → State} (hf : ∀ s, (f s).timeView = s.timeView) (s : State) :
    (whileRunning f s).timeView = s.timeView :=
  ite_timeView (hf s) rfl

theorem Answer.respond_timeView (a : Answer) (code : Byte) : (a.respond code).timeView = a.state.timeView := rfl

theorem complete_timeView {code : Byte} {owner : List Byte → State → Answer}
    (hf : ∀ ps s, (owner ps s).state.timeView = s.timeView) (s : State) :
    (complete code owner s).timeView = s.timeView := by
  unfold complete
  split
  · exact hf _ s
  · rfl

theorem checked_timeView {α : Type} {read : Except Nat α} {s : State} {f : α → Answer}
    (hf : ∀ a, (f a).state.timeView = s.timeView) : (checked read s f).state.timeView = s.timeView := by
  unfold checked
  split
  · exact hf _
  · rfl

/-! ### Shared operations -/

theorem State.setRet_timeView {r : Retained} {s : State} (h : r.clockValid = s.ret.clockValid) :
    (s.setRet r).timeView = s.timeView := by
  simp [State.timeView, h]

@[simp] theorem State.setSw_timeView (ch : Chan) (w : Switching) (s : State) : (s.setSw ch w).timeView = s.timeView := rfl
@[simp] theorem State.setFault_timeView (ch : Chan) (f : FaultRec) (s : State) :
    (s.setFault ch f).timeView = s.timeView := rfl
@[simp] theorem State.setGap_timeView (g : Group) (x : GapStamp) (s : State) : (s.setGap g x).timeView = s.timeView := rfl
@[simp] theorem State.setGate_timeView (g : GateIdx) (w : GateWork) (s : State) :
    (s.setGate g w).timeView = s.timeView := rfl
@[simp] theorem State.setKey_timeView (k : KeyIdx) (r : KeyRec) (s : State) : (s.setKey k r).timeView = s.timeView := rfl
@[simp] theorem State.setLink_timeView (st : LinkState) (s : State) : (s.setLink st).timeView = s.timeView := rfl
@[simp] theorem State.setChanRec_timeView (ch : Chan) (r : ChanRec) (s : State) :
    (s.setChanRec ch r).timeView = s.timeView := rfl
@[simp] theorem State.setLock_timeView (ch : Chan) (b : Bool) (s : State) : (s.setLock ch b).timeView = s.timeView := rfl
@[simp] theorem State.advanceEpoch_timeView (n : Nat) (s : State) : (s.advanceEpoch n).timeView = s.timeView := rfl
@[simp] theorem State.raiseChannels_timeView (cs : ChanSet) (s : State) : (s.raiseChannels cs).timeView = s.timeView := rfl
@[simp] theorem State.raiseChannel_timeView (ch : Chan) (s : State) : (s.raiseChannel ch).timeView = s.timeView := rfl
@[simp] theorem State.raiseFault_timeView (ch : Chan) (s : State) : (s.raiseFault ch).timeView = s.timeView := rfl
@[simp] theorem State.raisePrograms_timeView (hs : BitVec 96) (s : State) : (s.raisePrograms hs).timeView = s.timeView := rfl
@[simp] theorem State.raiseOverrides_timeView (os : BitVec 16) (s : State) :
    (s.raiseOverrides os).timeView = s.timeView := rfl
@[simp] theorem State.raiseGate_timeView (g : GateIdx) (s : State) : (s.raiseGate g).timeView = s.timeView := rfl
@[simp] theorem State.raiseClock_timeView (s : State) : s.raiseClock.timeView = s.timeView := rfl
@[simp] theorem State.raiseStart_timeView (s : State) : s.raiseStart.timeView = s.timeView := rfl
@[simp] theorem State.raiseAllOff_timeView (s : State) : s.raiseAllOff.timeView = s.timeView := rfl
@[simp] theorem State.raiseOverrun_timeView (s : State) : s.raiseOverrun.timeView = s.timeView := rfl
@[simp] theorem State.raiseFraming_timeView (s : State) : s.raiseFraming.timeView = s.timeView := rfl
@[simp] theorem State.postBoundary_timeView (b : Boundary) (s : State) : (s.postBoundary b).timeView = s.timeView := rfl
@[simp] theorem State.postGateReport_timeView (g : GateIdx) (st : GateState) (s : State) :
    (s.postGateReport g st).timeView = s.timeView := rfl
@[simp] theorem State.postKeyRequest_timeView (k : KeyIdx) (r : KeyRequest) (s : State) :
    (s.postKeyRequest k r).timeView = s.timeView := rfl
@[simp] theorem State.request_timeView (cs : ChanSet) (s : State) : (s.request cs).timeView = s.timeView :=
  ite_timeView rfl rfl
@[simp] theorem State.postVerdicts_timeView (vs : List (Chan × Verdict)) (s : State) :
    (s.postVerdicts vs).timeView = s.timeView := ite_timeView rfl rfl
@[simp] theorem State.postHandOff_timeView (ts : List (Chan × Level)) (s : State) :
    (s.postHandOff ts).timeView = s.timeView := ite_timeView rfl rfl
@[simp] theorem State.postLevels_timeView (cs : ChanSet) (s : State) : (s.postLevels cs).timeView = s.timeView :=
  ite_timeView rfl rfl

/-! ### Gates -/

@[simp] theorem State.changeGate_timeView (g : GateIdx) (w : GateWork) (s : State) :
    (s.changeGate g w).timeView = s.timeView := ite_timeView rfl rfl

@[simp] theorem State.converterRound_timeView (a0 a1 a2 a3 : Byte) (completed : Fin 5) (s : State) :
    (s.converterRound a0 a1 a2 a3 completed).timeView = s.timeView :=
  foldl_timeView _ (fun _ _ => State.changeGate_timeView ..) _ s

@[simp] theorem State.configureGate_timeView (g : GateIdx) (cfg : GateConfig) (s : State) :
    (s.configureGate g cfg).timeView = s.timeView :=
  (State.changeGate_timeView ..).trans (State.setRet_timeView rfl)

@[simp] theorem State.setGateMode_timeView (g : GateIdx) (m : GateMode) (s : State) :
    (s.setGateMode g m).timeView = s.timeView := State.changeGate_timeView ..

/-! ### The Program Table -/

@[simp] theorem State.setPrograms_timeView (t : Vector ProgSlot 96) (s : State) :
    (s.setPrograms t).timeView = s.timeView :=
  (State.request_timeView ..).trans (State.setRet_timeView rfl)

@[simp] theorem State.setProgram_timeView (i : ProgIdx) (x : ProgSlot) (s : State) :
    (s.setProgram i x).timeView = s.timeView := State.setPrograms_timeView ..

@[simp] theorem State.evaluateTable_timeView (p : Present) (s : State) : (s.evaluateTable p).timeView = s.timeView := by
  simp [State.evaluateTable]

@[simp] theorem State.takeBoundary_timeView (b : Boundary) (s : State) : (s.takeBoundary b).timeView = s.timeView :=
  State.evaluateTable_timeView ..

theorem State.takeOldestBoundary_timeView (s : State) : s.takeOldestBoundary.timeView = s.timeView := by
  unfold State.takeOldestBoundary
  split
  · rfl
  · exact State.takeBoundary_timeView ..

@[simp] theorem State.takeBoundaries_timeView (s : State) : s.takeBoundaries.timeView = s.timeView :=
  foldl_timeView _ (fun s b => State.takeBoundary_timeView b s) _ _

@[simp] theorem State.takeGateReport_timeView (g : GateIdx) (s : State) : (s.takeGateReport g).timeView = s.timeView :=
  State.setPrograms_timeView ..

theorem State.takeOldestGateReport_timeView (s : State) : s.takeOldestGateReport.timeView = s.timeView := by
  unfold State.takeOldestGateReport
  split
  · rfl
  · exact State.takeGateReport_timeView ..

@[simp] theorem State.createProgram_timeView (i : ProgIdx) (d : ProgDef) (disabled : Bool) (s : State) :
    (s.createProgram i d disabled).timeView = s.timeView := State.setProgram_timeView ..

@[simp] theorem State.editProgram_timeView (i : ProgIdx) (r : ProgRec) (d : ProgDef) (s : State) :
    (s.editProgram i r d).timeView = s.timeView := State.setProgram_timeView ..

@[simp] theorem State.enableProgram_timeView (i : ProgIdx) (r : ProgRec) (s : State) :
    (s.enableProgram i r).timeView = s.timeView := ite_timeView (State.setProgram_timeView ..) rfl

@[simp] theorem State.disableProgram_timeView (i : ProgIdx) (r : ProgRec) (s : State) :
    (s.disableProgram i r).timeView = s.timeView := ite_timeView rfl (State.setProgram_timeView ..)

@[simp] theorem State.deleteProgram_timeView (i : ProgIdx) (s : State) : (s.deleteProgram i).timeView = s.timeView :=
  State.setProgram_timeView ..

/-! ### The Override Table -/

@[simp] theorem State.settleOverrides_timeView (t : Vector OvrSlot 16) (s : State) :
    (s.settleOverrides t).timeView = s.timeView := rfl

@[simp] theorem State.endOverrides_timeView (t : Vector OvrSlot 16) (s : State) :
    (s.endOverrides t).timeView = s.timeView := State.request_timeView ..

@[simp] theorem State.releaseChannels_timeView (cs : ChanSet) (s : State) :
    (s.releaseChannels cs).timeView = s.timeView := State.endOverrides_timeView ..

@[simp] theorem State.retireOverride_timeView (i : OvrIdx) (reason : OvrReason) (s : State) :
    (s.retireOverride i reason).timeView = s.timeView := State.endOverrides_timeView ..

theorem State.expireOverride_timeView (i : OvrIdx) (s : State) : (s.expireOverride i).timeView = s.timeView := by
  unfold State.expireOverride
  split
  · exact ite_timeView (State.retireOverride_timeView ..) rfl
  · rfl

@[simp] theorem State.extendOverride_timeView (i : OvrIdx) (r : OvrRec) (minutes : Nat) (s : State) :
    (s.extendOverride i r minutes).timeView = s.timeView := rfl

@[simp] theorem State.placeOverride_timeView (i : OvrIdx) (r : OvrRec) (s : State) :
    (s.placeOverride i r).timeView = s.timeView := rfl

@[simp] theorem State.supersede_timeView (cs : ChanSet) (s : State) : (s.supersede cs).timeView = s.timeView := rfl

@[simp] theorem State.createOverride_timeView (c : Creation) (s : State) : (s.createOverride c).timeView = s.timeView := by
  unfold State.createOverride
  simp only
  split <;> simp

@[simp] theorem State.settleVerdicts_timeView (vs : List (Chan × Verdict)) (s : State) :
    (s.settleVerdicts vs).timeView = s.timeView := State.endOverrides_timeView ..

theorem State.takeOldestVerdicts_timeView (s : State) : s.takeOldestVerdicts.timeView = s.timeView := by
  unfold State.takeOldestVerdicts
  split
  · rfl
  · exact State.settleVerdicts_timeView ..

theorem State.takeOldestCreation_timeView (k : KeyIdx) (s : State) : (s.takeOldestCreation k).timeView = s.timeView := by
  unfold State.takeOldestCreation
  split
  · exact State.createOverride_timeView ..
  all_goals rfl

theorem State.takeOldestRelease_timeView (k : KeyIdx) (s : State) : (s.takeOldestRelease k).timeView = s.timeView := by
  unfold State.takeOldestRelease
  split
  · exact State.releaseChannels_timeView ..
  all_goals rfl

@[simp] theorem State.compareBaselines_timeView (s : State) : s.compareBaselines.timeView = s.timeView := by
  unfold State.compareBaselines
  split <;> simp

@[simp] theorem State.warmPrograms_timeView (s : State) : s.warmPrograms.timeView = s.timeView := rfl

@[simp] theorem State.warmOverrides_timeView (s : State) : s.warmOverrides.timeView = s.timeView := by
  unfold State.warmOverrides
  split <;> rfl

/-! ### The resolver -/

@[simp] theorem State.resolve_timeView (sc : Scope) (s : State) : (s.resolve sc).timeView = s.timeView :=
  (State.raiseChannels_timeView ..).trans ((State.postVerdicts_timeView ..).trans (State.postHandOff_timeView ..))

theorem State.takeRequestAt_timeView (place : Nat) (s : State) : (s.takeRequestAt place).timeView = s.timeView := by
  unfold State.takeRequestAt
  split
  · rfl
  · exact State.resolve_timeView ..

theorem State.takeLevelsAt_timeView (place : Nat) (s : State) : (s.takeLevelsAt place).timeView = s.timeView := by
  unfold State.takeLevelsAt
  split
  · rfl
  · exact State.resolve_timeView ..

@[simp] theorem State.setFallback_timeView (ch : Chan) (l : Level) (s : State) :
    (s.setFallback ch l).timeView = s.timeView := State.resolve_timeView ..

@[simp] theorem State.configureChannel_timeView (ch : Chan) (kind : ChanKind) (group : Option Group) (cls : QueueClass)
    (s : State) : (s.configureChannel ch kind group cls).timeView = s.timeView :=
  ite_timeView rfl (State.resolve_timeView ..)

/-! ### The sequencer -/

@[simp] theorem State.goTo_timeView (ch : Chan) (st : SwState) (s : State) : (s.goTo ch st).timeView = s.timeView :=
  ite_timeView rfl rfl

@[simp] theorem State.apply_timeView (ch : Chan) (l : Level) (s : State) : (s.apply ch l).timeView = s.timeView := rfl
@[simp] theorem State.stopRamp_timeView (ch : Chan) (s : State) : (s.stopRamp ch).timeView = s.timeView := rfl
@[simp] theorem State.beginRampStep_timeView (ch : Chan) (ramping : Bool) (s : State) :
    (s.beginRampStep ch ramping).timeView = s.timeView := rfl

@[simp] theorem State.stampGroup_timeView (ch : Chan) (s : State) : (s.stampGroup ch).timeView = s.timeView := by
  unfold State.stampGroup
  split <;> rfl

@[simp] theorem State.drop_timeView (ch : Chan) (s : State) : (s.drop ch).timeView = s.timeView :=
  State.stampGroup_timeView ..

@[simp] theorem State.switchOff_timeView (ch : Chan) (s : State) : (s.switchOff ch).timeView = s.timeView := by
  simp [State.switchOff]

@[simp] theorem State.endDrive_timeView (ch : Chan) (s : State) : (s.endDrive ch).timeView = s.timeView :=
  ite_timeView (by simp) (by simp)

@[simp] theorem State.headFor_timeView (ch : Chan) (l : Level) (s : State) : (s.headFor ch l).timeView = s.timeView :=
  ite_timeView (ite_timeView rfl (ite_timeView rfl rfl)) rfl

@[simp] theorem State.enqueue_timeView (ch : Chan) (s : State) : (s.enqueue ch).timeView = s.timeView :=
  State.goTo_timeView ..

@[simp] theorem State.dequeue_timeView (ch : Chan) (s : State) : (s.dequeue ch).timeView = s.timeView := rfl
@[simp] theorem State.relevel_timeView (ch : Chan) (l : Level) (s : State) : (s.relevel ch l).timeView = s.timeView := rfl

@[simp] theorem State.admitEntry_timeView (e : QueueEntry) (s : State) : (s.admitEntry e).timeView = s.timeView :=
  State.goTo_timeView ..

@[simp] theorem State.admitUpTo_timeView (n : Nat) (s : State) : (s.admitUpTo n).timeView = s.timeView := by
  induction n generalizing s with
  | zero => rfl
  | succ n ih =>
    unfold State.admitUpTo
    split
    · rfl
    · exact ite_timeView ((ih _).trans (State.admitEntry_timeView ..)) rfl

@[simp] theorem State.admitDue_timeView (s : State) : s.admitDue.timeView = s.timeView := State.admitUpTo_timeView ..

@[simp] theorem State.testEligible_timeView (ch : Chan) (s : State) : (s.testEligible ch).timeView = s.timeView :=
  ite_timeView (by simp) (ite_timeView (by simp) (ite_timeView (by simp) (by simp)))

@[simp] theorem State.retest_timeView (test : State → Chan → Bool) (chs : List Chan) (s : State) :
    (s.retest test chs).timeView = s.timeView :=
  foldl_timeView _ (fun _ _ => ite_timeView (State.testEligible_timeView ..) rfl) _ s

theorem sequencerEvent_timeView {f : State → State} (hf : ∀ s, (f s).timeView = s.timeView) (s : State) :
    (sequencerEvent f s).timeView = s.timeView :=
  (State.postLevels_timeView ..).trans (ite_timeView ((State.admitDue_timeView _).trans (hf s)) (hf s))

@[simp] theorem State.targetZero_timeView (ch : Chan) (s : State) : (s.targetZero ch).timeView = s.timeView := by
  unfold State.targetZero
  cases s.sw[ch].state with
  | hold _ | queued => simp
  | on => exact ite_timeView (by simp) (by simp)
  | off | ending | fading | faulted | locked => rfl

@[simp] theorem State.targetNonZero_timeView (ch : Chan) (l : Level) (s : State) :
    (s.targetNonZero ch l).timeView = s.timeView := by
  unfold State.targetNonZero
  cases s.sw[ch].state with
  | hold _ | faulted | locked => rfl
  | off | queued | on | ending | fading => simp

theorem State.recordTargets_timeView (ts : List (Chan × Level)) (s : State) :
    (s.recordTargets ts).timeView = s.timeView := foldl_timeView _ (fun _ _ => State.setSw_timeView ..) _ s

theorem State.passZero_timeView (ts : List (Chan × Level)) (s : State) : (s.passZero ts).timeView = s.timeView :=
  foldl_timeView _ (fun _ _ => ite_timeView (State.targetZero_timeView ..) rfl) _ s

theorem State.passNonZero_timeView (ts : List (Chan × Level)) (s : State) : (s.passNonZero ts).timeView = s.timeView :=
  foldl_timeView _ (fun _ _ => ite_timeView rfl (State.targetNonZero_timeView ..)) _ s

@[simp] theorem State.takeHandOff_timeView (ts : List (Chan × Level)) (s : State) :
    (s.takeHandOff ts).timeView = s.timeView :=
  sequencerEvent_timeView (fun s => (State.passNonZero_timeView ..).trans
    ((State.passZero_timeView ..).trans (State.recordTargets_timeView ts s))) s

theorem State.takeOldestHandOff_timeView (s : State) : s.takeOldestHandOff.timeView = s.timeView := by
  unfold State.takeOldestHandOff
  split
  · rfl
  · exact State.takeHandOff_timeView ..

@[simp] theorem State.staggerExpiry_timeView (s : State) : s.staggerExpiry.timeView = s.timeView :=
  sequencerEvent_timeView State.admitDue_timeView s

@[simp] theorem State.endMinOn_timeView (ch : Chan) (s : State) : (s.endMinOn ch).timeView = s.timeView :=
  ite_timeView (State.endDrive_timeView ..) rfl

@[simp] theorem State.endMinOff_timeView (ch : Chan) (s : State) : (s.endMinOff ch).timeView = s.timeView :=
  ite_timeView (State.testEligible_timeView ..) rfl

@[simp] theorem State.endGap_timeView (g : Group) (s : State) : (s.endGap g).timeView = s.timeView :=
  ite_timeView (State.retest_timeView ..) rfl

@[simp] theorem State.rampStep_timeView (ch : Chan) (s : State) : (s.rampStep ch).timeView = s.timeView :=
  ite_timeView rfl rfl

@[simp] theorem State.fadeStep_timeView (ch : Chan) (s : State) : (s.fadeStep ch).timeView = s.timeView :=
  ite_timeView (State.switchOff_timeView ..) rfl

@[simp] theorem State.endRampStep_timeView (ch : Chan) (s : State) : (s.endRampStep ch).timeView = s.timeView := by
  refine ite_timeView ?_ rfl
  cases s.sw[ch].state with
  | on => exact ite_timeView (State.rampStep_timeView ..) rfl
  | fading => exact State.fadeStep_timeView ..
  | off | hold _ | queued | ending | faulted | locked => rfl

@[simp] theorem State.completeRamp_timeView (ch : Chan) (s : State) : (s.completeRamp ch).timeView = s.timeView := by
  unfold State.completeRamp
  cases s.sw[ch].state with
  | on => exact ite_timeView rfl rfl
  | fading => exact State.switchOff_timeView ..
  | off | hold _ | queued | ending | faulted | locked => rfl

theorem State.markLongPast_timeView (t : LongPastTimer) (s : State) : (s.markLongPast t).timeView = s.timeView := by
  cases t <;> exact ite_timeView rfl rfl

@[simp] theorem State.setStagger_timeView (interval : Byte) (s : State) :
    (s.setStagger interval).timeView = s.timeView := State.staggerExpiry_timeView _

@[simp] theorem State.configureGroup_timeView (g : Group) (gap : Byte) (s : State) :
    (s.configureGroup g gap).timeView = s.timeView :=
  ite_timeView rfl (sequencerEvent_timeView (State.endGap_timeView g) _)

@[simp] theorem State.retime_timeView (ch : Chan) (old : ChanRec) (s : State) : (s.retime ch old).timeView = s.timeView := by
  have minOn : (if (s.chan ch).minOn < old.minOn then s.endMinOn ch else s).timeView = s.timeView :=
    ite_timeView (State.endMinOn_timeView ..) rfl
  have minOff (u : State) : (if (s.chan ch).minOff < old.minOff then u.endMinOff ch else u).timeView = u.timeView :=
    ite_timeView (State.endMinOff_timeView ..) rfl
  have ramp (u : State) : (if (s.chan ch).ramp = 0 then u.completeRamp ch
      else if (s.chan ch).ramp < old.ramp then u.endRampStep ch else u).timeView = u.timeView :=
    ite_timeView (State.completeRamp_timeView ..) (ite_timeView (State.endRampStep_timeView ..) rfl)
  exact (ramp _).trans ((minOff _).trans minOn)

@[simp] theorem State.setChannelTiming_timeView (ch : Chan) (minOn minOff : Byte) (ramp : Fin 16) (retry : Fin 4)
    (s : State) : (s.setChannelTiming ch minOn minOff ramp retry).timeView = s.timeView :=
  sequencerEvent_timeView (State.retime_timeView ch (s.chan ch)) _

@[simp] theorem State.forceOff_timeView (ch : Chan) (s : State) : (s.forceOff ch).timeView = s.timeView := by
  unfold State.forceOff
  cases s.sw[ch].state with
  | on | ending | fading | queued | hold _ => simp
  | off | faulted | locked => rfl

@[simp] theorem State.enterAllOff_timeView (s : State) : s.enterAllOff.timeView = s.timeView :=
  foldl_timeView _ (fun _ _ => State.forceOff_timeView ..) _ _

@[simp] theorem State.leaveAllOff_timeView (s : State) : s.leaveAllOff.timeView = s.timeView := State.retest_timeView ..

theorem State.allOffInput_timeView {f : State → State} (hf : ∀ s, (f s).timeView = s.timeView) (s : State) :
    (s.allOffInput f).timeView = s.timeView :=
  sequencerEvent_timeView (fun s => ite_timeView (hf s)
    (ite_timeView ((State.enterAllOff_timeView _).trans (hf s)) ((State.leaveAllOff_timeView _).trans (hf s)))) s

theorem State.takePin_timeView (asserted : Bool) (s : State) : (s.takePin asserted).timeView = s.timeView :=
  State.allOffInput_timeView (f := fun s => { s with pinTaken := asserted }) (fun _ => rfl) s

@[simp] theorem State.setLatch_timeView (b : Bool) (s : State) : (s.setLatch b).timeView = s.timeView :=
  State.allOffInput_timeView (f := fun s => s.setRet { s.ret with hostLatch := b }) (fun _ => rfl) s

/-! ### The output stage -/

@[simp] theorem State.restOrLock_timeView (ch : Chan) (s : State) : (s.restOrLock ch).timeView = s.timeView :=
  ite_timeView (State.goTo_timeView ..) (State.goTo_timeView ..)

@[simp] theorem State.handBack_timeView (ch : Chan) (s : State) : (s.handBack ch).timeView = s.timeView :=
  ite_timeView (by simp) (by simp)

theorem State.takeOvercurrent_timeView (ch : Chan) (s : State) : (s.takeOvercurrent ch).timeView = s.timeView :=
  ite_timeView (sequencerEvent_timeView (fun s => by simp) s) rfl

theorem State.retryExpiry_timeView (ch : Chan) (s : State) : (s.retryExpiry ch).timeView = s.timeView :=
  ite_timeView (sequencerEvent_timeView (State.handBack_timeView ch) s) rfl

theorem State.cleanExpiry_timeView (ch : Chan) (s : State) : (s.cleanExpiry ch).timeView = s.timeView :=
  ite_timeView rfl rfl

@[simp] theorem State.clearFault_timeView (ch : Chan) (s : State) : (s.clearFault ch).timeView = s.timeView :=
  ite_timeView (sequencerEvent_timeView (fun s => by simp) _) rfl

/-! ### The key panel -/

@[simp] theorem State.setKeyState_timeView (k : KeyIdx) (st : KeyState) (s : State) :
    (s.setKeyState k st).timeView = s.timeView := rfl

@[simp] theorem State.shortAction_timeView (k : KeyIdx) (s : State) : (s.shortAction k).timeView = s.timeView := by
  unfold State.shortAction
  split <;> rfl

@[simp] theorem State.longAction_timeView (k : KeyIdx) (s : State) : (s.longAction k).timeView = s.timeView := by
  unfold State.longAction
  split <;> rfl

@[simp] theorem State.recognisePress_timeView (k : KeyIdx) (s : State) : (s.recognisePress k).timeView = s.timeView := by
  unfold State.recognisePress
  cases s.keys[k].state with
  | idle => exact ite_timeView rfl rfl
  | pressed _ | long => rfl

@[simp] theorem State.recogniseRelease_timeView (k : KeyIdx) (s : State) :
    (s.recogniseRelease k).timeView = s.timeView := by
  unfold State.recogniseRelease
  cases s.keys[k].state with
  | pressed _ => simp
  | idle | long => rfl

@[simp] theorem State.sampleKey_timeView (k : KeyIdx) (reading : Bool) (s : State) :
    (s.sampleKey k reading).timeView = s.timeView :=
  ite_timeView (ite_timeView (State.recognisePress_timeView ..) (State.recogniseRelease_timeView ..)) rfl

theorem State.keySample_timeView (pressed : BitVec 8) (s : State) : (s.keySample pressed).timeView = s.timeView :=
  foldl_timeView _ (fun _ _ => State.sampleKey_timeView ..) _ s

theorem State.holdExpiry_timeView (k : KeyIdx) (s : State) : (s.holdExpiry k).timeView = s.timeView :=
  ite_timeView (State.longAction_timeView ..) rfl

@[simp] theorem State.bindKey_timeView (k : KeyIdx) (b : Option Binding) (s : State) :
    (s.bindKey k b).timeView = s.timeView := rfl

@[simp] theorem State.setPanelLock_timeView (locked : Bool) (s : State) : (s.setPanelLock locked).timeView = s.timeView :=
  ite_timeView rfl rfl

/-! ### The host link -/

theorem State.endTransaction_timeView (s : State) : s.endTransaction.timeView = s.timeView := by
  rw [State.endTransaction_frame]
  rfl

theorem State.beginTransaction_timeView (s : State) : s.beginTransaction.timeView = s.timeView :=
  State.endTransaction_timeView s

theorem State.riseMidFrame_timeView (s : State) : s.riseMidFrame.timeView = s.timeView := by
  unfold State.riseMidFrame
  cases s.link.state with
  | receiving _ => exact State.endTransaction_timeView s
  | idle | executing _ | ready _ => rfl

theorem State.nameTransaction_timeView {act : State → State} (hf : ∀ s, (act s).timeView = s.timeView) (n : Nat)
    (s : State) : (s.nameTransaction n act).timeView = s.timeView := by
  unfold State.nameTransaction
  split
  · exact ite_timeView rfl (hf s)
  · rfl

theorem transact_timeView {act : State → State} (hf : ∀ s, (act s).timeView = s.timeView) (part : FirstByte) (n : Nat)
    (s : State) : (transact part n act s).timeView = s.timeView := by
  refine ite_timeView ?_ ?_
  · cases part with
    | whole => exact (State.nameTransaction_timeView hf n _).trans (State.beginTransaction_timeView s)
    | begins => exact State.beginTransaction_timeView s
    | taken => exact State.nameTransaction_timeView hf n s
  · cases part <;> rfl

theorem State.receive_timeView (bytes : List Byte) (s : State) : (s.receive bytes).timeView = s.timeView := by
  unfold State.receive
  split
  · rfl
  · rfl
  · refine ite_timeView rfl ?_
    split
    · rfl
    · exact ite_timeView rfl (ite_timeView rfl rfl)

theorem State.nameStatus_timeView (n : Nat) (s : State) : (s.nameStatus n).timeView = s.timeView := rfl
theorem State.nameFetch_timeView (n : Nat) (s : State) : (s.nameFetch n).timeView = s.timeView := rfl
theorem State.nameNone_timeView (n : Nat) (s : State) : (s.nameNone n).timeView = s.timeView := rfl

theorem State.nameCommand_timeView (bytes : List Byte) (s : State) : (s.nameCommand bytes).timeView = s.timeView := by
  unfold State.nameCommand
  simp only
  split
  · exact State.receive_timeView ..
  all_goals rfl

end Sys2Proof.Machine
end

section
/-! The rows that write the time view, and what every row does to it. -/

namespace Sys2Proof.Machine

/-- The rows that may change the calendar, the run count or the clock validity (R5, R7, R9, R10, R156, R163). -/
def writesTime : Instr → Bool
  | .calendarAdvance | .yearRollover | .setTime _ | .startingEnd _ => true
  | c => bringsSupplyLevels c

theorem writesTime_iff {c : Instr} : writesTime c = true ↔
    c = .calendarAdvance ∨ c = .yearRollover ∨ (∃ stepDue, c = .setTime stepDue) ∨ (∃ pin, c = .startingEnd pin) ∨
      bringsSupplyLevels c = true := by
  cases c <;> simp [writesTime, bringsSupplyLevels]

/-- The rows of the supervisor that change its state alone, and leave the time bases (R155, R160). -/
def movesSupervisor : Instr → Bool
  | .rstAssert | .rstRelease | .supplyQualified | .restart | .factoryClear => true
  | _ => false

/-! ### Host commands -/

theorem refuse_timeView (s : State) (result : ResultCode) : (refuse s result).state.timeView = s.timeView := rfl

theorem State.onProgram_timeView {s : State} {f : ProgRec → Answer} (n : Name 96)
    (hf : ∀ r, (f r).state.timeView = s.timeView) : (s.onProgram n f).state.timeView = s.timeView := by
  unfold State.onProgram
  cases s.namedProgram n with
  | stale | free => rfl
  | live r => exact hf r

theorem State.onOverride_timeView {s : State} {f : OvrRec → Answer} (n : Name 16)
    (hf : ∀ r, (f r).state.timeView = s.timeView) : (s.onOverride n f).state.timeView = s.timeView := by
  unfold State.onOverride
  cases s.namedOverride n with
  | stale | free => rfl
  | live r => exact hf r

/-- An answer of two arms leaves the time view where both do. -/
theorem Answer.ite_timeView {p : Prop} [Decidable p] {a b : Answer} {s : State} (ha : a.state.timeView = s.timeView)
    (hb : b.state.timeView = s.timeView) : (if p then a else b).state.timeView = s.timeView := by
  split <;> assumption

theorem ownCreateProgram_timeView (ps : List Byte) (s : State) : (ownCreateProgram ps s).state.timeView = s.timeView := by
  refine checked_timeView fun ⟨disabled, d⟩ => Answer.ite_timeView rfl ?_
  split
  · rfl
  · exact State.createProgram_timeView ..

theorem ownEditProgram_timeView (ps : List Byte) (s : State) : (ownEditProgram ps s).state.timeView = s.timeView :=
  checked_timeView fun _ => State.onProgram_timeView _ fun _ =>
    Answer.ite_timeView rfl (State.editProgram_timeView ..)

theorem ownReadProgram_timeView (ps : List Byte) (s : State) : (ownReadProgram ps s).state.timeView = s.timeView := by
  refine checked_timeView fun n => ?_
  cases s.namedProgram n <;> rfl

theorem ownEnableProgram_timeView (ps : List Byte) (s : State) : (ownEnableProgram ps s).state.timeView = s.timeView :=
  checked_timeView fun _ => State.onProgram_timeView _ fun _ => State.enableProgram_timeView ..

theorem ownDisableProgram_timeView (ps : List Byte) (s : State) : (ownDisableProgram ps s).state.timeView = s.timeView :=
  checked_timeView fun _ => State.onProgram_timeView _ fun _ => State.disableProgram_timeView ..

theorem ownDeleteProgram_timeView (ps : List Byte) (s : State) : (ownDeleteProgram ps s).state.timeView = s.timeView :=
  checked_timeView fun _ => State.onProgram_timeView _ fun _ => State.deleteProgram_timeView ..

theorem ownListPrograms_timeView (ps : List Byte) (s : State) : (ownListPrograms ps s).state.timeView = s.timeView :=
  checked_timeView fun _ => Answer.ite_timeView rfl rfl

theorem ownCreateOverride_timeView (ps : List Byte) (s : State) : (ownCreateOverride ps s).state.timeView = s.timeView :=
  checked_timeView fun _ => State.createOverride_timeView ..

theorem ownExtendOverride_timeView (ps : List Byte) (s : State) :
    (ownExtendOverride ps s).state.timeView = s.timeView := by
  refine checked_timeView fun _ => State.onOverride_timeView _ fun r => ?_
  cases r.kind <;> rfl

theorem ownCancelOverride_timeView (ps : List Byte) (s : State) : (ownCancelOverride ps s).state.timeView = s.timeView :=
  checked_timeView fun _ => State.onOverride_timeView _ fun _ => State.retireOverride_timeView ..

theorem ownReleaseChannels_timeView (ps : List Byte) (s : State) :
    (ownReleaseChannels ps s).state.timeView = s.timeView :=
  checked_timeView fun _ => State.releaseChannels_timeView ..

theorem ownReadOverrides_timeView (ps : List Byte) (s : State) :
    (ownReadOverrides ps s).state.timeView = s.timeView := by
  refine checked_timeView fun q => ?_
  cases q with
  | page first => rfl
  | single n => cases h : s.namedOverride n <;> simp [h, refuse, answerOk]

theorem ownSetGateMode_timeView (ps : List Byte) (s : State) : (ownSetGateMode ps s).state.timeView = s.timeView :=
  checked_timeView fun _ => Answer.ite_timeView rfl (State.setGateMode_timeView ..)

theorem ownConfigureChannel_timeView (ps : List Byte) (s : State) :
    (ownConfigureChannel ps s).state.timeView = s.timeView :=
  checked_timeView fun _ => Answer.ite_timeView (State.configureChannel_timeView ..) rfl

theorem ownSetChannelTiming_timeView (ps : List Byte) (s : State) :
    (ownSetChannelTiming ps s).state.timeView = s.timeView :=
  checked_timeView fun _ => Answer.ite_timeView rfl (State.setChannelTiming_timeView ..)

theorem ownReadAttention_timeView (ps : List Byte) (s : State) : (ownReadAttention ps s).state.timeView = s.timeView :=
  checked_timeView fun _ => rfl

/-! ### The rows -/

/-- The next state of a row whose meaning leaves the time view. -/
theorem next_timeView {f : State → State} {s t : State} (hf : ∀ s, (f s).timeView = s.timeView)
    (h : (Host.Outcome.next (f s) : Host.Outcome State Fault Refusal) = .next t) : t.timeView = s.timeView := by
  rw [← Host.Outcome.next.inj h]
  exact hf s

theorem event_timeView {f : State → State} {s t : State} (hf : ∀ s, (f s).timeView = s.timeView)
    (h : (Host.Outcome.next (whileRunning f s) : Host.Outcome State Fault Refusal) = .next t) : t.timeView = s.timeView :=
  next_timeView (whileRunning_timeView hf) h

theorem completion_timeView {code : Byte} {owner : List Byte → State → Answer} {s t : State}
    (hf : ∀ ps s, (owner ps s).state.timeView = s.timeView)
    (h : (Host.Outcome.next (complete code owner s) : Host.Outcome State Fault Refusal) = .next t) :
    t.timeView = s.timeView :=
  next_timeView (complete_timeView hf) h

/-- Every row but those named leaves the time view as it is. -/
theorem exec_timeView {c : Instr} {s t : State} (hw : writesTime c = false) (hm : movesSupervisor c = false)
    (h : exec c s = .next t) : t.timeView = s.timeView := by
  cases c with
  | calendarAdvance | yearRollover | setTime _ | startingEnd _ | vddFall _ | vddRise _ | backupSupplyFall _
  | backupDomainLoss _ _ | backupDomainPowerUp _ _ | vddBelowQualificationThreshold _ =>
    simp [writesTime, bringsSupplyLevels] at hw
  | rstAssert | rstRelease | supplyQualified | restart | factoryClear => simp [movesSupervisor] at hm
  | readTime | setResumePolicy | readGates | readChannel | explainChannel | readQueue
  | bindKey | readKeyBinding | setAttentionMask =>
    exact completion_timeView (fun _ _ => checked_timeView fun _ => rfl) h
  | minuteBoundary => exact event_timeView State.takeOldestBoundary_timeView h
  | createProgram => exact completion_timeView ownCreateProgram_timeView h
  | editProgram => exact completion_timeView ownEditProgram_timeView h
  | readProgram => exact completion_timeView ownReadProgram_timeView h
  | enableProgram => exact completion_timeView ownEnableProgram_timeView h
  | disableProgram => exact completion_timeView ownDisableProgram_timeView h
  | deleteProgram => exact completion_timeView ownDeleteProgram_timeView h
  | listPrograms => exact completion_timeView ownListPrograms_timeView h
  | reResolutionRequest place => exact event_timeView (State.takeRequestAt_timeView place) h
  | verdictReport => exact event_timeView State.takeOldestVerdicts_timeView h
  | gateChangeReport => exact event_timeView State.takeOldestGateReport_timeView h
  | createOverride => exact completion_timeView ownCreateOverride_timeView h
  | creationRequest k => exact event_timeView (State.takeOldestCreation_timeView k) h
  | extendOverride => exact completion_timeView ownExtendOverride_timeView h
  | cancelOverride => exact completion_timeView ownCancelOverride_timeView h
  | releaseChannels => exact completion_timeView ownReleaseChannels_timeView h
  | release k => exact event_timeView (State.takeOldestRelease_timeView k) h
  | overrideExpiry i => exact event_timeView (State.expireOverride_timeView i) h
  | readOverrides => exact completion_timeView ownReadOverrides_timeView h
  | converterRound a0 a1 a2 a3 n => exact event_timeView (State.converterRound_timeView a0 a1 a2 a3 n) h
  | configureGate => exact completion_timeView (fun _ _ => checked_timeView fun _ => State.configureGate_timeView ..) h
  | setGateMode => exact completion_timeView ownSetGateMode_timeView h
  | configureChannel => exact completion_timeView ownConfigureChannel_timeView h
  | setChannelTiming => exact completion_timeView ownSetChannelTiming_timeView h
  | setFallback => exact completion_timeView (fun _ _ => checked_timeView fun _ => State.setFallback_timeView ..) h
  | configureGroup => exact completion_timeView (fun _ _ => checked_timeView fun _ => State.configureGroup_timeView ..) h
  | appliedLevelReport place => exact event_timeView (State.takeLevelsAt_timeView place) h
  | handOff => exact event_timeView State.takeOldestHandOff_timeView h
  | staggerExpiry => exact event_timeView State.staggerExpiry_timeView h
  | minOnExpiry ch => exact event_timeView (sequencerEvent_timeView (State.endMinOn_timeView ch)) h
  | minOffExpiry ch => exact event_timeView (sequencerEvent_timeView (State.endMinOff_timeView ch)) h
  | changeoverGapExpiry g => exact event_timeView (sequencerEvent_timeView (State.endGap_timeView g)) h
  | rampTimerExpiry ch => exact event_timeView (sequencerEvent_timeView (State.endRampStep_timeView ch)) h
  | longPastMark t => exact event_timeView (State.markLongPast_timeView t) h
  | allOffPinChange asserted => exact event_timeView (State.takePin_timeView asserted) h
  | forceAllOff => exact completion_timeView (fun _ _ => checked_timeView fun _ => State.setLatch_timeView ..) h
  | releaseAllOff => exact completion_timeView (fun _ _ => checked_timeView fun _ => State.setLatch_timeView ..) h
  | setStagger => exact completion_timeView (fun _ _ => checked_timeView fun _ => State.setStagger_timeView ..) h
  | overcurrentReport ch => exact event_timeView (State.takeOvercurrent_timeView ch) h
  | retryTimerExpiry ch => exact event_timeView (State.retryExpiry_timeView ch) h
  | cleanRunExpiry ch => exact event_timeView (State.cleanExpiry_timeView ch) h
  | clearFault => exact completion_timeView (fun _ _ => checked_timeView fun _ => State.clearFault_timeView ..) h
  | keySample pressed => exact event_timeView (State.keySample_timeView pressed) h
  | holdTimerExpiry k => exact event_timeView (State.holdExpiry_timeView k) h
  | setPanelLock => exact completion_timeView (fun _ _ => checked_timeView fun _ => State.setPanelLock_timeView ..) h
  | status n part => exact next_timeView (transact_timeView (State.nameStatus_timeView n) part n) h
  | command bytes part => exact next_timeView (transact_timeView (State.nameCommand_timeView bytes) part _) h
  | fetch n part => exact next_timeView (transact_timeView (State.nameFetch_timeView n) part n) h
  | framing cause =>
    cases cause with
    | firstByte b part n =>
      exact next_timeView (fun s => ite_timeView rfl (transact_timeView (State.nameNone_timeView n) part n s)) h
    | riseMidFrame => exact event_timeView State.riseMidFrame_timeView h
  | transactionEnd => exact event_timeView State.endTransaction_timeView h
  | readAttention => exact completion_timeView ownReadAttention_timeView h

end Sys2Proof.Machine
end

section
/-! The calendar's arithmetic (R1, R2, R9): the number of a day from one month and one year to the next, and the two ways
the advance goes on from contents in range: within the day, or to the first instant of the next day. -/

namespace Sys2Proof.Machine

theorem Calendar.inRange_iff (c : Calendar) : c.inRange = true ↔
    2000 ≤ c.year ∧ c.year ≤ 2099 ∧ 1 ≤ c.month ∧ c.month ≤ 12 ∧ 1 ≤ c.day ∧
      c.day ≤ monthLength c.year c.month ∧ c.hour ≤ 23 ∧ c.minute ≤ 59 ∧ c.second ≤ 59 ∧ c.tenth ≤ 9 := decide_eq_true_iff

theorem monthLength_pos (y m : Nat) : 1 ≤ monthLength y m := by
  unfold monthLength
  split_ifs <;> omega

theorem monthLength_december (y : Nat) : monthLength y 12 = 31 := rfl

/-- The days of the eleven months before December, and so of a year, follow the leap years. -/
theorem daysBeforeMonth_december (y : Nat) : daysBeforeMonth y 12 = if leapYear y then 335 else 334 := by
  cases h : leapYear y <;> simp [daysBeforeMonth, monthLength, h]

theorem daysBeforeYear_succ {y : Nat} (h : 2000 ≤ y) :
    daysBeforeYear (y + 1) = daysBeforeYear y + if leapYear y then 366 else 365 := by
  unfold daysBeforeYear
  by_cases hy : y % 4 = 0
  · simp only [leapYear, hy, beq_self_eq_true, if_true]
    omega
  · simp only [leapYear, beq_eq_false_iff_ne.mpr hy, Bool.false_eq_true, if_false]
    omega

theorem dayNumber_nextDay (y m : Nat) {d : Nat} (h : 1 ≤ d) : dayNumber y m (d + 1) = dayNumber y m d + 1 := by
  unfold dayNumber
  omega

theorem dayNumber_nextMonth (y : Nat) {m : Nat} (h : 1 ≤ m) :
    dayNumber y (m + 1) 1 = dayNumber y m (monthLength y m) + 1 := by
  obtain ⟨k, rfl⟩ := Nat.exists_eq_add_of_le' h
  have := monthLength_pos y (k + 1)
  simp only [dayNumber, daysBeforeMonth]
  omega

theorem dayNumber_nextYear {y : Nat} (h : 2000 ≤ y) : dayNumber (y + 1) 1 1 = dayNumber y 12 31 + 1 := by
  have first : daysBeforeMonth (y + 1) 1 = 0 := rfl
  rw [dayNumber, dayNumber, daysBeforeYear_succ h, daysBeforeMonth_december, first]
  split_ifs <;> omega

/-- The tenths of a second since midnight. -/
def Calendar.tenthOfDay (c : Calendar) : Nat := ((c.hour * 60 + c.minute) * 60 + c.second) * 10 + c.tenth

theorem Calendar.tenths_eq (c : Calendar) : c.tenths = dayNumber c.year c.month c.day * 864000 + c.tenthOfDay := by
  unfold Calendar.tenths Calendar.tenthOfDay
  omega

/-- The advance stays within the day. -/
structure Calendar.SameDay (c d : Calendar) : Prop where
  year : d.year = c.year
  month : d.month = c.month
  day : d.day = c.day
  tenthOfDay : d.tenthOfDay = c.tenthOfDay + 1
  inRange : d.inRange = true

/-- The advance goes from the last tenth of a day to the first of the next. -/
structure Calendar.NextDay (c d : Calendar) : Prop where
  day : dayNumber d.year d.month d.day = dayNumber c.year c.month c.day + 1
  midnight : d.tenthOfDay = 0
  lastTenth : c.tenthOfDay = 863999
  inRange : d.inRange = true

/-- The last instant of the range is followed by the first (R9). -/
theorem Calendar.advance_last : Calendar.last.advance = .cold := rfl

/-- Contents with the date unchanged, one tenth later in the day. -/
theorem Calendar.sameDay_mk {y mo d ho mi se te ho' mi' se' te' : Nat}
    (h : (Calendar.mk y mo d ho mi se te).inRange = true) (hho : ho' ≤ 23) (hmi : mi' ≤ 59) (hse : se' ≤ 59)
    (hte : te' ≤ 9) (later : ((ho' * 60 + mi') * 60 + se') * 10 + te' = ((ho * 60 + mi) * 60 + se) * 10 + te + 1) :
    Calendar.SameDay ⟨y, mo, d, ho, mi, se, te⟩ ⟨y, mo, d, ho', mi', se', te'⟩ := by
  obtain ⟨hy, hy', hm, hm', hd, hd', -⟩ := (Calendar.inRange_iff _).mp h
  exact ⟨rfl, rfl, rfl, later, (Calendar.inRange_iff _).mpr ⟨hy, hy', hm, hm', hd, hd', hho, hmi, hse, hte⟩⟩

/-- The first instant of the next day, from the last of a day. -/
theorem Calendar.nextDay_mk {y mo d ho mi se te y' mo' d' : Nat}
    (lastTenth : ((ho * 60 + mi) * 60 + se) * 10 + te = 863999) (day : dayNumber y' mo' d' = dayNumber y mo d + 1)
    (hy : 2000 ≤ y') (hy' : y' ≤ 2099) (hm : 1 ≤ mo') (hm' : mo' ≤ 12) (hd : 1 ≤ d')
    (hd' : d' ≤ monthLength y' mo') :
    Calendar.NextDay ⟨y, mo, d, ho, mi, se, te⟩ ⟨y', mo', d', 0, 0, 0, 0⟩ :=
  ⟨day, by simp [Calendar.tenthOfDay], lastTenth, (Calendar.inRange_iff _).mpr ⟨hy, hy', hm, hm', hd, hd', by simp⟩⟩

/-- Every other instant of the range is followed by the next tenth of its day, or by the next day (R1). -/
theorem Calendar.advance_cases {c : Calendar} (h : c.inRange = true) (hl : c ≠ .last) :
    c.SameDay c.advance ∨ c.NextDay c.advance := by
  obtain ⟨y, mo, d, ho, mi, se, te⟩ := c
  obtain ⟨hy, hy', hm, hm', hd, hd', hho, hmi, hse, hte⟩ := (Calendar.inRange_iff _).mp h
  unfold Calendar.advance
  rw [if_neg hl]
  dsimp only at *
  split_ifs with hte9 hse59 hmi59 hho23 hday hmonth
  · exact .inl (Calendar.sameDay_mk h hho hmi hse (by omega) (by omega))
  · exact .inl (Calendar.sameDay_mk h hho hmi (by omega) (by omega) (by omega))
  · exact .inl (Calendar.sameDay_mk h hho (by omega) (by omega) (by omega) (by omega))
  · exact .inl (Calendar.sameDay_mk h (by omega) (by omega) (by omega) (by omega) (by omega))
  · exact .inr (Calendar.nextDay_mk (by omega) (dayNumber_nextDay y mo hd) hy hy' hm hm' (by omega) hday)
  · obtain rfl : d = monthLength y mo := by omega
    exact .inr (Calendar.nextDay_mk (by omega) (dayNumber_nextMonth y hm) hy hy' (by omega) hmonth le_rfl
      (monthLength_pos ..))
  · obtain rfl : mo = 12 := by omega
    rw [monthLength_december] at hd' hday
    obtain ⟨rfl, rfl, rfl, rfl, rfl⟩ : d = 31 ∧ ho = 23 ∧ mi = 59 ∧ se = 59 ∧ te = 9 := by omega
    have notLast : y ≠ 2099 := fun e => hl (by rw [e, Calendar.last])
    exact .inr (Calendar.nextDay_mk (by simp) (dayNumber_nextYear hy) (by omega) (by omega) le_rfl (by omega) le_rfl
      (monthLength_pos ..))

theorem Calendar.advance_inRange {c : Calendar} (h : c.inRange = true) : c.advance.inRange = true := by
  by_cases hl : c = .last
  · rw [hl]
    rfl
  · exact (Calendar.advance_cases h hl).elim (·.inRange) (·.inRange)

theorem Calendar.advance_tenths {c : Calendar} (h : c.inRange = true) (hl : c ≠ .last) :
    c.advance.tenths = c.tenths + 1 := by
  rw [Calendar.tenths_eq, Calendar.tenths_eq]
  obtain same | next := Calendar.advance_cases h hl
  · rw [same.year, same.month, same.day, same.tenthOfDay, Nat.add_assoc]
  · rw [next.day, next.midnight, next.lastTenth]
    omega

/-- The weekday steps on exactly when the date does (R2). -/
theorem Calendar.advance_weekday {c : Calendar} (h : c.inRange = true) (hl : c ≠ .last) :
    weekday c.advance.year c.advance.month c.advance.day =
      if c.advance.year = c.year ∧ c.advance.month = c.month ∧ c.advance.day = c.day then weekday c.year c.month c.day
      else (weekday c.year c.month c.day + 1) % 7 := by
  obtain same | next := Calendar.advance_cases h hl
  · rw [if_pos ⟨same.year, same.month, same.day⟩, same.year, same.month, same.day]
  · have hd := next.day
    rw [if_neg, weekday, weekday, hd]
    · omega
    · rintro ⟨ey, em, ed⟩
      rw [ey, em, ed] at hd
      omega

/-- The months have the lengths of R1. -/
theorem monthLengths (y : Nat) : (List.range 12).map (fun m => monthLength y (m + 1)) =
    [31, if y % 4 = 0 then 29 else 28, 31, 30, 31, 30, 31, 31, 30, 31, 30, 31] := by
  simp [List.range_succ, monthLength, leapYear]

/-- Settles O14, by the two ways the advance goes on. -/
theorem theCalendarCountsEveryTenth : Obligations.TheCalendarCountsEveryTenth :=
  ⟨⟨fun _ h hl => ⟨Calendar.advance_inRange h, Calendar.advance_tenths h hl⟩, Calendar.advance_last,
    fun y _ _ => monthLengths y⟩, rfl, fun _ h hl => Calendar.advance_weekday h hl⟩

end Sys2Proof.Machine
end

section
/-! The time rows (R1 to R11): what one step of the time base does, in closed form by the three cases of R9 and R11, and the
statements about CALENDAR_ADVANCE, YEAR_ROLLOVER and SET TIME. -/

namespace Sys2Proof.Machine

/-! ### One step of the time base -/

/-- The supervisor after a step of the time base: STARTING has lasted one step longer (R161). -/
def Supervisor.ticked (u : Supervisor) : Supervisor :=
  { u with startingFor := if u.state = .starting then u.startingFor + 1 else u.startingFor }

theorem Supervisor.ticked_starting {u : Supervisor} (h : u.state = .starting) :
    u.ticked = { u with startingFor := u.startingFor + 1 } := by
  simp [Supervisor.ticked, h]

theorem Supervisor.ticked_other {u : Supervisor} (h : u.state ≠ .starting) : u.ticked = u := by
  simp [Supervisor.ticked, h]

/-- The two time bases in a step: the run count, and the calendar unless a SET TIME has replaced its advance (R5, R11). -/
def State.advanceBases (s : State) : State :=
  if s.stepReplaced then { s with runCount := s.runCount + 1, stepReplaced := false }
  else { s with runCount := s.runCount + 1 }.advanceCalendar

/-- A step of the time base moves the two bases and counts how long STARTING lasts (R161). -/
theorem State.advanceTime_eq (s : State) :
    s.advanceTime = { s.advanceBases with sup := s.advanceBases.sup.ticked } := by
  have counts (t : State) : { t with sup := t.sup.ticked } = (match t.sup.state with
      | .starting => { t with sup := { t.sup with startingFor := t.sup.startingFor + 1 } }
      | .running | .retention | .off => t) := by
    cases h : t.sup.state with
    | starting => rw [Supervisor.ticked_starting h]
    | running | retention | off => rw [Supervisor.ticked_other (by simp [h])]
  exact (counts s.advanceBases).symm

/-- In OFF the time base stands (R3). -/
theorem State.tick_off {s : State} (h : s.sup.state = .off) : s.tick = s := if_pos h

/-- A step inside the calendar's range moves both time bases, and hands on a minute boundary while RUNNING (R1, R5, R8). -/
theorem State.tick_inside {s : State} (h : s.sup.state ≠ .off) (hr : s.stepReplaced = false) (hl : s.cal ≠ .last) :
    s.tick = { s with
      cal := s.cal.advance
      runCount := s.runCount + 1
      sup := s.sup.ticked
      mail := { s.mail with
        boundaries := if s.sup.state = .running ∧ s.cal.second = 59 ∧ 9 ≤ s.cal.tenth then
            s.mail.boundaries ++ [⟨s.cal.advance.present, s.ret.clockValid⟩]
          else s.mail.boundaries } } := by
  rw [State.tick, if_neg h, State.advanceTime_eq]
  by_cases hb : s.sup.state = .running ∧ s.cal.second = 59 ∧ 9 ≤ s.cal.tenth
  · simp [State.advanceBases, State.advanceCalendar, Calendar.atBoundary, hr, hl, hb, State.postBoundary]
  · simp [State.advanceBases, State.advanceCalendar, Calendar.atBoundary, hr, hl, hb]

/-- The step past the last instant is the rollover (R9). -/
theorem State.tick_rollover {s : State} (h : s.sup.state ≠ .off) (hr : s.stepReplaced = false) (hl : s.cal = .last) :
    s.tick = { s with
      cal := .cold
      runCount := s.runCount + 1
      ret := { s.ret with clockValid := false }
      check := ⟨{ s.ret with clockValid := false }⟩
      sup := s.sup.ticked
      att := { s.att with clock := s.att.clock || decide (s.sup.state = .running) }
      mail := { s.mail with
        boundaries := if s.sup.state = .running then s.mail.boundaries ++ [⟨Calendar.cold.present, false⟩]
          else s.mail.boundaries } } := by
  have hb : Calendar.last.atBoundary = true := rfl
  rw [State.tick, if_neg h, State.advanceTime_eq]
  by_cases hrun : s.sup.state = .running
  · simp [State.advanceBases, State.advanceCalendar, State.invalidateClock, hr, hl, hb, hrun, State.postBoundary,
      State.setRet, State.raiseClock, Calendar.advance_last]
  · simp [State.advanceBases, State.advanceCalendar, State.invalidateClock, hr, hl, hb, hrun, State.setRet,
      Calendar.advance_last]

/-- A step that a SET TIME has replaced is the run count's alone (R11). -/
theorem State.tick_replaced {s : State} (h : s.sup.state ≠ .off) (hr : s.stepReplaced = true) :
    s.tick = { s with runCount := s.runCount + 1, stepReplaced := false, sup := s.sup.ticked } := by
  rw [State.tick, if_neg h, State.advanceTime_eq]
  simp [State.advanceBases, hr]

/-- What a step of the time base keeps: the supervisor's state and marks, a calendar that stands or advances, and an
INVALID clock. -/
structure State.Ticks (s t : State) : Prop where
  supState : t.sup.state = s.sup.state
  backupLost : t.sup.backupLost = s.sup.backupLost
  cal : t.cal = s.cal ∨ t.cal = s.cal.advance
  valid : t.ret.clockValid = true → s.ret.clockValid = true

theorem State.tick_ticks (s : State) : s.Ticks s.tick := by
  by_cases h : s.sup.state = .off
  · rw [State.tick_off h]
    exact ⟨rfl, rfl, .inl rfl, id⟩
  cases hr : s.stepReplaced with
  | true =>
    rw [State.tick_replaced h hr]
    exact ⟨rfl, rfl, .inl rfl, id⟩
  | false =>
    by_cases hl : s.cal = .last
    · rw [State.tick_rollover h hr hl]
      exact ⟨rfl, rfl, .inr (by rw [hl, Calendar.advance_last]), by simp⟩
    · rw [State.tick_inside h hr hl]
      exact ⟨rfl, rfl, .inr rfl, id⟩

/-- Settles O15, by the three cases of a step of the time base. -/
theorem calendarAdvanceMovesBothTimeBases : Obligations.CalendarAdvanceMovesBothTimeBases := by
  refine ⟨fun s h => ⟨fun hr hl => ?_, fun hr hl => ?_, fun hr => ?_⟩, fun s h => ?_⟩
  · exact congrArg Host.Outcome.next (State.tick_inside h hr hl)
  · exact congrArg Host.Outcome.next (State.tick_rollover h hr hl)
  · exact congrArg Host.Outcome.next (State.tick_replaced h hr)
  · exact congrArg Host.Outcome.next (State.tick_off h)

/-! ### Evaluating the table -/

/-- One slot at an event that tests and evaluates the table (R25, R35). -/
theorem ProgSlot.retireOrEvaluate_eq (x : ProgSlot) (p : Present) : x.retireOrEvaluate p = match x.live with
    | none => x
    | some r =>
      if p.valid = true ∧ r.defn.timing.ended p.time = true then ⟨none, x.gen + 1, .ended⟩
      else { x with live := some (r.evaluate p) } := by
  obtain ⟨live, gen, reason⟩ := x
  cases live <;> simp [ProgSlot.retireOrEvaluate, retires, ProgSlot.ended, ProgSlot.free]

/-- The slots that retire are those whose live record goes (R35). -/
theorem retires_eq (p : Present) (x : ProgSlot) :
    retires p x = (x.live.isSome && (x.retireOrEvaluate p).live.isNone) := by
  rw [ProgSlot.retireOrEvaluate_eq]
  cases hx : x.live with
  | none => simp [retires, ProgSlot.ended, hx]
  | some r =>
    by_cases he : p.valid = true ∧ r.defn.timing.ended p.time = true
    · simp [retires, ProgSlot.ended, hx, he]
    · simp only [if_neg he]
      simpa [retires, ProgSlot.ended, hx] using he

/-- The flags of an event are those of the handles it retires. -/
theorem retiring_getLsbD (p : Present) (t : Vector ProgSlot 96) (i : ProgIdx) :
    (retiring p t).getLsbD i.val = retires p t[i] := by
  rw [retiring, foldl_bits_getLsbD _ _ _ _ i.isLt, Bool.eq_iff_iff]
  simp [Fin.val_inj]

/-- The table's event is the evaluation of R27, R28 and R34 to R36. -/
theorem State.evaluateTable_evaluates (p : Present) (s : State) : EvaluatesTable p s (s.evaluateTable p) := by
  rw [State.evaluateTable_eq]
  refine ⟨fun i => ?_, ?_, fun i => ?_, rfl⟩
  · exact (tab_getElem _ i).trans (ProgSlot.retireOrEvaluate_eq ..)
  · simp [retiringCount, retires_eq]
  · rw [BitVec.getLsbD_or, retiring_getLsbD, retires_eq, tab_getElem]

/-- Against an INVALID clock no slot retires. -/
theorem retires_invalid {p : Present} (h : p.valid = false) (x : ProgSlot) : retires p x = false := by
  simp [retires, h]

/-- Against an INVALID clock every enabled record becomes UNTIMED (R25, R27). -/
theorem ProgSlot.retireOrEvaluate_invalid {p : Present} (h : p.valid = false) (x : ProgSlot) :
    x.retireOrEvaluate p = { x with live := x.live.map fun r =>
      if r.state = .disabled then r else { r with state := .untimed } } := by
  simp [ProgSlot.retireOrEvaluate, retires_invalid h, ProgRec.evaluate, ProgDef.judge, h]

/-- An evaluation against an INVALID clock retires nothing: the table, and the one request (R27, R34). -/
theorem State.evaluateTable_invalid {p : Present} (h : p.valid = false) (s : State) :
    let t : Vector ProgSlot 96 := tab fun i => s.ret.programs[i].retireOrEvaluate p
    s.evaluateTable p = { s with
      ret := { s.ret with programs := t }
      check := ⟨{ s.ret with programs := t }⟩
      mail := { s.mail with requests := s.mail.requests ++ asRequest (concerned s.ret.programs t) } } := by
  have count (t : Vector ProgSlot 96) : retiringCount p t = 0 := by simp [retiringCount, retires_invalid h]
  have none (t : Vector ProgSlot 96) : retiring p t = 0 := by
    refine BitVec.eq_of_getLsbD_eq fun i hi => ?_
    rw [retiring_getLsbD p t ⟨i, hi⟩, retires_invalid h]
    simp
  intro t
  rw [State.evaluateTable_eq]
  simp [count, none, t]

/-! ### YEAR_ROLLOVER -/

/-- The row acts at the last instant, where a supply is present and no SET TIME has replaced the step (R3, R9, R11). -/
theorem execYearRollover_due {s : State} (h : s.sup.state ≠ .off) (hl : s.cal = .last) (hr : s.stepReplaced = false) :
    exec .yearRollover s = .next (whileRunning State.takeBoundaries s.tick) :=
  congrArg Host.Outcome.next (if_pos ⟨h, hl, by simp [hr]⟩)

/-- Settles O17, by the rollover's step and the evaluation against the INVALID clock its boundary carries. -/
theorem yearRolloverInvalidatesTheClock : Obligations.YearRolloverInvalidatesTheClock := by
  refine ⟨fun s h hl hr hb => ?_, fun s h hl hr => ?_, fun s h => ?_⟩
  · have hoff : s.sup.state ≠ .off := by simp [h]
    have hsup : s.sup.ticked = s.sup := Supervisor.ticked_other (by simp [h])
    refine ⟨_, execYearRollover_due hoff hl hr, ?_⟩
    rw [whileRunning_running _ (s.tick_ticks.supState.trans h), State.takeBoundaries, State.tick_rollover hoff hr hl]
    simp [h, hb, hsup, State.takeBoundary, State.evaluateTable_invalid, ProgSlot.retireOrEvaluate_invalid, Calendar.cold]
  · have hoff : s.sup.state ≠ .off := by rcases h with h | h <;> simp [h]
    have hrun : s.sup.state ≠ .running := by rcases h with h | h <;> simp [h]
    have hdark : s.tick.sup.state ≠ .running := fun e => hrun (s.tick_ticks.supState.symm.trans e)
    rw [execYearRollover_due hoff hl hr, whileRunning_other _ hdark, State.tick_rollover hoff hr hl]
    simp [hrun, Supervisor.ticked, Calendar.cold]
  · refine congrArg Host.Outcome.next (if_neg ?_)
    rintro ⟨hoff, hl, hr⟩
    rcases h with h | h | h
    · exact hoff h
    · exact h hl
    · simp [h] at hr

end Sys2Proof.Machine
end

section
/-! SET TIME: the parameters it reads, the boundaries it takes first, the time it sets, and the step of the time base that it
replaces (R10, R11, R28, R41). -/

namespace Sys2Proof.Machine

/-! ### The parameters of SET TIME (R190) -/

/-- The calendar that a set time loads (R10). -/
def TimeValue.calendar (v : TimeValue) : Calendar := ⟨v.year, v.month, v.day, v.hour, v.minute, v.second, 0⟩

theorem require_eq_ok {α : Type} {b : Bool} {index : Nat} {k : Except Nat α} {a : α} :
    require b index k = .ok a ↔ b = true ∧ k = .ok a := by
  cases b <;> simp [require]

/-- The values read are those of the bytes, and lie in the ranges of R1. -/
theorem readSetTime_eq_ok {ps : List Byte} {v : TimeValue} (h : readSetTime ps = .ok v) : v.calendar.inRange = true := by
  unfold readSetTime at h
  split at h
  · simp only [require_eq_ok, decide_eq_true_eq, Except.ok.injEq] at h
    obtain ⟨hy, hm, hd, hho, hmi, hse, rfl⟩ := h
    refine (Calendar.inRange_iff _).mpr ⟨Nat.le_add_right .., ?_, hm.1, hm.2, hd.1, hd.2, hho, hmi, hse, Nat.zero_le _⟩
    exact Nat.add_le_add_left hy 2000
  · cases h

theorem readSetTime_ok {y mo d h mi se : Byte} (hy : y.toNat ≤ 99) (hm : 1 ≤ mo.toNat) (hm' : mo.toNat ≤ 12)
    (hd : 1 ≤ d.toNat) (hd' : d.toNat ≤ monthLength (2000 + y.toNat) mo.toNat) (hh : h.toNat ≤ 23) (hmi : mi.toNat ≤ 59)
    (hse : se.toNat ≤ 59) :
    readSetTime [y, mo, d, h, mi, se] = .ok ⟨2000 + y.toNat, mo.toNat, d.toNat, h.toNat, mi.toNat, se.toNat⟩ := by
  simp only [readSetTime, require_eq_ok, decide_eq_true_eq, and_true]
  exact ⟨hy, ⟨hm, hm'⟩, ⟨hd, hd'⟩, hh, hmi, hse⟩

/-! ### The time set -/

/-- What SET TIME's owner does on parameters it can read. -/
theorem execSetTime_ok {s : State} {ps : List Byte} {v : TimeValue} (stepDue : Bool) (h : s.holds 0x02 ps)
    (hv : readSetTime ps = .ok v) :
    exec (.setTime stepDue) s = .next ((s.takeSetTime v stepDue).answered 0x02 .ok []) :=
  next_complete h (by rw [checked_ok hv]; rfl)

/-- With no boundary waiting, none is taken. -/
theorem State.takeBoundaries_nil {s : State} (h : s.mail.boundaries = []) : s.takeBoundaries = s := by
  have none : { s.mail with boundaries := [] } = s.mail := by rw [← h]
  rw [State.takeBoundaries, h, List.foldl_nil, none]

/-- The boundaries are taken oldest first: taking the oldest and then the rest is taking them all (R41). -/
theorem State.takeBoundaries_cons {s : State} {b : Boundary} {rest : List Boundary} (h : s.mail.boundaries = b :: rest) :
    ({ s with mail := { s.mail with boundaries := rest } }.takeBoundary b).takeBoundaries = s.takeBoundaries := by
  simp only [State.takeBoundaries, State.takeBoundary, State.evaluateTable_eq, h, List.foldl_cons]

/-- MINUTE_BOUNDARY takes the oldest. -/
theorem execMinuteBoundary_cons {s : State} {b : Boundary} {rest : List Boundary} (hrun : s.sup.state = .running)
    (h : s.mail.boundaries = b :: rest) :
    exec .minuteBoundary s = .next ({ s with mail := { s.mail with boundaries := rest } }.takeBoundary b) :=
  next_whileRunning hrun (by simp only [State.takeOldestBoundary, h])

/-- A set time leaves the run count and the supervisor (R10). -/
theorem State.takeSetTime_timeView (v : TimeValue) (stepDue : Bool) (s : State) :
    (s.takeSetTime v stepDue).timeView =
      { s.timeView with cal := v.calendar, stepReplaced := s.stepReplaced || stepDue, clockValid := true } := by
  have h := s.takeBoundaries_timeView
  rw [State.takeSetTime, State.takeTimeSet, State.evaluateTable_timeView]
  simp [State.timeView, State.loadTime, TimeValue.calendar] at h ⊢
  simp [h]

theorem Calendar.advance_tenth {c : Calendar} (h : c.tenth < 9) : c.advance = { c with tenth := c.tenth + 1 } := by
  have hl : c ≠ .last := by
    rintro rfl
    exact absurd h (by decide)
  rw [Calendar.advance, if_neg hl, if_pos h]

/-- After a step that a SET TIME has replaced, the next advance is the one after it (R11). -/
theorem State.tick_tick_replaced {s : State} (h : s.sup.state = .running) (hr : s.stepReplaced = true)
    (hc : s.cal.tenth = 0) :
    s.tick.cal = s.cal ∧ s.tick.runCount = s.runCount + 1 ∧ s.tick.mail = s.mail ∧
      s.tick.tick.cal = { s.cal with tenth := 1 } ∧ s.tick.tick.runCount = s.runCount + 2 := by
  have hoff : s.tick.sup.state ≠ .off := by simp [s.tick_ticks.supState, h]
  rw [State.tick_replaced (by simp [h]) hr] at hoff ⊢
  have hlt : s.cal.tenth < 9 := by omega
  have hl : s.cal ≠ .last := by
    intro e
    rw [e] at hc
    exact absurd hc (by decide)
  rw [State.tick_inside hoff rfl hl]
  refine ⟨rfl, rfl, rfl, ?_, BitVec.add_assoc ..⟩
  simp only [Calendar.advance_tenth hlt, hc]

/-- Settles O18, by the closed form of the set time and the two steps of the time base after it. -/
theorem setTimeLoadsTheCalendar : Obligations.SetTimeLoadsTheCalendar := by
  intro s stepDue y mo d h mi se hs hy hm hm' hd hd' hh hmi hse
  have hv := readSetTime_ok hy hm hm' hd hd' hh hmi hse
  refine ⟨fun hb => ⟨_, execSetTime_ok stepDue hs hv, ?_⟩, fun hb u hu => ?_⟩
  · rw [State.takeSetTime, State.takeBoundaries_nil hb]
    have evaluates := State.evaluateTable_evaluates ⟨s.runCount,
      ⟨2000 + y.toNat, mo.toNat, d.toNat, h.toNat * 60 + mi.toNat⟩, true, s.gates⟩
      (s.loadTime ⟨2000 + y.toNat, mo.toNat, d.toNat, h.toNat, mi.toNat, se.toNat⟩ stepDue)
    obtain ⟨slots, epoch, flags, request⟩ := evaluates
    have keeps := State.takeSetTime_timeView ⟨2000 + y.toNat, mo.toNat, d.toNat, h.toNat, mi.toNat, se.toNat⟩ stepDue s
    rw [State.takeSetTime, State.takeBoundaries_nil hb] at keeps
    have cal := congrArg TimeView.cal keeps
    refine ⟨cal, congrArg TimeView.clockValid keeps, ⟨slots, epoch, flags, request⟩, rfl, ?_, fun due => ?_⟩
    · rw [State.takeTimeSet, State.evaluateTable_eq]
      rfl
    · obtain ⟨ucal, urun, umail, vcal, vrun⟩ := State.tick_tick_replaced
        (s := (State.takeTimeSet (s.loadTime _ stepDue)).answered 0x02 .ok [])
        ((congrArg (TimeView.sup ·|>.state) keeps).trans hs.1)
        ((congrArg TimeView.stepReplaced keeps).trans (by simp [due])) (congrArg Calendar.tenth cal)
      have run := congrArg TimeView.runCount keeps
      exact ⟨_, _, rfl, rfl, ucal, urun.trans (congrArg (· + 1) run), umail, vcal, vrun.trans (congrArg (· + 2) run)⟩
  · obtain ⟨b, rest, hb⟩ := List.exists_cons_of_ne_nil hb
    rw [execMinuteBoundary_cons hs.1 hb] at hu
    obtain rfl := Host.Outcome.next.inj hu
    have hu : ({ s with mail := { s.mail with boundaries := rest } }.takeBoundary b).holds 0x02 [y, mo, d, h, mi, se] := by
      rw [State.takeBoundary, State.evaluateTable_eq]
      exact hs
    rw [execSetTime_ok stepDue hs hv, execSetTime_ok stepDue hu hv, State.takeSetTime, State.takeSetTime,
      State.takeBoundaries_cons hb]

end Sys2Proof.Machine
end

section
/-! What the supervisor's rows do to the time bases, and the statements about every row and every step (R1, R5, R7, R156). -/

namespace Sys2Proof.Machine

/-! ### The supervisor's rows -/

/-- The time bases stand, and what the backup domain holds has had its meaning before. -/
structure State.KeepsBases (s t : State) : Prop where
  cal : t.cal = s.cal
  runCount : t.runCount = s.runCount
  valid : t.ret.clockValid = s.ret.clockValid
  meaningful : t.meaningful → s.meaningful

theorem State.KeepsBases.refl (s : State) : s.KeepsBases s := ⟨rfl, rfl, rfl, id⟩

theorem State.keepsBases_of_timeView {s t : State} (h : t.timeView = s.timeView) : s.KeepsBases t :=
  ⟨State.cal_of_timeView h, State.runCount_of_timeView h, State.clockValid_of_timeView h, fun m => by
    rwa [State.meaningful, State.sup_of_timeView h] at m⟩

theorem State.assertReset_keepsBases (s : State) : s.KeepsBases s.assertReset := by
  unfold State.assertReset
  cases h : s.sup.state with
  | running | starting => simp only [h]; exact ⟨rfl, rfl, rfl, fun m => ⟨by simp [h], m.2⟩⟩
  | retention | off => simp only [h]; exact ⟨rfl, rfl, rfl, fun m => ⟨fun e => m.1 (h.symm.trans e), m.2⟩⟩

theorem State.releaseReset_keepsBases (s : State) : s.KeepsBases s.releaseReset := by
  unfold State.releaseReset
  cases h : s.sup.state <;> simp only [h] <;> exact ⟨rfl, rfl, rfl, fun m => ⟨fun e => m.1 (h.symm.trans e), m.2⟩⟩

theorem State.qualified_keepsBases (s : State) : s.KeepsBases s.qualified := by
  unfold State.qualified
  split
  · rename_i h
    exact ⟨rfl, rfl, rfl, fun m => ⟨by simp [h.1], m.2⟩⟩
  · exact .refl s

theorem takeStart_keepsBases (code : Byte) (cold : Bool) (s : State) : s.KeepsBases (takeStart code cold s) := by
  unfold takeStart
  split
  · rename_i ps h
    have running : s.sup.state = .running := (State.holds_of_slot h).1
    split
    · exact ⟨rfl, rfl, rfl, fun m => ⟨by simp [running], m.2⟩⟩
    · exact ⟨rfl, rfl, rfl, id⟩
  · exact .refl s

/-- The rows that move the supervisor alone leave the time bases. -/
theorem exec_keepsBases {c : Instr} {s t : State} (hw : writesTime c = false) (h : exec c s = .next t) :
    s.KeepsBases t := by
  cases hm : movesSupervisor c with
  | false => exact State.keepsBases_of_timeView (exec_timeView hw hm h)
  | true =>
    cases c with
    | rstAssert => obtain rfl := Host.Outcome.next.inj h; exact s.assertReset_keepsBases
    | rstRelease => obtain rfl := Host.Outcome.next.inj h; exact s.releaseReset_keepsBases
    | supplyQualified => obtain rfl := Host.Outcome.next.inj h; exact s.qualified_keepsBases
    | restart => obtain rfl := Host.Outcome.next.inj h; exact takeStart_keepsBases 0x5E false s
    | factoryClear => obtain rfl := Host.Outcome.next.inj h; exact takeStart_keepsBases 0x5F true s
    | _ => simp [movesSupervisor] at hm

/-- RETENTION's judgement leaves the calendar, unless the domain is lost and the part is OFF (R156). -/
theorem State.judgeLevels_meaningful {s : State} (h : s.judgeLevels.meaningful) :
    s.judgeLevels.cal = s.cal ∧ s.sup.backupLost = false := by
  unfold State.judgeLevels at h ⊢
  split
  · rename_i lost
    rw [if_pos lost] at h
    exact absurd rfl h.1
  · rename_i held
    rw [if_neg held] at h
    exact ⟨rfl, (Bool.or_eq_false_iff.mp h.2).1⟩

/-- New supply levels leave the calendar of a domain that has its meaning after them, and give none to one that had none: the
power-up marks it lost (R156). -/
theorem State.takeLevels_meaningful {s : State} {vdd vbat : Nat} (h : (s.takeLevels vdd vbat).meaningful) :
    (s.takeLevels vdd vbat).cal = s.cal ∧ s.meaningful := by
  unfold State.takeLevels at h ⊢
  cases hs : s.sup.state with
  | running | starting =>
    simp only [hs] at h ⊢
    split
    · rename_i falls
      rw [if_pos falls] at h
      obtain ⟨cal, held⟩ := State.judgeLevels_meaningful h
      exact ⟨cal, by simp [hs], held⟩
    · rename_i stands
      rw [if_neg stands] at h
      exact ⟨rfl, by simp [hs], h.2⟩
  | retention =>
    simp only [hs] at h ⊢
    obtain ⟨cal, held⟩ := State.judgeLevels_meaningful h
    exact ⟨cal, by simp [hs], held⟩
  | off =>
    simp only [hs] at h
    split at h
    · exact absurd rfl h.1
    · exact absurd h.2 (by simp [State.powerUp])

/-- A row that brings supply levels has them taken. -/
theorem exec_supplyLevels {c : Instr} {s t : State} (hc : bringsSupplyLevels c = true) (h : exec c s = .next t) :
    ∃ vdd vbat, t = s.takeLevels vdd vbat := by
  cases c with
  | vddFall _ | vddRise _ | vddBelowQualificationThreshold _ | backupSupplyFall _ | backupDomainLoss _ _
  | backupDomainPowerUp _ _ => exact ⟨_, _, (Host.Outcome.next.inj h).symm⟩
  | _ => simp [bringsSupplyLevels] at hc

/-- A warm start leaves the time bases; RUNNING begins with both marks clear (R14, R162, R164). -/
theorem State.warmStart_timeView (pin : Bool) (s : State) :
    (s.warmStart pin).timeView = { s.timeView with
      sup := { s.sup with state := .running, backupLost := false, coldRequest := false, startingFor := 0 } } := by
  have base : (s.startCommon pin).warmGates.warmFaults.warmSequencer.timeView = { s.timeView with
      sup := { s.sup with state := .running, backupLost := false, coldRequest := false, startingFor := 0 } } := rfl
  have targets (u : State) : u.warmTargets.timeView = u.timeView := State.takeHandOff_timeView (warmHandOff u.results) u
  have afresh (u : State) : u.resolveAfresh.timeView = u.timeView := rfl
  rw [← base]
  refine ite_timeView ?_ ?_ <;> simp [targets, afresh]

/-- A start that is not cold finds the backup-lost marker clear (R162). -/
theorem State.backupLost_of_startsCold {s : State} (h : s.startsCold = false) : s.sup.backupLost = false := by
  simp only [State.startsCold, Bool.or_eq_false_iff] at h
  exact h.1.1

/-- The end of a start leaves the calendar of a domain that has its meaning, or gives it the first instant of its range
(R13, R14, R163). -/
theorem State.endStarting_cases (pin : Bool) (s : State) :
    s.endStarting pin = s ∨
    ((s.endStarting pin).cal = .cold ∧ (s.endStarting pin).ret.clockValid = false) ∨
    ((s.endStarting pin).cal = s.cal ∧ (s.endStarting pin).ret.clockValid = s.ret.clockValid ∧ s.meaningful) := by
  unfold State.endStarting
  split
  · rename_i h
    cases hc : s.startsCold with
    | true => exact .inr (.inl ⟨rfl, rfl⟩)
    | false =>
      have warm := s.warmStart_timeView pin
      refine .inr (.inr ⟨congrArg TimeView.cal warm, congrArg TimeView.clockValid warm, ?_⟩)
      exact ⟨by simp [h.1], State.backupLost_of_startsCold hc⟩
  · exact .inl rfl

/-- The rows of the year rollover are steps of the time base, or change nothing. -/
theorem execYearRollover_ticks {s t : State} (h : exec .yearRollover s = .next t) : s.Ticks t := by
  obtain rfl := Host.Outcome.next.inj h
  split
  · have view := whileRunning_timeView State.takeBoundaries_timeView s.tick
    obtain ⟨sup, lost, cal, valid⟩ := s.tick_ticks
    refine ⟨?_, ?_, ?_, ?_⟩
    · rw [State.sup_of_timeView view, sup]
    · rw [State.sup_of_timeView view, lost]
    · rwa [State.cal_of_timeView view]
    · rwa [State.clockValid_of_timeView view]
  · exact ⟨rfl, rfl, .inl rfl, id⟩

/-- A SET TIME loads a calendar of the range and leaves the run count, or leaves the time bases (R10, R190). -/
theorem execSetTime_cases {stepDue : Bool} {s t : State} (h : exec (.setTime stepDue) s = .next t) :
    t.timeView = s.timeView ∨ (t.cal.inRange = true ∧ t.runCount = s.runCount) := by
  obtain rfl := Host.Outcome.next.inj h
  unfold complete
  split
  · rename_i ps _
    beta_reduce
    cases hv : readSetTime ps with
    | error index => exact .inl rfl
    | ok v =>
      have view := State.takeSetTime_timeView v stepDue s
      refine .inr ⟨?_, congrArg TimeView.runCount view⟩
      exact (congrArg (TimeView.cal ·|>.inRange) view).trans (readSetTime_eq_ok hv)
  · exact .inl rfl

/-! ### Every row and every step -/

/-- Settles O5, by the rows that write the time bases. -/
theorem timeHasFewWriters : Obligations.TimeHasFewWriters := by
  intro c s t h
  cases hw : writesTime c with
  | false =>
    obtain ⟨cal, run, valid, -⟩ := exec_keepsBases hw h
    exact ⟨fun e => absurd run e, fun e => absurd cal e, fun e e' => by simp [valid, e'] at e⟩
  | true =>
    obtain rfl | rfl | ⟨stepDue, rfl⟩ | ⟨pin, rfl⟩ | supply := writesTime_iff.mp hw
    · obtain rfl := Host.Outcome.next.inj h
      exact ⟨by simp, by simp, fun e e' => by simp [s.tick_ticks.valid e] at e'⟩
    · exact ⟨by simp, by simp, fun e e' => by simp [(execYearRollover_ticks h).valid e] at e'⟩
    · refine ⟨fun e => absurd ?_ e, by simp, by simp⟩
      obtain view | ⟨-, run⟩ := execSetTime_cases h
      · exact State.runCount_of_timeView view
      · exact run
    · refine ⟨by simp, by simp, fun e e' => ?_⟩
      obtain rfl := Host.Outcome.next.inj h
      obtain same | ⟨-, valid⟩ | ⟨-, valid, -⟩ := s.endStarting_cases pin
      · simp [same, e'] at e
      · simp [valid] at e
      · simp [valid, e'] at e
    · simp [supply]

/-- Every row keeps the calendar in its range while it has its meaning (R1, R9, R10, R13). -/
theorem exec_calendarInRange {c : Instr} {s t : State} (hs : s.CalendarInRange) (h : exec c s = .next t) :
    t.CalendarInRange := by
  intro m
  have kept (cal : t.cal = s.cal) (before : s.meaningful) : t.cal.inRange = true := by
    rw [cal]
    exact hs before
  have ticked (ht : s.Ticks t) : t.cal.inRange = true := by
    have before : s.meaningful := ⟨fun e => m.1 (ht.supState.trans e), ht.backupLost.symm.trans m.2⟩
    obtain cal | cal := ht.cal
    · exact kept cal before
    · rw [cal]
      exact Calendar.advance_inRange (hs before)
  cases hw : writesTime c with
  | false =>
    obtain ⟨cal, -, -, before⟩ := exec_keepsBases hw h
    exact kept cal (before m)
  | true =>
    obtain rfl | rfl | ⟨stepDue, rfl⟩ | ⟨pin, rfl⟩ | supply := writesTime_iff.mp hw
    · exact ticked (by rw [← Host.Outcome.next.inj h]; exact s.tick_ticks)
    · exact ticked (execYearRollover_ticks h)
    · obtain view | ⟨range, -⟩ := execSetTime_cases h
      · exact kept (State.cal_of_timeView view) ((State.keepsBases_of_timeView view).meaningful m)
      · exact range
    · obtain rfl := Host.Outcome.next.inj h
      obtain same | ⟨cal, -⟩ | ⟨cal, -, before⟩ := s.endStarting_cases pin
      · rw [same] at m ⊢
        exact hs m
      · rw [cal]
        rfl
      · exact kept cal before
    · obtain ⟨vdd, vbat, rfl⟩ := exec_supplyLevels supply h
      obtain ⟨cal, before⟩ := State.takeLevels_meaningful m
      exact kept cal before

/-- Settles O7: a step is a row on the queue's rest, which the invariant does not speak of. -/
theorem everyStepKeepsTheCalendarInRange : Obligations.EveryStepKeepsTheCalendarInRange := by
  intro s t hs h
  unfold step at h
  split at h
  · rwa [← Host.Outcome.next.inj h]
  · rename_i c rest _
    exact exec_calendarInRange (s := { s with pending := rest }) hs h

/-- Settles O1, by the two arms of the step. -/
theorem stepTakesTheFrontCommand : Obligations.StepTakesTheFrontCommand :=
  ⟨fun c rest s h => by rw [step, h], fun s h => by rw [step, h]⟩

/-- Settles O13, field by field of the state after reset. -/
theorem resetHoldsTheColdValues : Obligations.ResetHoldsTheColdValues := by
  have table {n : Nat} {α : Type} (a : α) (i : Fin n) : (tabConst n a)[i] = a := tabConst_getElem n a i
  refine ⟨rfl, rfl, rfl, rfl, table _, table _, rfl, rfl, fun g => ⟨table _ g, table _ g⟩,
    fun ch => ⟨table _ ch, table _ ch, table _ ch, table _ ch, table _ ch⟩,
    fun g => ⟨table _ g.idx, table _ g.idx, table _ g.idx⟩, rfl, rfl, rfl, rfl, rfl, rfl, rfl,
    fun k => ⟨table _ k, table _ k, table _ k⟩, rfl, rfl, rfl, rfl, rfl, rfl, rfl, rfl, rfl, rfl, rfl, rfl, rfl, rfl, rfl,
    rfl, rfl, rfl⟩

end Sys2Proof.Machine
end

section
/-! The sequencer's passes (R100, R103, R107, R109): what the tests, the queue and the admissions make of several channels,
taken one after another. -/

namespace Sys2Proof.Machine

/-! ### What stands beside the waiting channels -/

/-- The state but for the switching records, the Switching Queue and the CHANNEL flags, which the tests touch. -/
def State.besideWaiting (s : State) : State :=
  { s with sw := tabConst 16 .cold, queue := [], att := { s.att with channel := 0 } }

/-- The state but for what the tests and the admissions touch. -/
def State.besideAdmitted (s : State) : State :=
  { s.besideWaiting with faults := tabConst 16 .cold, lastAdm := 0, staggerPast := false }

/-- Two states that agree beside the admissions differ in what these touch alone. -/
theorem State.eq_of_besideAdmitted {s t : State} (h : t.besideAdmitted = s.besideAdmitted) :
    t = { s with
      sw := t.sw
      faults := t.faults
      queue := t.queue
      lastAdm := t.lastAdm
      staggerPast := t.staggerPast
      att := { s.att with channel := t.att.channel } } := by
  obtain ⟨_, _, _, _, _, _, _, _, _, _, _, _, _, _, _, _, ⟨⟩, _, _, _, _, _⟩ := s
  obtain ⟨_, _, _, _, _, _, _, _, _, _, _, _, _, _, _, _, ⟨⟩, _, _, _, _, _⟩ := t
  simp_all [State.besideAdmitted, State.besideWaiting]

theorem State.besideAdmitted_of_besideWaiting {s t : State} (h : t.besideWaiting = s.besideWaiting) :
    t.besideAdmitted = s.besideAdmitted := by
  simp only [State.besideAdmitted, h]

/-- A channel's record after it has gone to a switching state, among all records. -/
theorem State.goTo_sw (ch : Chan) (st : SwState) (s : State) (c : Chan) :
    (s.goTo ch st).sw[c] = if c = ch then { s.sw[ch] with state := st } else s.sw[c] := by
  unfold State.goTo
  split
  · rename_i same
    subst same
    split
    · rename_i here
      rw [here]
    · rfl
  · exact set_getElem ..

/-- A change of switching state touches the channel's record and the CHANNEL flags alone (R116). -/
theorem State.goTo_frame (ch : Chan) (st : SwState) (s : State) :
    s.goTo ch st = { s with
      sw := (s.goTo ch st).sw
      att := { s.att with channel := (s.goTo ch st).att.channel } } := by
  unfold State.goTo
  split <;> rfl

theorem State.goTo_besideWaiting (ch : Chan) (st : SwState) (s : State) :
    (s.goTo ch st).besideWaiting = s.besideWaiting := by
  rw [State.goTo_frame]
  rfl

theorem State.goTo_queue (ch : Chan) (st : SwState) (s : State) : (s.goTo ch st).queue = s.queue := by
  rw [State.goTo_frame]

/-! ### The eligibility tests (R103) -/

/-- The switching state to which the eligibility tests take a channel (R103). -/
def State.eligibility (s : State) (ch : Chan) : SwState :=
  if s.allOff then .hold .allOff
  else if !s.minOffElapsed ch then .hold .dwell
  else if s.blockedByGroup ch then .hold .group
  else .queued

/-- A channel's entry of the Switching Queue (R106). -/
def State.entryOf (s : State) (ch : Chan) : QueueEntry := ⟨ch, (s.chan ch).queueClass, s.sw[ch].target⟩

theorem State.testEligible_eligibility (ch : Chan) (s : State) :
    s.testEligible ch =
      { s with queue := if s.eligibility ch = SwState.queued then placeEntry s.queue (s.entryOf ch) else s.queue }.goTo ch
        (s.eligibility ch) := by
  unfold State.testEligible State.eligibility
  split_ifs <;> simp_all [State.enqueue, State.entryOf]

/-- The tests see the records' applied levels and off stamps, and what stands beside the waiting channels. -/
theorem State.eligibility_congr {s t : State} (h : t.besideWaiting = s.besideWaiting)
    (happ : ∀ c : Chan, t.sw[c].applied = s.sw[c].applied) (hoff : ∀ c : Chan, t.sw[c].offStamp = s.sw[c].offStamp)
    (hpast : ∀ c : Chan, t.sw[c].minOffPast = s.sw[c].minOffPast) (ch : Chan) : t.eligibility ch = s.eligibility ch := by
  have ret : t.ret = s.ret := (congrArg State.ret h :)
  have pin : t.pinTaken = s.pinTaken := (congrArg State.pinTaken h :)
  have run : t.runCount = s.runCount := (congrArg State.runCount h :)
  have gap : t.gapStamps = s.gapStamps := (congrArg State.gapStamps h :)
  have allOff : t.allOff = s.allOff := by rw [State.allOff, ret, pin, State.allOff]
  have minOff : t.minOffElapsed ch = s.minOffElapsed ch := by
    simp only [State.minOffElapsed, State.chan, ret, run, hoff, hpast]
  have busy (g : Group) : t.groupBusy ch g = s.groupBusy ch g := by
    have others : (fun o => decide (o ≠ ch ∧ t.sw[o].applied ≠ 0) && s.memberOf o g) =
        fun o => decide (o ≠ ch ∧ s.sw[o].applied ≠ 0) && s.memberOf o g := funext fun o => by rw [happ]
    unfold State.groupBusy State.gapElapsed State.memberOf State.chan
    rw [ret, run, gap]
    exact congrArg (fun f => (List.finRange 16).any f || _) others
  have blocked : t.blockedByGroup ch = s.blockedByGroup ch := by
    unfold State.blockedByGroup State.chan
    rw [ret]
    cases s.ret.channels[ch].group with
    | none => rfl
    | some g => exact busy g
  simp only [State.eligibility, allOff, minOff, blocked]

/-! ### Channels that make the tests one after another -/

/-- Those of a list of channels that are OFF make the eligibility tests, in the order of the list: each goes where the tests
take it, and those that pass enter the queue (R103, R107). -/
structure Wakes (chs : List Chan) (s t : State) : Prop where
  sw : ∀ ch : Chan, t.sw[ch] =
    if ch ∈ chs ∧ s.sw[ch].state = .off then { s.sw[ch] with state := s.eligibility ch } else s.sw[ch]
  queue : t.queue = ((chs.filter fun ch => decide (s.sw[ch].state = .off ∧ s.eligibility ch = .queued)).map
    s.entryOf).foldl placeEntry s.queue
  beside : t.besideWaiting = s.besideWaiting

theorem Wakes.nil (s : State) : Wakes [] s s := ⟨fun _ => by simp, rfl, rfl⟩

/-- A channel of another state makes no test. -/
theorem Wakes.stays {s : State} {ch : Chan} (h : s.sw[ch].state ≠ .off) : Wakes [ch] s s :=
  ⟨fun c => by rw [if_neg]; rintro ⟨hc, off⟩; exact h (List.mem_singleton.mp hc ▸ off),
    by simp [-Fin.getElem_fin, h], rfl⟩

/-- A channel in OFF makes the tests. -/
theorem Wakes.tests {s : State} {ch : Chan} (h : s.sw[ch].state = .off) : Wakes [ch] s (s.testEligible ch) := by
  rw [State.testEligible_eligibility]
  refine ⟨fun c => ?_, ?_, State.goTo_besideWaiting ..⟩
  · rw [State.goTo_sw]
    by_cases hc : c = ch
    · simp [-Fin.getElem_fin, hc, h]
    · simp [hc]
  · rw [State.goTo_queue]
    by_cases hq : s.eligibility ch = .queued <;> simp [-Fin.getElem_fin, hq, h]

/-- The tests of one channel leave those of the others. -/
theorem Wakes.eligibility {chs : List Chan} {s t : State} (h : Wakes chs s t) (ch : Chan) :
    t.eligibility ch = s.eligibility ch := by
  refine State.eligibility_congr h.beside (fun c => ?_) (fun c => ?_) (fun c => ?_) ch <;>
    · rw [h.sw]
      split <;> rfl

theorem Wakes.entryOf {chs : List Chan} {s t : State} (h : Wakes chs s t) (ch : Chan) : t.entryOf ch = s.entryOf ch := by
  have ret : t.ret = s.ret := (congrArg State.ret h.beside :)
  have target : t.sw[ch].target = s.sw[ch].target := by
    rw [h.sw]
    split <;> rfl
  simp only [State.entryOf, State.chan, ret, target]

theorem Wakes.cons {c : Chan} {chs : List Chan} {s u t : State} (first : Wakes [c] s u) (rest : Wakes chs u t)
    (hc : c ∉ chs) : Wakes (c :: chs) s t := by
  have other {ch : Chan} (h : ch ∈ chs) : u.sw[ch] = s.sw[ch] := by
    rw [first.sw, if_neg]
    rintro ⟨here, -⟩
    exact hc (List.mem_singleton.mp here ▸ h)
  refine ⟨fun ch => ?_, ?_, rest.beside.trans first.beside⟩
  · rw [rest.sw]
    by_cases h : ch ∈ chs
    · rw [other h, first.eligibility]
      simp [h]
    · rw [if_neg (by simp [h]), first.sw]
      simp [h]
  · have same : (chs.filter fun ch => decide (u.sw[ch].state = .off ∧ u.eligibility ch = .queued)) =
        chs.filter fun ch => decide (s.sw[ch].state = .off ∧ s.eligibility ch = .queued) :=
      List.filter_congr fun ch h => by rw [other h, first.eligibility]
    have entries : u.entryOf = s.entryOf := funext first.entryOf
    rw [rest.queue, first.queue, same, entries, ← List.foldl_append, ← List.map_append, ← List.filter_append]
    rfl

/-- The second pass of a hand-off whose targets are not 0, over channels that are OFF or LOCKED (R100, R101). -/
theorem State.passNonZero_wakes (target : Chan → Level) {chs : List Chan} {s : State} (hn : chs.Nodup)
    (hl : ∀ ch ∈ chs, target ch ≠ 0) (hs : ∀ ch ∈ chs, s.sw[ch].state = .off ∨ s.sw[ch].state = .locked) :
    Wakes chs s (s.passNonZero (chs.map fun ch => (ch, target ch))) := by
  induction chs generalizing s with
  | nil => exact .nil s
  | cons c chs ih =>
    obtain ⟨hc, hn⟩ := List.nodup_cons.mp hn
    rw [List.forall_mem_cons] at hl hs
    have first : Wakes [c] s (s.targetNonZero c (target c)) := by
      obtain off | locked := hs.1
      · simp only [State.targetNonZero, off]
        exact .tests off
      · simp only [State.targetNonZero, locked]
        exact .stays (by rw [locked]; simp)
    have other (ch : Chan) (h : ch ∈ chs) : (s.targetNonZero c (target c)).sw[ch] = s.sw[ch] := by
      rw [first.sw, if_neg]
      rintro ⟨here, -⟩
      exact hc (List.mem_singleton.mp here ▸ h)
    have rest := ih (s := s.targetNonZero c (target c)) hn hl.2 fun ch h => by rw [other ch h]; exact hs.2 ch h
    have step : s.passNonZero ((c :: chs).map fun ch => (ch, target ch)) =
        (s.targetNonZero c (target c)).passNonZero (chs.map fun ch => (ch, target ch)) := by
      simp [State.passNonZero, hl.1]
    rw [step]
    exact first.cons rest hc

/-- The first pass of a hand-off whose targets are not 0 changes nothing (R100). -/
theorem State.passZero_nonZero {ts : List (Chan × Level)} (s : State) (h : ∀ t ∈ ts, t.2 ≠ 0) : s.passZero ts = s := by
  induction ts with
  | nil => rfl
  | cons t ts ih =>
    rw [List.forall_mem_cons] at h
    simpa [State.passZero, h.1] using ih h.2

/-- The targets of a hand-off, recorded (R100). -/
theorem State.recordTargets_sw (target : Chan → Level) (chs : List Chan) (s : State) (c : Chan) :
    (s.recordTargets (chs.map fun ch => (ch, target ch))).sw[c] =
      if c ∈ chs then { s.sw[c] with target := target c } else s.sw[c] := by
  induction chs generalizing s with
  | nil => rfl
  | cons ch chs ih =>
    refine (ih _).trans ?_
    rw [State.setSw_sw, set_getElem]
    by_cases h : c = ch
    · subst h
      simp
    · simp [h]

theorem State.recordTargets_eq (ts : List (Chan × Level)) (s : State) :
    s.recordTargets ts = { s with sw := (s.recordTargets ts).sw } := by
  induction ts generalizing s with
  | nil => rfl
  | cons t ts ih => exact ih _

/-! ### The Switching Queue (R107) -/

/-- Entries placed one after another: the FIRST ones after the FIRST, the NORMAL ones at the end (R107). -/
theorem foldl_placeEntry {first normal : List QueueEntry} (es : List QueueEntry)
    (hf : ∀ e ∈ first, e.queueClass = .first) (hn : ∀ e ∈ normal, e.queueClass = .normal) :
    es.foldl placeEntry (first ++ normal) = (first ++ ofClass .first es) ++ (normal ++ ofClass .normal es) := by
  induction es generalizing first normal with
  | nil => simp [ofClass]
  | cons e es ih =>
    have keep : first.filter (fun x => decide (x.queueClass = .first)) = first := List.filter_eq_self.mpr (by simpa using hf)
    have none : first.filter (fun x => decide (x.queueClass ≠ .first)) = [] := List.filter_eq_nil_iff.mpr (by simpa using hf)
    have keep' : normal.filter (fun x => decide (x.queueClass ≠ .first)) = normal :=
      List.filter_eq_self.mpr fun x hx => by simp [hn x hx]
    have none' : normal.filter (fun x => decide (x.queueClass = .first)) = [] :=
      List.filter_eq_nil_iff.mpr fun x hx => by simp [hn x hx]
    cases he : e.queueClass with
    | first =>
      have place : placeEntry (first ++ normal) e = (first ++ [e]) ++ normal := by
        simp only [placeEntry, he, List.filter_append, keep, none, keep', none']
        simp
      rw [List.foldl_cons, place, ih (by simpa [or_imp, forall_and, he] using hf) hn]
      simp [ofClass, he]
    | normal =>
      have place : placeEntry (first ++ normal) e = first ++ (normal ++ [e]) := by
        simp [placeEntry, he]
      rw [List.foldl_cons, place, ih hf (by simpa [or_imp, forall_and, he] using hn)]
      simp [ofClass, he]

/-- The entries of a queue that was empty (R107). -/
theorem foldl_placeEntry_nil (es : List QueueEntry) :
    es.foldl placeEntry [] = ofClass .first es ++ ofClass .normal es :=
  foldl_placeEntry (first := []) (normal := []) es (by simp) (by simp)

/-- The two classes part a list of entries. -/
theorem ofClass_perm (es : List QueueEntry) : (ofClass .first es ++ ofClass .normal es).Perm es := by
  have normal : ofClass .normal es = es.filter fun e => !decide (e.queueClass = .first) :=
    List.filter_congr fun e _ => by cases e.queueClass <;> rfl
  rw [normal]
  exact List.filter_append_perm ..

/-! ### Admissions (R109) -/

/-- The level an admission starts at is below the entry's exactly where the channel rises to it (R109, R113). -/
theorem admissionLevel_eq (r : ChanRec) (l : Level) : admissionLevel r l = if risesTo r l then 1 else l := by
  have rises : (ramps r && decide (1 < l)) = risesTo r l := by
    simp only [ramps, risesTo, ← Bool.decide_and, and_assoc]
  rw [admissionLevel, rises]

theorem admissionLevel_ne_iff (r : ChanRec) (l : Level) : admissionLevel r l ≠ l ↔ risesTo r l = true := by
  rw [admissionLevel_eq]
  cases h : risesTo r l with
  | false => simp
  | true =>
    obtain ⟨-, -, above⟩ := of_decide_eq_true h
    simpa using above.ne

/-- The admitted channel's record among all records (R109, R113). -/
theorem State.admitEntry_sw (e : QueueEntry) (s : State) (c : Chan) :
    (s.admitEntry e).sw[c] =
      if c = e.chan then admittedRecord s.ret.channels[e.chan] s.runCount s.sw[e.chan] e.level else s.sw[c] := by
  unfold State.admitEntry
  rw [State.goTo_sw]
  split
  · have starts := admissionLevel_ne_iff (s.chan e.chan) e.level
    have level := admissionLevel_eq (s.chan e.chan) e.level
    have chan : s.ret.channels[e.chan] = s.chan e.chan := rfl
    simp only [State.setFault_sw, State.setSw_sw, set_getElem_self, admittedRecord, chan]
    cases h : risesTo (s.chan e.chan) e.level with
    | false =>
      have same : admissionLevel (s.chan e.chan) e.level = e.level := by simp [level, h]
      simp [same]
    | true =>
      have one : admissionLevel (s.chan e.chan) e.level = 1 := by simp [level, h]
      have below : (1 : Level) ≠ e.level := one ▸ starts.mpr h
      simp [one, below]
  · rename_i other
    simp only [State.setFault_sw, State.setSw_sw, set_getElem_ne _ _ other]

/-- The admitted channel's clean-run timer starts (R131). -/
theorem State.admitEntry_faults (e : QueueEntry) (s : State) (c : Chan) :
    (s.admitEntry e).faults[c] =
      if c = e.chan then { s.faults[e.chan] with cleanRunning := true } else s.faults[c] := by
  unfold State.admitEntry
  rw [State.goTo_frame]
  exact set_getElem ..

theorem State.admitEntry_queue (e : QueueEntry) (s : State) : (s.admitEntry e).queue = s.queue := State.goTo_queue ..

theorem State.admitEntry_timers (e : QueueEntry) (s : State) :
    (s.admitEntry e).lastAdm = s.runCount ∧ (s.admitEntry e).staggerPast = false := by
  unfold State.admitEntry
  rw [State.goTo_frame]
  exact ⟨rfl, rfl⟩

theorem State.admitEntry_beside (e : QueueEntry) (s : State) : (s.admitEntry e).besideAdmitted = s.besideAdmitted := by
  unfold State.admitEntry
  exact (State.besideAdmitted_of_besideWaiting (State.goTo_besideWaiting ..)).trans rfl

/-- A stagger interval of 0 has always elapsed (R109). -/
theorem State.staggerElapsed_zero {s : State} (h : s.ret.stagger = 0) : s.staggerElapsed = true := by
  simp [State.staggerElapsed_iff, State.staggerOver, h]

/-- Every channel of the queue is admitted, in the order of the queue (R109). -/
structure AdmitsAll (s t : State) : Prop where
  queue : t.queue = []
  beside : t.besideAdmitted = s.besideAdmitted
  admitted : ∀ e ∈ s.queue, t.sw[e.chan] = admittedRecord s.ret.channels[e.chan] s.runCount s.sw[e.chan] e.level ∧
    t.faults[e.chan] = { s.faults[e.chan] with cleanRunning := true }
  still : ∀ ch : Chan, (∀ e ∈ s.queue, e.chan ≠ ch) → t.sw[ch] = s.sw[ch] ∧ t.faults[ch] = s.faults[ch]
  lastAdm : t.lastAdm = if s.queue = [] then s.lastAdm else s.runCount
  staggerPast : t.staggerPast = if s.queue = [] then s.staggerPast else false

/-- The head is admitted, and then the rest. -/
theorem AdmitsAll.cons {s t : State} {e : QueueEntry} {rest : List QueueEntry} (hq : s.queue = e :: rest)
    (hn : e.chan ∉ rest.map (·.chan)) (h : AdmitsAll ({ s with queue := rest }.admitEntry e) t) : AdmitsAll s t := by
  obtain ⟨queue, beside, admitted, still, lastAdm, staggerPast⟩ := h
  have kept : ({ s with queue := rest }.admitEntry e).besideAdmitted = s.besideAdmitted :=
    (State.admitEntry_beside ..).trans rfl
  have ret : ({ s with queue := rest }.admitEntry e).ret = s.ret := (congrArg State.ret kept :)
  have run : ({ s with queue := rest }.admitEntry e).runCount = s.runCount := (congrArg State.runCount kept :)
  obtain ⟨adm, past⟩ := State.admitEntry_timers e { s with queue := rest }
  have notHead {x : QueueEntry} (hx : x ∈ rest) : x.chan ≠ e.chan := fun same =>
    hn (same ▸ List.mem_map_of_mem hx)
  simp only [State.admitEntry_queue, ret, run] at admitted still lastAdm staggerPast
  refine ⟨queue, beside.trans kept, ?_, fun ch hch => ?_, ?_, ?_⟩
  · rw [hq, List.forall_mem_cons]
    constructor
    · obtain ⟨sw, faults⟩ := still e.chan fun x hx => notHead hx
      rw [State.admitEntry_sw, if_pos rfl] at sw
      rw [State.admitEntry_faults, if_pos rfl] at faults
      exact ⟨sw, faults⟩
    · intro x hx
      obtain ⟨sw, faults⟩ := admitted x hx
      rw [State.admitEntry_sw, if_neg (notHead hx)] at sw
      rw [State.admitEntry_faults, if_neg (notHead hx)] at faults
      exact ⟨sw, faults⟩
  · rw [hq, List.forall_mem_cons] at hch
    obtain ⟨head, others⟩ := hch
    obtain ⟨sw, faults⟩ := still ch others
    rw [State.admitEntry_sw, if_neg head.symm] at sw
    rw [State.admitEntry_faults, if_neg head.symm] at faults
    exact ⟨sw, faults⟩
  · rw [lastAdm, adm, hq]
    simp
  · rw [staggerPast, past, hq]
    simp

/-- With a stagger interval of 0 the queue empties in one step (R109). -/
theorem State.admitDue_admitsAll {s : State} (hn : (s.queue.map (·.chan)).Nodup) (h : s.ret.stagger = 0) :
    AdmitsAll s s.admitDue := by
  unfold State.admitDue
  generalize hq : s.queue = q at hn
  induction q generalizing s with
  | nil =>
    have still : s.admitUpTo ([] : List QueueEntry).length = s := rfl
    rw [still]
    exact ⟨hq, rfl, by simp [hq], fun _ _ => ⟨rfl, rfl⟩, by simp [hq], by simp [hq]⟩
  | cons e rest ih =>
    rw [List.map_cons, List.nodup_cons] at hn
    have step : s.admitUpTo (e :: rest).length = ({ s with queue := rest }.admitEntry e).admitUpTo rest.length := by
      simp only [List.length_cons, State.admitUpTo, hq, State.staggerElapsed_zero h, if_true]
    rw [step]
    have ret : ({ s with queue := rest }.admitEntry e).ret = s.ret :=
      (congrArg State.ret (State.admitEntry_beside e { s with queue := rest }) :)
    exact .cons hq hn.1 (ih (by rw [ret, h]) (State.admitEntry_queue ..) hn.2)

end Sys2Proof.Machine
end

section
/-! The sequencer at a warm start (R126): every channel is OFF or LOCKED with its stamps at the resumption instant, and the
hand-off of the non-zero targets wakes those that may run. -/

namespace Sys2Proof.Machine

/-- The sequencer and the output stage at the resumption instant, before any hand-off (R126, R140). -/
structure State.AtResumption (s : State) : Prop where
  sw : ∀ ch : Chan, s.sw[ch] = ⟨if s.ret.locks[ch] = true then .locked else .off, 0, 0, s.runCount, false, s.runCount,
    false, s.sw[ch].rampStamp, false⟩
  gaps : ∀ g : Group, s.gapStamps[g.idx] = ⟨s.runCount, false⟩
  queue : s.queue = []
  lastAdm : s.lastAdm = s.runCount
  staggerPast : s.staggerPast = false
  faults : ∀ ch : Chan, s.faults[ch] = ⟨0, 0, none, false⟩

/-- The hand-off of the targets that are not 0, in ascending order (R97). -/
def wakingHandOff (target : Chan → Level) : List (Chan × Level) :=
  ((List.finRange 16).filter fun ch => decide (target ch ≠ 0)).map fun ch => (ch, target ch)

/-- A changeover gap runs from the resumption instant for the channel. -/
def State.gapRuns (s : State) (ch : Chan) : Bool :=
  match s.ret.channels[ch].group with
  | some g => decide (s.ret.gaps[g.idx] ≠ 0)
  | none => false

/-- Where the hand-off takes a channel, before the head of the queue is tested. -/
def State.wokenState (s : State) (target : Chan → Level) (ch : Chan) : SwState :=
  if s.ret.locks[ch] = true then .locked else if target ch = 0 then .off else s.eligibility ch

/-- Where a channel stands after the hand-off (R126). -/
def State.resumedState (s : State) (target : Chan → Level) (ch : Chan) : SwState :=
  if s.ret.locks[ch] = true then .locked
  else if target ch = 0 then .off
  else if s.pinTaken = true ∨ s.ret.hostLatch = true then .hold .allOff
  else if s.ret.channels[ch].minOff ≠ 0 then .hold .dwell
  else if s.gapRuns ch = true then .hold .group
  else if s.ret.stagger ≠ 0 then .queued
  else .on

/-- A channel's record at the resumption instant, in a switching state with a target (R126). -/
def State.resumptionRecord (s : State) (ch : Chan) (st : SwState) (target : Level) : Switching :=
  ⟨st, target, 0, s.runCount, false, s.runCount, false, s.sw[ch].rampStamp, false⟩

section Resumption

variable {s : State} (h : s.AtResumption)
include h

theorem State.AtResumption.applied (ch : Chan) : s.sw[ch].applied = 0 := by rw [h.sw]

theorem State.AtResumption.state (ch : Chan) :
    s.sw[ch].state = if s.ret.locks[ch] = true then SwState.locked else SwState.off := by rw [h.sw]

/-- A dwell, a gap and a stagger interval that start at the resumption instant run unless their length is 0 (R99). -/
theorem State.AtResumption.minOffElapsed (ch : Chan) :
    s.minOffElapsed ch = decide (s.ret.channels[ch].minOff = 0) := by
  rw [Bool.eq_iff_iff, State.minOffElapsed_iff, State.minOffOver, h.sw]
  simp [← BitVec.toNat_inj]

theorem State.AtResumption.gapElapsed (g : Group) : s.gapElapsed g = decide (s.ret.gaps[g.idx] = 0) := by
  rw [Bool.eq_iff_iff, State.gapElapsed, h.gaps, elapsedOrPast_iff]
  simp [← BitVec.toNat_inj]

theorem State.AtResumption.staggerOver_iff : s.staggerOver ↔ s.ret.stagger = 0 := by
  rw [State.staggerOver, h.staggerPast, h.lastAdm]
  simp [← BitVec.toNat_inj]

/-- With nothing applied, a group is busy exactly while its gap runs (R103). -/
theorem State.AtResumption.blockedByGroup (ch : Chan) : s.blockedByGroup ch = s.gapRuns ch := by
  unfold State.blockedByGroup State.gapRuns State.chan
  cases s.ret.channels[ch].group with
  | none => rfl
  | some g => simp [-Fin.getElem_fin, State.groupBusy, h.gapElapsed, h.applied]

/-- A channel that passes the tests waits for the stagger timer, which has elapsed where there is no interval (R109, R126). -/
theorem State.AtResumption.resumedState_eq (target : Chan → Level) (ch : Chan) :
    s.resumedState target ch =
      if s.wokenState target ch = .queued ∧ s.ret.stagger = 0 then .on else s.wokenState target ch := by
  unfold State.resumedState State.wokenState State.eligibility State.allOff
  rw [h.minOffElapsed, h.blockedByGroup]
  by_cases hs : s.ret.stagger = 0 <;> split_ifs <;> simp_all

end Resumption

/-! ### The hand-off -/

/-- The channels have made the tests: those that pass wait in the queue. -/
structure State.Woken (s : State) (target : Chan → Level) (u : State) : Prop where
  sw : ∀ ch : Chan, u.sw[ch] = s.resumptionRecord ch (s.wokenState target ch) (target ch)
  queue : u.queue = (((List.finRange 16).filter fun ch => decide (s.wokenState target ch = .queued)).map fun ch =>
    ⟨ch, s.ret.channels[ch].queueClass, target ch⟩).foldl placeEntry []
  beside : u.besideWaiting = s.besideWaiting

/-- The passes of the hand-off. -/
theorem State.AtResumption.woken {s : State} (h : s.AtResumption) (target : Chan → Level) :
    s.Woken target (((s.recordTargets (wakingHandOff target)).passZero (wakingHandOff target)).passNonZero
      (wakingHandOff target)) := by
  have nonZero : ∀ t ∈ wakingHandOff target, t.2 ≠ 0 := by simp [wakingHandOff]
  rw [State.passZero_nonZero _ nonZero]
  generalize hr : s.recordTargets (wakingHandOff target) = r
  have sw (ch : Chan) : r.sw[ch] = { s.sw[ch] with target := target ch } := by
    rw [← hr]
    refine (State.recordTargets_sw ..).trans ?_
    split
    · rfl
    · rename_i absent
      have zero : target ch = 0 := by simpa using absent
      rw [zero, h.sw]
  have beside : r.besideWaiting = s.besideWaiting := by rw [← hr, State.recordTargets_eq]; rfl
  have tests (ch : Chan) : r.eligibility ch = s.eligibility ch :=
    State.eligibility_congr beside (fun c => by rw [sw]) (fun c => by rw [sw]) (fun c => by rw [sw]) ch
  have ret : r.ret = s.ret := (congrArg State.ret beside :)
  have state (ch : Chan) : r.sw[ch].state = if s.ret.locks[ch] = true then SwState.locked else SwState.off := by
    rw [sw]
    exact h.state ch
  have wakes : Wakes ((List.finRange 16).filter fun ch => decide (target ch ≠ 0)) r
      (r.passNonZero (wakingHandOff target)) := by
    refine State.passNonZero_wakes target ((List.nodup_finRange 16).filter _) (by simp) fun ch _ => ?_
    rw [state]
    split <;> simp
  refine ⟨fun ch => ?_, ?_, wakes.beside.trans beside⟩
  · rw [wakes.sw, tests, state, sw, h.sw]
    unfold State.resumptionRecord State.wokenState
    by_cases locked : s.ret.locks[ch] = true
    · simp [-Fin.getElem_fin, locked]
    · by_cases zero : target ch = 0 <;> simp [-Fin.getElem_fin, locked, zero]
  · have entries : r.entryOf = fun ch => ⟨ch, s.ret.channels[ch].queueClass, target ch⟩ := funext fun ch => by
      simp only [State.entryOf, State.chan, ret, sw]
    have waiting : (((List.finRange 16).filter fun ch => decide (target ch ≠ 0)).filter fun ch =>
        decide (r.sw[ch].state = .off ∧ r.eligibility ch = .queued)) =
        (List.finRange 16).filter fun ch => decide (s.wokenState target ch = .queued) := by
      rw [List.filter_filter]
      refine List.filter_congr fun ch _ => ?_
      rw [tests, state, State.wokenState]
      by_cases locked : s.ret.locks[ch] = true
      · simp [-Fin.getElem_fin, locked]
      · by_cases zero : target ch = 0 <;> simp [-Fin.getElem_fin, locked, zero]
    have empty : r.queue = [] := by
      rw [← hr, State.recordTargets_eq]
      exact h.queue
    rw [wakes.queue, waiting, entries, empty]

/-- An event that finds the queue empty has the head tested, if there is one. -/
theorem sequencerEvent_of_empty {s : State} (f : State → State) (h : s.queue = []) :
    sequencerEvent f s = (f s).admitDue.postLevels (levelChanges s (f s).admitDue) := by
  have tested : (if admissionTested s (f s) then (f s).admitDue else f s) = (f s).admitDue := by
    cases hq : (f s).queue with
    | nil => rw [State.admitDue_nil hq, ite_self]
    | cons e rest => simp [admissionTested, State.head, h, hq]
  simp only [sequencerEvent, tested]

/-- What a hand-off of targets leaves of a part at the resumption instant (R103, R107, R109, R115, R126). -/
structure State.Resumes (s : State) (target : Chan → Level) (t : State) : Prop where
  sw : ∀ ch : Chan,
    let w := s.resumptionRecord ch (s.resumedState target ch) (target ch)
    t.sw[ch] = if s.resumedState target ch = .on then admittedRecord s.ret.channels[ch] s.runCount w (target ch) else w
  faults : ∀ ch : Chan, t.faults[ch] = ⟨0, 0, none, decide (s.resumedState target ch = .on)⟩
  queue : t.queue = ([QueueClass.first, .normal].flatMap fun c => ((List.finRange 16).filter fun ch =>
    decide (s.resumedState target ch = .queued) && decide (s.ret.channels[ch].queueClass = c)).map fun ch =>
      ⟨ch, c, target ch⟩)
  beside : t.besideAdmitted = s.besideAdmitted
  lastAdm : t.lastAdm = s.runCount
  staggerPast : t.staggerPast = false

/-- The entries of one class, from the channels that wait. -/
theorem ofClass_entries (p : Chan → Bool) (cls : Chan → QueueClass) (target : Chan → Level) (c : QueueClass) :
    ofClass c (((List.finRange 16).filter p).map fun ch => ⟨ch, cls ch, target ch⟩) =
      ((List.finRange 16).filter fun ch => p ch && decide (cls ch = c)).map fun ch => ⟨ch, c, target ch⟩ := by
  rw [ofClass, List.filter_map, List.filter_filter]
  have same : ((List.finRange 16).filter fun ch =>
      ((fun e : QueueEntry => decide (e.queueClass = c)) ∘ fun ch => ⟨ch, cls ch, target ch⟩) ch && p ch) =
      (List.finRange 16).filter fun ch => p ch && decide (cls ch = c) :=
    List.filter_congr fun ch _ => Bool.and_comm ..
  rw [same]
  refine List.map_congr_left fun ch hch => ?_
  simp only [List.mem_filter, Bool.and_eq_true, decide_eq_true_eq] at hch
  rw [hch.2.2]

/-- The tests take no channel to ON. -/
theorem State.wokenState_ne_on (s : State) (target : Chan → Level) (ch : Chan) : s.wokenState target ch ≠ .on := by
  unfold State.wokenState State.eligibility
  split_ifs <;> simp

section Admission

variable {s u : State} {target : Chan → Level} (hu : s.Woken target u)
include hu

/-- The queue holds an entry of each channel that waits, and no other. -/
theorem State.Woken.mem_queue (e : QueueEntry) : e ∈ u.queue ↔
    s.wokenState target e.chan = .queued ∧ e = ⟨e.chan, s.ret.channels[e.chan].queueClass, target e.chan⟩ := by
  rw [hu.queue, foldl_placeEntry_nil, (ofClass_perm _).mem_iff]
  simp only [List.mem_map, List.mem_filter, List.mem_finRange, true_and, decide_eq_true_eq]
  constructor
  · rintro ⟨ch, queued, rfl⟩
    exact ⟨queued, rfl⟩
  · rintro ⟨queued, same⟩
    exact ⟨e.chan, queued, same.symm⟩

theorem State.Woken.queue_nodup : (u.queue.map (·.chan)).Nodup := by
  rw [hu.queue, foldl_placeEntry_nil, ((ofClass_perm _).map _).nodup_iff, List.map_map]
  exact ((List.nodup_finRange 16).filter _).map fun _ _ same => same

/-- Where the stagger interval is 0, all that wait are admitted (R109). -/
theorem State.Woken.resumes_admitted (h : s.AtResumption) (stagger : s.ret.stagger = 0) :
    s.Resumes target u.admitDue := by
  have ret : u.ret = s.ret := (congrArg State.ret hu.beside :)
  have run : u.runCount = s.runCount := (congrArg State.runCount hu.beside :)
  have faults : u.faults = s.faults := (congrArg State.faults hu.beside :)
  have adm : u.lastAdm = s.runCount := (congrArg State.lastAdm hu.beside :).trans h.lastAdm
  have past : u.staggerPast = false := (congrArg State.staggerPast hu.beside :).trans h.staggerPast
  have admits := State.admitDue_admitsAll hu.queue_nodup (by rw [ret, stagger])
  have state (ch : Chan) : s.resumedState target ch =
      if s.wokenState target ch = .queued then .on else s.wokenState target ch := by
    rw [h.resumedState_eq]
    simp [stagger]
  have channel (ch : Chan) :
      let w := s.resumptionRecord ch (s.resumedState target ch) (target ch)
      u.admitDue.sw[ch] = (if s.resumedState target ch = .on
        then admittedRecord s.ret.channels[ch] s.runCount w (target ch) else w) ∧
      u.admitDue.faults[ch] = ⟨0, 0, none, decide (s.resumedState target ch = .on)⟩ := by
    intro w
    by_cases queued : s.wokenState target ch = .queued
    · have on : s.resumedState target ch = .on := by rw [state, if_pos queued]
      obtain ⟨sw, fault⟩ := admits.admitted ⟨ch, s.ret.channels[ch].queueClass, target ch⟩
        ((hu.mem_queue _).mpr ⟨queued, rfl⟩)
      rw [sw, fault, hu.sw, ret, run, faults, h.faults, if_pos on, on]
      exact ⟨rfl, rfl⟩
    · have same : s.resumedState target ch = s.wokenState target ch := by rw [state, if_neg queued]
      have notOn : s.resumedState target ch ≠ .on := same ▸ s.wokenState_ne_on target ch
      obtain ⟨sw, fault⟩ := admits.still ch fun e he here => queued (here ▸ ((hu.mem_queue e).mp he).1)
      rw [sw, fault, hu.sw, faults, h.faults, if_neg notOn]
      exact ⟨by rw [← same], by simp [notOn]⟩
  refine ⟨fun ch => (channel ch).1, fun ch => (channel ch).2, ?_,
    admits.beside.trans (State.besideAdmitted_of_besideWaiting hu.beside), ?_, ?_⟩
  · have noneWaits (ch : Chan) : s.resumedState target ch ≠ .queued := by
      rw [state]
      split
      · simp
      · assumption
    rw [admits.queue]
    simp [noneWaits]
  · rw [admits.lastAdm, adm, run, ite_self]
  · rw [admits.staggerPast, past, ite_self]

/-- Where there is a stagger interval, all that pass the tests wait (R109). -/
theorem State.Woken.resumes_waiting (h : s.AtResumption) (stagger : s.ret.stagger ≠ 0) :
    s.Resumes target u.admitDue := by
  have ret : u.ret = s.ret := (congrArg State.ret hu.beside :)
  have run : u.runCount = s.runCount := (congrArg State.runCount hu.beside :)
  have faults : u.faults = s.faults := (congrArg State.faults hu.beside :)
  have adm : u.lastAdm = s.lastAdm := (congrArg State.lastAdm hu.beside :)
  have past : u.staggerPast = s.staggerPast := (congrArg State.staggerPast hu.beside :)
  have running : ¬u.staggerOver := by
    rw [State.staggerOver, ret, run, adm, past]
    exact fun elapsed => stagger (h.staggerOver_iff.mp elapsed)
  have state (ch : Chan) : s.resumedState target ch = s.wokenState target ch := by
    rw [h.resumedState_eq, if_neg fun both => stagger both.2]
  have notOn (ch : Chan) : s.resumedState target ch ≠ .on := state ch ▸ s.wokenState_ne_on target ch
  rw [State.admitDue_wait running]
  refine ⟨fun ch => ?_, fun ch => ?_, ?_, State.besideAdmitted_of_besideWaiting hu.beside, ?_, ?_⟩
  · intro w
    rw [if_neg (notOn ch), hu.sw, ← state]
  · rw [faults, h.faults]
    simp [notOn]
  · rw [hu.queue, foldl_placeEntry_nil, ofClass_entries, ofClass_entries]
    simp [-Fin.getElem_fin, state]
  · rw [adm, h.lastAdm]
  · rw [past, h.staggerPast]

theorem State.Woken.resumes (h : s.AtResumption) : s.Resumes target u.admitDue := by
  by_cases stagger : s.ret.stagger = 0
  · exact hu.resumes_admitted h stagger
  · exact hu.resumes_waiting h stagger

end Admission

/-- The group members whose applied level has left 0. -/
def State.drivenMembers (s : State) (sw : Vector Switching 16) : ChanSet :=
  chansWhere fun ch => s.ret.channels[ch].group.isSome && decide (sw[ch].applied ≠ 0)

/-- The waking hand-off, taken at the resumption instant: the channels, and one report of the group members admitted
(R115, R126). -/
theorem State.AtResumption.takeHandOff {s : State} (h : s.AtResumption) (target : Chan → Level) :
    ∃ v, s.Resumes target v ∧
      s.takeHandOff (wakingHandOff target) = v.postLevels (s.drivenMembers v.sw) := by
  have hu := h.woken target
  refine ⟨_, hu.resumes h, ?_⟩
  unfold State.takeHandOff
  rw [sequencerEvent_of_empty _ h.queue]
  have changes : levelChanges s (State.admitDue (((s.recordTargets (wakingHandOff target)).passZero
      (wakingHandOff target)).passNonZero (wakingHandOff target))) = s.drivenMembers (State.admitDue
      (((s.recordTargets (wakingHandOff target)).passZero (wakingHandOff target)).passNonZero (wakingHandOff target))).sw :=
    congrArg chansWhere (funext fun ch => by simp [-Fin.getElem_fin, h.applied, State.chan])
  rw [changes]

end Sys2Proof.Machine
end

section
/-! The resolver and the tables at a warm start (R43, R61, R62, R97). -/

namespace Sys2Proof.Machine

/-! ### The resolver, with every channel and every group in scope (R97) -/

theorem group_ofIdx_idx (g : Group) : Group.ofIdx g.idx = g := by cases g <;> rfl

theorem group_mem_all (g : Group) : g ∈ Group.all := by cases g <;> simp [Group.all]

/-- Arbitration sees the members' groups, resolved levels and ranks, and which of them are driven (R86). -/
theorem arbitrate_congr {s t : State} {res res' : Vector Resolution 16}
    (hgroup : ∀ ch : Chan, (t.chan ch).group = (s.chan ch).group) (hlevel : ∀ ch : Chan, res'[ch].level = res[ch].level)
    (hrank : ∀ ch : Chan, res'[ch].rank = res[ch].rank) (happ : ∀ ch : Chan, t.sw[ch].applied = s.sw[ch].applied)
    (g : Group) : arbitrate t res' g = arbitrate s res g := by
  have beat (a b : Chan) : beats t res' a b = beats s res a b := by
    unfold beats
    simp only [hrank, happ]
  have strong (l : List Chan) : ∀ a : Chan, strongest t res' a l = strongest s res a l := by
    induction l with
    | nil => exact fun _ => rfl
    | cons b l ih => exact fun a => by rw [strongest, strongest, beat, ih]
  have contend : contenders t res' g = contenders s res g := by
    unfold contenders
    simp only [hgroup, hlevel]
  unfold arbitrate
  rw [contend]
  cases contenders s res g with
  | nil => rfl
  | cons a l => exact congrArg some (strong l a)

theorem Scope.whole_ranked (ch : Chan) : Scope.whole.ranked.getLsbD ch.val = true := by
  rw [Scope.whole, BitVec.getLsbD_allOnes]
  exact decide_eq_true ch.isLt

theorem rankedResults_whole (s : State) (ch : Chan) : (rankedResults s .whole)[ch] = rankAfresh s ch s.results[ch] := by
  rw [rankedResults, tab_getElem, if_pos (Scope.whole_ranked ch)]

theorem arbitratedHolders_whole (s : State) (g : Group) :
    (arbitratedHolders s .whole)[g.idx] = arbitrate s (rankedResults s .whole) g := by
  rw [arbitratedHolders, tab_getElem, group_ofIdx_idx,
    if_pos (show g ∈ Scope.whole.groups from group_mem_all g)]

theorem resolved_whole (s : State) (ch : Chan) :
    (resolved s .whole)[ch] = settleTarget s (arbitratedHolders s .whole) ch (rankAfresh s ch s.results[ch]) := by
  rw [resolved, tab_getElem, rankedResults_whole, if_pos]
  rw [inScope, Scope.whole_ranked]
  rfl

/-- The effective target and the mark are all that arbitration settles (R87). -/
theorem settleTarget_keeps (s : State) (holders : Vector (Option Chan) 4) (ch : Chan) (r : Resolution) :
    (settleTarget s holders ch r).source = r.source ∧ (settleTarget s holders ch r).rank = r.rank ∧
      (settleTarget s holders ch r).level = r.level ∧ (settleTarget s holders ch r).verdict = r.verdict := by
  unfold settleTarget
  split
  · exact ⟨rfl, rfl, rfl, rfl⟩
  · split <;> exact ⟨rfl, rfl, rfl, rfl⟩

/-- A result that arbitration has settled is settled (R87). -/
theorem State.settled_of_settleTarget {s : State} {ch : Chan} {r : Resolution}
    (h : s.results[ch] = settleTarget s s.holders ch r) : s.settled ch := by
  unfold State.settled
  unfold settleTarget at h
  cases hg : (s.chan ch).group with
  | none =>
    simp only [hg] at h
    simp only [h, and_self]
  | some g =>
    simp only [hg] at h
    by_cases held : s.holders[g.idx] = some ch
    · rw [if_pos held] at h
      simp only [if_pos held, h, and_self]
    · rw [if_neg held] at h
      simp only [if_neg held, h]
      simp

/-- A ranking always has a first candidate, for the fallback stands in it (R83). -/
theorem ranking_head? (s : State) (ch : Chan) :
    (ranking s ch).head? = some (firstOf (ranking s ch) (s.chan ch).fallback) := by
  unfold firstOf
  cases hr : ranking s ch with
  | nil => simp [ranking, programRanking] at hr
  | cons c cs => rfl

/-! ### The Override Table (R61, R62) -/

/-- The Override Table settled by the resume policy (R61). -/
def settledOverrides (resume : ResumePolicy) (now : RunCount) (t : Vector OvrSlot 16) : Vector OvrSlot 16 :=
  match resume with
  | .drop => retiredWhole t (fun _ _ => true) .restart
  | .keep => retiredWhole t (fun _ r => r.expired now) .expired

theorem State.warmOverrides_eq (s : State) :
    s.warmOverrides = s.settleOverrides (settledOverrides s.ret.resume s.runCount s.ret.overrides) := by
  unfold State.warmOverrides settledOverrides
  cases s.ret.resume <;> rfl

/-- Under DROP every record retires; under KEEP those whose timer has elapsed (R53, R61). -/
theorem settledOverrides_getElem (resume : ResumePolicy) (now : RunCount) (t : Vector OvrSlot 16) (i : OvrIdx) :
    (settledOverrides resume now t)[i] = match t[i].live with
      | none => t[i]
      | some r => match resume, r.kind with
        | .drop, _ => ⟨none, t[i].gen + 1, .restart⟩
        | .keep, .timed start minutes =>
          if minutes * 600 ≤ (now - start).toNat then ⟨none, t[i].gen + 1, .expired⟩ else t[i]
        | .keep, _ => t[i] := by
  unfold settledOverrides
  cases resume with
  | drop =>
    refine (tab_getElem _ i).trans ?_
    cases t[i].live <;> rfl
  | keep =>
    refine (tab_getElem _ i).trans ?_
    cases t[i].live with
    | none => rfl
    | some r =>
      obtain ⟨origin, level, channels, kind, createdAt⟩ := r
      cases kind with
      | timed start minutes => exact if_congr (elapsed_iff ..) rfl rfl
      | untilNext _ | latched => rfl

/-- The channels whose verdict differs from their baseline, under KEEP (R62). -/
def State.movedChannels (s : State) : ChanSet :=
  match s.ret.resume with
  | .keep => chansWhere fun ch => Machine.moved s.ret.overrides ch s.results[ch].verdict
  | .drop => 0

/-- A channel has moved where a live record holds it with another baseline (R52, R62). -/
theorem moved_iff (t : Vector OvrSlot 16) (ch : Chan) (v : Verdict) : Machine.moved t ch v = true ↔
    ∃ (i : OvrIdx) (r : OvrRec) (b : Verdict),
      t[i].live = some r ∧ r.channels.getLsbD ch.val = true ∧ r.baseline ch = some b ∧ b ≠ v := by
  unfold Machine.moved
  simp only [List.any_eq_true, List.mem_finRange, true_and]
  refine exists_congr fun i => ?_
  cases t[i].live with
  | none => simp
  | some r => cases hb : r.baseline ch <;> simp [hb]

theorem State.movedChannels_getLsbD (s : State) (ch : Chan) : s.movedChannels.getLsbD ch.val = true ↔
    s.ret.resume = .keep ∧ ∃ (i : OvrIdx) (r : OvrRec) (b : Verdict),
      s.ret.overrides[i].live = some r ∧ r.channels.getLsbD ch.val = true ∧ r.baseline ch = some b ∧
      b ≠ s.results[ch].verdict := by
  unfold State.movedChannels
  cases hr : s.ret.resume with
  | keep => simp only [chansWhere_getLsbD, moved_iff, true_and]
  | drop => simp

/-- Withdrawing no channel leaves a slot. -/
theorem OvrSlot.withdraw_zero (x : OvrSlot) (reason : OvrReason) : x.withdraw 0 reason = x := by
  unfold OvrSlot.withdraw
  split
  · rfl
  · rw [if_pos (by simp)]

theorem withdrawn_zero (t : Vector OvrSlot 16) (reason : OvrReason) : withdrawn t 0 reason = t := by
  refine Vector.ext fun i hi => ?_
  rw [withdrawn, tab_getElem_nat]
  exact OvrSlot.withdraw_zero _ reason

/-- What a live record still holds after a withdrawal (R50). -/
theorem OvrSlot.withdraw_channels (x : OvrSlot) (cs : ChanSet) (reason : OvrReason) :
    (x.withdraw cs reason).channels = x.channels &&& ~~~cs := by
  obtain ⟨live, gen, was⟩ := x
  cases live with
  | none => simp [OvrSlot.withdraw, OvrSlot.channels]
  | some r =>
    simp only [OvrSlot.withdraw, OvrSlot.channels]
    split_ifs with apart emptied
    · refine chanSet_ext fun ch => ?_
      have bit := congrArg (BitVec.getLsbD · ch.val) apart
      simp only [BitVec.getLsbD_and, BitVec.getLsbD_not, ch.isLt, decide_true] at bit ⊢
      cases h : r.channels.getLsbD ch.val <;> simp_all
    · exact emptied.symm
    · rfl

/-- The channels that leave are those withdrawn that a live record held (R50). -/
theorem leftChannels_withdrawn (t : Vector OvrSlot 16) (cs : ChanSet) (reason : OvrReason) (ch : Chan) :
    (leftChannels t (withdrawn t cs reason)).getLsbD ch.val = true ↔
      cs.getLsbD ch.val = true ∧ ∃ i : OvrIdx, t[i].channels.getLsbD ch.val = true := by
  rw [leftChannels_getLsbD, List.any_eq_true, ← exists_and_left]
  simp only [List.mem_finRange, true_and, withdrawn, tab_getElem, OvrSlot.withdraw_channels]
  refine exists_congr fun i => ?_
  simp only [BitVec.getLsbD_and, BitVec.getLsbD_not, ch.isLt, decide_true]
  cases t[i].channels.getLsbD ch.val <;> simp

/-- The comparison under either policy: the moved channels are withdrawn in one operation (R62). -/
theorem State.compareBaselines_eq {s : State} (h : s.check = ⟨s.ret⟩) :
    s.compareBaselines = s.endOverrides (withdrawn s.ret.overrides s.movedChannels .programChanged) := by
  unfold State.compareBaselines State.movedChannels
  cases s.ret.resume with
  | keep =>
    have channels : (chansWhere fun ch => ((List.finRange 16).map fun c => (c, s.results[c].verdict)).any fun v =>
        decide (v.1 = ch) && Machine.moved s.ret.overrides ch v.2) =
        chansWhere fun ch => Machine.moved s.ret.overrides ch s.results[ch].verdict :=
      congrArg chansWhere (funext fun ch => by rw [Bool.eq_iff_iff]; simp [-Fin.getElem_fin])
    exact congrArg (fun cs => s.endOverrides (withdrawn s.ret.overrides cs .programChanged)) channels
  | drop =>
    have left : leftChannels s.ret.overrides s.ret.overrides = 0 :=
      chanSet_ext fun ch => by rw [leftChannels_getLsbD]; simp
    have freed : freedSlots s.ret.overrides s.ret.overrides = 0 :=
      chanSet_ext fun ch => by rw [freedSlots, chansWhere_getLsbD]; cases (s.ret.overrides[ch]).live <;> simp
    have changed : changedCount s.ret.overrides s.ret.overrides = 0 := by simp [changedCount]
    rw [withdrawn_zero, State.endOverrides_eq, left, freed, changed]
    simp [asRequest, ← h]

end Sys2Proof.Machine
end

section
/-! The warm start, in the order of R164: the tables settled, every channel and group resolved, the hand-off taken, the
baselines compared. -/

namespace Sys2Proof.Machine

/-! ### The tables settled -/

/-- What the evaluation at a warm start judges against: the gates are as the gate unit has just set them (R43, R75). -/
def State.warmPresent (s : State) : Present :=
  ⟨s.runCount, s.cal.present, s.ret.clockValid, tab fun g => GateWork.warm s.ret.gates[g].enabled⟩

/-- The Program Table retired, evaluated and stamped alike (R43). -/
def State.warmTable (s : State) : Vector ProgSlot 96 :=
  tab fun i => (s.ret.programs[i].retireOrEvaluate s.warmPresent).restamp s.runCount

/-- The Override Table settled (R61). -/
def State.warmSettled (s : State) : Vector OvrSlot 16 := settledOverrides s.ret.resume s.runCount s.ret.overrides

/-- The retained store with both tables settled (R38, R43, R61). -/
def State.warmRet (s : State) : Retained :=
  { s.ret with
    programs := s.warmTable
    overrides := s.warmSettled
    epoch := s.ret.epoch + BitVec.ofNat 16 (retiringCount s.warmPresent s.ret.programs) +
      BitVec.ofNat 16 (changedCount s.ret.overrides s.warmSettled) }

/-- The part once every block but the resolver and the sequencer's hand-off has taken its part of a warm start (R164). -/
def State.resumed (pin : Bool) (s : State) : State :=
  { s with
    ret := s.warmRet
    check := ⟨s.warmRet⟩
    gates := tab fun g => GateWork.warm s.ret.gates[g].enabled
    sw := tab fun ch => s.sw[ch].warm s.ret.locks[ch] s.runCount
    gapStamps := tabConst 4 ⟨s.runCount, false⟩
    queue := []
    lastAdm := s.runCount
    staggerPast := false
    pinTaken := pin
    faults := tabConst 16 .cold
    keys := tabConst 8 .start
    att := { Pending.none with
      program := 0 ||| retiring s.warmPresent s.ret.programs
      override := 0 ||| freedSlots s.ret.overrides s.warmSettled }
    link := { Link.start with miso := s.link.miso }
    sup := { s.sup with state := .running, backupLost := false, coldRequest := false, startingFor := 0 }
    mail := .empty }

theorem State.settleOverrides_eq (t : Vector OvrSlot 16) (s : State) : s.settleOverrides t = { s with
    ret := { s.ret with
      overrides := t
      epoch := s.ret.epoch + BitVec.ofNat 16 (changedCount s.ret.overrides t) }
    check := ⟨{ s.ret with
      overrides := t
      epoch := s.ret.epoch + BitVec.ofNat 16 (changedCount s.ret.overrides t) }⟩
    att := { s.att with override := s.att.override ||| freedSlots s.ret.overrides t } } := rfl

theorem State.warmPrograms_eq (s : State) : s.warmPrograms = { s with
    ret := { s.ret with
      programs := tab fun i => (s.ret.programs[i].retireOrEvaluate s.present).restamp s.runCount
      epoch := s.ret.epoch + BitVec.ofNat 16 (retiringCount s.present s.ret.programs) }
    check := ⟨{ s.ret with
      programs := tab fun i => (s.ret.programs[i].retireOrEvaluate s.present).restamp s.runCount
      epoch := s.ret.epoch + BitVec.ofNat 16 (retiringCount s.present s.ret.programs) }⟩
    att := { s.att with program := s.att.program ||| retiring s.present s.ret.programs } } := rfl

theorem State.resumed_eq (pin : Bool) (s : State) :
    (s.startCommon pin).warmGates.warmFaults.warmSequencer.warmPrograms.warmOverrides = s.resumed pin := by
  rw [State.warmOverrides_eq, State.settleOverrides_eq, State.warmPrograms_eq]
  rfl

/-- The sequencer then stands at the resumption instant (R126, R140). -/
theorem State.resumed_atResumption (pin : Bool) (s : State) : (s.resumed pin).resolveAfresh.AtResumption where
  sw ch := by
    have sw : (s.resumed pin).resolveAfresh.sw[ch] = s.sw[ch].warm s.ret.locks[ch] s.runCount := tab_getElem _ ch
    rw [sw]
    rfl
  gaps g := tabConst_getElem 4 _ g.idx
  queue := rfl
  lastAdm := rfl
  staggerPast := rfl
  faults ch := tabConst_getElem 16 _ ch

/-! ### The closed form -/

/-- The sequencer's part: the waking hand-off raises no CHANNEL flag (R116, R126). -/
theorem State.AtResumption.warmTargets {s : State} (h : s.AtResumption) :
    ∃ v, s.Resumes (fun ch => s.results[ch].target) v ∧
      s.warmTargets = { s with
        sw := v.sw
        faults := v.faults
        queue := v.queue
        mail := { s.mail with levelReports := s.mail.levelReports ++ asRequest (s.drivenMembers v.sw) } } := by
  obtain ⟨v, hv, taken⟩ := h.takeHandOff fun ch => s.results[ch].target
  refine ⟨v, hv, ?_⟩
  have hand : warmHandOff s.results = wakingHandOff fun ch => s.results[ch].target := rfl
  have adm : v.lastAdm = s.lastAdm := hv.lastAdm.trans h.lastAdm.symm
  have past : v.staggerPast = s.staggerPast := hv.staggerPast.trans h.staggerPast.symm
  have whole := State.eq_of_besideAdmitted hv.beside
  rw [adm, past] at whole
  rw [State.warmTargets, hand, taken, State.postLevels_eq]
  generalize v.sw = sw, v.faults = faults, v.queue = queue, v.att.channel = channel at whole ⊢
  rw [whole]

/-- The channels withdrawn by the comparison at a warm start (R62). -/
def State.warmMoved (pin : Bool) (s : State) : ChanSet := (s.resumed pin).resolveAfresh.movedChannels

/-- The retained store after the comparison (R38, R62). -/
def State.warmFinalRet (pin : Bool) (s : State) : Retained :=
  { s.warmRet with
    overrides := withdrawn s.warmSettled (s.warmMoved pin) .programChanged
    epoch := s.warmRet.epoch +
      BitVec.ofNat 16 (changedCount s.warmSettled (withdrawn s.warmSettled (s.warmMoved pin) .programChanged)) }

/-- The part after a warm start, from what the sequencer's hand-off left of the channels. -/
def State.warmed (pin : Bool) (s v : State) : State :=
  { s.resumed pin with
    ret := s.warmFinalRet pin
    check := ⟨s.warmFinalRet pin⟩
    results := resolved (s.resumed pin) .whole
    holders := arbitratedHolders (s.resumed pin) .whole
    sw := v.sw
    faults := v.faults
    queue := v.queue
    att := { (s.resumed pin).att with
      override := (s.resumed pin).att.override |||
        freedSlots s.warmSettled (withdrawn s.warmSettled (s.warmMoved pin) .programChanged)
      start := true
      clock := !s.ret.clockValid }
    mail := { Mail.empty with
      requests := asRequest (leftChannels s.warmSettled
        (withdrawn s.warmSettled (s.warmMoved pin) .programChanged))
      levelReports := asRequest ((s.resumed pin).drivenMembers v.sw) } }

/-- An INVALID clock is reported at a start (R163, R164). -/
theorem State.reportClock_eq (s : State) : (if s.ret.clockValid then s else s.raiseClock) =
    { s with att := { s.att with clock := s.att.clock || !s.ret.clockValid } } := by
  cases valid : s.ret.clockValid with
  | true => simp
  | false => simp [State.raiseClock]

theorem State.warmStart_eq (pin : Bool) (s : State) :
    ∃ v, (s.resumed pin).resolveAfresh.Resumes (fun ch => (resolved (s.resumed pin) .whole)[ch].target) v ∧
      s.warmStart pin = s.warmed pin v := by
  obtain ⟨v, hv, targets⟩ := (s.resumed_atResumption pin).warmTargets
  refine ⟨v, hv, ?_⟩
  rw [State.warmStart, State.resumed_eq, State.reportClock_eq, targets, State.compareBaselines_eq rfl,
    State.endOverrides_eq]
  rfl

end Sys2Proof.Machine
end

section
/-! A warm start keeps the retained items (R164): what the part after it holds, block by block. -/

namespace Sys2Proof.Machine

/-! ### The Program Table (R35, R43) -/

/-- A slot at a warm start: ended, or evaluated with an ACTIVE record's stamp at the resumption instant (R43). -/
theorem ProgSlot.warm_eq (x : ProgSlot) (p : Present) (now : RunCount) :
    (x.retireOrEvaluate p).restamp now = match x.live with
      | none => x
      | some r =>
        if p.valid = true ∧ r.defn.timing.ended p.time = true then ⟨none, x.gen + 1, .ended⟩
        else { x with live := some { r with state :=
          match (r.evaluate p).state with
          | .active _ => .active now
          | st => st } } := by
  rw [ProgSlot.retireOrEvaluate_eq]
  obtain ⟨live, gen, reason⟩ := x
  cases live with
  | none => rfl
  | some r =>
    have defn : (r.evaluate p).defn = r.defn := by
      unfold ProgRec.evaluate
      split <;> rfl
    by_cases ended : p.valid = true ∧ r.defn.timing.ended p.time = true
    · simp only [if_pos ended]
      rfl
    · simp only [if_neg ended]
      generalize r.evaluate p = e at defn ⊢
      obtain ⟨d, st⟩ := e
      obtain rfl : d = r.defn := defn
      cases st <;> rfl

/-- Stamping frees no slot. -/
theorem retires_restamp (x : ProgSlot) (p : Present) (now : RunCount) :
    retires p x = (x.live.isSome && ((x.retireOrEvaluate p).restamp now).live.isNone) := by
  rw [retires_eq, ProgSlot.restamp, Option.isNone_map]

/-! ### The resolver (R83 to R87, R97) -/

/-- What the resolver saw of the part after a warm start: the tables settled, and nothing applied. -/
def State.asRanked (settled : Vector OvrSlot 16) (t : State) : State :=
  { t with ret := { t.ret with overrides := settled }, sw := tabConst 16 Switching.cold }

theorem ranking_asRanked (pin : Bool) (s v : State) (ch : Chan) :
    ranking ((s.warmed pin v).asRanked s.warmSettled) ch = ranking (s.resumed pin) ch := by
  unfold ranking programRanking State.chan
  rfl

theorem verdictOf_asRanked (pin : Bool) (s v : State) (ch : Chan) :
    verdictOf ((s.warmed pin v).asRanked s.warmSettled) ch = verdictOf (s.resumed pin) ch := by
  unfold verdictOf programRanking State.chan
  rfl

theorem State.warmed_results (pin : Bool) (s v : State) (ch : Chan) :
    (s.warmed pin v).results[ch] = settleTarget (s.resumed pin) (s.warmed pin v).holders ch
      (rankAfresh (s.resumed pin) ch s.results[ch]) :=
  resolved_whole (s.resumed pin) ch

/-- Every channel's result is of the first candidate of its ranking, and settled (R85, R87). -/
theorem State.warmed_ranked (pin : Bool) (s v : State) (ch : Chan) :
    let t := s.warmed pin v
    let seen := t.asRanked s.warmSettled
    ∃ c, (ranking seen ch).head? = some c ∧ t.results[ch].source = c.source ∧ t.results[ch].rank = c.rank ∧
      t.results[ch].level = c.level ∧ t.results[ch].verdict = verdictOf seen ch ∧ t.settled ch := by
  intro t seen
  obtain ⟨source, rank, level, verdict⟩ := settleTarget_keeps (s.resumed pin) t.holders ch
    (rankAfresh (s.resumed pin) ch s.results[ch])
  rw [← State.warmed_results pin s v ch] at source rank level verdict
  refine ⟨_, (congrArg List.head? (ranking_asRanked pin s v ch)).trans (ranking_head? (s.resumed pin) ch), source, rank,
    level, verdict.trans (verdictOf_asRanked pin s v ch).symm, ?_⟩
  exact State.settled_of_settleTarget (s := t) (s.warmed_results pin v ch)

/-- Every group's holder is that of the results, with nothing applied (R86). -/
theorem State.warmed_holders (pin : Bool) (s v : State) (g : Group) :
    let t := s.warmed pin v
    t.holders[g.idx] = arbitrate (t.asRanked s.warmSettled) t.results g := by
  intro t
  refine (arbitratedHolders_whole (s.resumed pin) g).trans
    (arbitrate_congr (s := s.resumed pin) (t := t.asRanked s.warmSettled) (fun ch => rfl) (fun ch => ?_) (fun ch => ?_)
      (fun ch => ?_) g).symm
  · obtain ⟨-, -, level, -⟩ := settleTarget_keeps (s.resumed pin) t.holders ch
      (rankAfresh (s.resumed pin) ch s.results[ch])
    rw [rankedResults_whole, s.warmed_results pin v ch]
    exact level
  · obtain ⟨-, rank, -, -⟩ := settleTarget_keeps (s.resumed pin) t.holders ch
      (rankAfresh (s.resumed pin) ch s.results[ch])
    rw [rankedResults_whole, s.warmed_results pin v ch]
    exact rank
  · have cold : (t.asRanked s.warmSettled).sw[ch] = Switching.cold := tabConst_getElem 16 _ ch
    exact (congrArg Switching.applied cold).trans ((s.resumed_atResumption pin).applied ch).symm

/-! ### The channels and the queue (R126, R140) -/

/-- A channel's state and target after the hand-off: its admission changes neither. -/
theorem State.Resumes.stateTarget {s t : State} {target : Chan → Level} (h : s.Resumes target t) (ch : Chan) :
    t.sw[ch].state = s.resumedState target ch ∧ t.sw[ch].target = target ch := by
  rw [h.sw]
  split
  · rename_i on
    exact ⟨on.symm, rfl⟩
  · exact ⟨rfl, rfl⟩

/-- The queue, as the channels that stand QUEUED give it (R107). -/
theorem State.Resumes.queue_of_channels {s t : State} {target : Chan → Level} (h : s.Resumes target t) :
    t.queue = ([QueueClass.first, .normal].flatMap fun c => ((List.finRange 16).filter fun ch =>
      decide (t.sw[ch].state = .queued) && decide (s.ret.channels[ch].queueClass = c)).map fun ch =>
        ⟨ch, c, t.sw[ch].target⟩) := by
  have state (ch : Chan) : t.sw[ch].state = s.resumedState target ch := (h.stateTarget ch).1
  have level (ch : Chan) : t.sw[ch].target = target ch := (h.stateTarget ch).2
  simp only [state, level, h.queue]

theorem State.resumed_resumptionRecord (pin : Bool) (s : State) (ch : Chan) (st : SwState) (target : Level) :
    (s.resumed pin).resolveAfresh.resumptionRecord ch st target =
      ⟨st, target, 0, s.runCount, false, s.runCount, false, s.sw[ch].rampStamp, false⟩ := by
  have sw : (s.resumed pin).resolveAfresh.sw[ch] = s.sw[ch].warm s.ret.locks[ch] s.runCount := tab_getElem _ ch
  rw [State.resumptionRecord, sw]
  rfl

/-! ### The epoch and the flags (R38, R163, R175) -/

/-- The epoch counts each record that retired and each slot that was settled or withdrawn (R38). -/
theorem State.warmed_epoch (pin : Bool) (s v : State) :
    let t := s.warmed pin v
    t.ret.epoch = s.ret.epoch + BitVec.ofNat 16 (
      ((List.finRange 96).filter fun i => s.ret.programs[i].live.isSome && t.ret.programs[i].live.isNone).length +
      ((List.finRange 16).filter fun i => decide (s.warmSettled[i] ≠ s.ret.overrides[i])).length +
      ((List.finRange 16).filter fun i => decide (t.ret.overrides[i] ≠ s.warmSettled[i])).length) := by
  intro t
  have ended : retiringCount s.warmPresent s.ret.programs =
      ((List.finRange 96).filter fun i => s.ret.programs[i].live.isSome && t.ret.programs[i].live.isNone).length := by
    refine congrArg List.length (List.filter_congr fun i _ => ?_)
    have slot : t.ret.programs[i] = (s.ret.programs[i].retireOrEvaluate s.warmPresent).restamp s.runCount :=
      tab_getElem _ i
    rw [slot]
    exact retires_restamp ..
  have changed (before after : Vector OvrSlot 16) : changedCount before after =
      ((List.finRange 16).filter fun i => decide (after[i] ≠ before[i])).length :=
    congrArg List.length (List.filter_congr fun i _ => decide_eq_decide.mpr ne_comm)
  rw [← ended, ← changed, ← changed, BitVec.ofNat_add, BitVec.ofNat_add, ← BitVec.add_assoc, ← BitVec.add_assoc]
  rfl

theorem State.warmed_programFlag (pin : Bool) (s v : State) (i : ProgIdx) :
    let t := s.warmed pin v
    t.att.program.getLsbD i.val = (s.ret.programs[i].live.isSome && t.ret.programs[i].live.isNone) := by
  intro t
  have flags : t.att.program = retiring s.warmPresent s.ret.programs := BitVec.zero_or
  have slot : t.ret.programs[i] = (s.ret.programs[i].retireOrEvaluate s.warmPresent).restamp s.runCount := tab_getElem _ i
  rw [flags, slot, retiring_getLsbD]
  exact retires_restamp ..

/-- Settling an Override Table makes no record, and a withdrawal makes none (R50, R61). -/
theorem settledOverrides_live {resume : ResumePolicy} {now : RunCount} {t : Vector OvrSlot 16} {i : OvrIdx}
    (h : t[i].live = none) : (settledOverrides resume now t)[i].live = none := by
  rw [settledOverrides_getElem, h]
  exact h

theorem OvrSlot.withdraw_free {x : OvrSlot} (h : x.live = none) (cs : ChanSet) (reason : OvrReason) :
    (x.withdraw cs reason).live = none := by
  unfold OvrSlot.withdraw
  rw [h]
  exact h

theorem State.warmed_overrideFlag (pin : Bool) (s v : State) (i : OvrIdx) :
    let t := s.warmed pin v
    t.att.override.getLsbD i.val = (s.ret.overrides[i].live.isSome && t.ret.overrides[i].live.isNone) := by
  intro t
  have flags : t.att.override = (0 ||| freedSlots s.ret.overrides s.warmSettled) |||
      freedSlots s.warmSettled t.ret.overrides := rfl
  have slot : t.ret.overrides[i] = s.warmSettled[i].withdraw (s.warmMoved pin) .programChanged := tab_getElem _ i
  have settled : s.ret.overrides[i].live = none → s.warmSettled[i].live = none := settledOverrides_live
  have left := OvrSlot.withdraw_free (x := s.warmSettled[i]) (cs := s.warmMoved pin) (reason := .programChanged)
  rw [flags, BitVec.getLsbD_or, BitVec.getLsbD_or, freedSlots, freedSlots, chansWhere_getLsbD, chansWhere_getLsbD, slot]
  cases before : s.ret.overrides[i].live with
  | none => simp [-Fin.getElem_fin, settled before]
  | some _ => cases after : s.warmSettled[i].live <;> simp [-Fin.getElem_fin, after, left]

/-! ### The comparison (R62) -/

/-- The request that waits names the channels withdrawn, each of which a live record held. -/
theorem State.warmMoved_left (pin : Bool) (s : State) :
    leftChannels s.warmSettled (withdrawn s.warmSettled (s.warmMoved pin) .programChanged) = s.warmMoved pin := by
  refine chanSet_ext fun ch => Bool.eq_iff_iff.mpr ((leftChannels_withdrawn ..).trans (and_iff_left_of_imp fun moved => ?_))
  obtain ⟨-, i, r, -, live, held, -⟩ := ((s.resumed pin).resolveAfresh.movedChannels_getLsbD ch).mp moved
  have here : s.warmSettled[i].live = some r := live
  exact ⟨i, by rw [OvrSlot.channels, here]; exact held⟩

/-! ### The obligation -/

/-- The row where STARTING has lasted long enough and neither mark is set (R162, R164). -/
theorem execStartingEnd_warm {s : State} (pin : Bool) (starting : s.sup.state = .starting) (long : 2 ≤ s.sup.startingFor)
    (lost : s.sup.backupLost = false) (cold : s.sup.coldRequest = false) (check : s.check = ⟨s.ret⟩) :
    exec (.startingEnd pin) s = .next (s.warmStart pin) := by
  have warm : s.startsCold = false := by simp [State.startsCold, State.checkAgrees, lost, cold, check]
  have due : s.endStarting pin = s.warmStart pin := by
    rw [State.endStarting, if_pos ⟨starting, long⟩, warm]
    rfl
  exact congrArg Host.Outcome.next due

/-- Settles O55, by the closed form of the warm start, block by block. -/
theorem aWarmStartKeepsTheRetainedItems : Obligations.AWarmStartKeepsTheRetainedItems := by
  intro s pin starting long lost cold check p
  obtain ⟨v, hv, warm⟩ := s.warmStart_eq pin
  refine ⟨s.warmed pin v, s.warmSettled, s.warmMoved pin,
    (execStartingEnd_warm pin starting long lost cold check).trans (congrArg Host.Outcome.next warm), rfl, rfl, rfl, rfl, rfl,
    rfl, rfl, fun g => ?_, fun k => ?_, fun i => ?_, fun i => ?_, fun ch => s.warmed_ranked pin v ch,
    fun g => s.warmed_holders pin v g, fun ch => ⟨?_, ?_⟩, ?_, fun g => ?_, rfl, rfl, fun ch => ?_, rfl,
    s.warmed_epoch pin v, s.warmed_programFlag pin v, s.warmed_overrideFlag pin v, rfl, ?_, rfl, rfl, rfl⟩
  · exact tab_getElem _ g
  · exact tabConst_getElem 8 _ k
  · exact (tab_getElem _ i).trans (ProgSlot.warm_eq ..)
  · exact settledOverrides_getElem ..
  · exact (hv.sw ch).trans (by rw [State.resumed_resumptionRecord]; rfl)
  · exact hv.faults ch
  · exact hv.queue_of_channels
  · exact tabConst_getElem 4 _ g.idx
  · exact (s.resumed pin).resolveAfresh.movedChannels_getLsbD ch
  · rw [← s.warmMoved_left pin]
    rfl

end Sys2Proof.Machine
end

section
/-! Evaluations and windows of the Program Table (R20 to R26, R35). -/

namespace Sys2Proof.Machine

/-! ### The four inputs of an evaluation (R20, R25, R26) -/

/-- The condition is absent, or the gate is in the state it asks for (R20). -/
theorem ProgDef.satisfied_iff (d : ProgDef) (gates : Vector GateWork 4) : d.satisfied gates = true ↔
    ∀ c, d.condition = some c → gates[c.gate].state = c.sense.gateState := by
  unfold ProgDef.satisfied
  cases d.condition <;> simp

/-- An unsatisfied condition is present. -/
theorem ProgDef.not_satisfied_iff (d : ProgDef) (gates : Vector GateWork 4) : d.satisfied gates = false ↔
    ∃ c, d.condition = some c ∧ ¬gates[c.gate].state = c.sense.gateState := by
  rw [← Bool.not_eq_true, ProgDef.satisfied_iff]
  push Not
  rfl

/-- An evaluation leaves the definition as it is (R25). -/
@[simp] theorem ProgRec.evaluate_defn (r : ProgRec) (p : Present) : (r.evaluate p).defn = r.defn := by
  unfold ProgRec.evaluate
  split <;> rfl

/-- A DISABLED record stays as it is (R25). -/
theorem ProgRec.evaluate_disabled {r : ProgRec} (h : r.state = .disabled) (p : Present) : r.evaluate p = r := if_pos h

/-- Any other record is judged (R25). -/
theorem ProgRec.evaluate_state {r : ProgRec} (h : r.state ≠ .disabled) (p : Present) :
    (r.evaluate p).state = r.defn.judge p r.state := by
  rw [ProgRec.evaluate, if_neg h]

/-- A record that comes out ACTIVE has the stamp it had, or takes the run count of the step (R26). -/
theorem ProgState.activate_eq (old : ProgState) (now : RunCount) : old.activate now = .active (match old with
    | .active since => since
    | _ => now) := by
  cases old <;> rfl

/-- Settles O20, by the validity, the window and the condition in the order of the judgement. -/
theorem evaluationFollowsTheFourInputs : Obligations.EvaluationFollowsTheFourInputs := by
  intro r p satisfied
  refine ⟨r.evaluate_defn p, fun h => by rw [ProgRec.evaluate_disabled h, h], fun h => ?_⟩
  have met : r.defn.satisfied p.gates = true ↔ ∀ c, r.defn.condition = some c → satisfied c :=
    r.defn.satisfied_iff p.gates
  have unmet : r.defn.satisfied p.gates = false ↔ ∃ c, r.defn.condition = some c ∧ ¬satisfied c :=
    r.defn.not_satisfied_iff p.gates
  rw [ProgRec.evaluate_state h, ← met, ← unmet, ProgDef.judge]
  cases valid : p.valid with
  | false => simp
  | true =>
    cases window : r.defn.timing.inWindow p.time with
    | false => simp
    | true =>
      cases condition : r.defn.satisfied p.gates with
      | false => simp
      | true =>
        have active := r.state.activate_eq p.runCount
        refine ⟨by simp [active], by simp [active], by simp [active], by simp [active], fun since comesOut => ?_⟩
        exact (ProgState.active.inj (active.symm.trans comesOut)).symm

/-! ### Stamps and minutes (R4) -/

theorem Stamp.inRange_iff (t : Stamp) : t.inRange = true ↔
    2000 ≤ t.year ∧ t.year ≤ 2099 ∧ 1 ≤ t.month ∧ t.month ≤ 12 ∧ 1 ≤ t.day ∧ t.day ≤ monthLength t.year t.month ∧
      t.minute ≤ 1439 := decide_eq_true_iff

theorem daysBeforeMonth_succ (y : Nat) {m : Nat} (h : 1 ≤ m) :
    daysBeforeMonth y (m + 1) = daysBeforeMonth y m + monthLength y m := by
  obtain ⟨k, rfl⟩ := Nat.exists_eq_add_of_le' h
  rfl

theorem daysBeforeMonth_mono (y : Nat) : Monotone (daysBeforeMonth y) :=
  monotone_nat_of_le_succ fun m => by
    cases m with
    | zero => exact Nat.zero_le _
    | succ m => exact Nat.le_add_right ..

/-- A month ends before a later one begins. -/
theorem daysBeforeMonth_lt (y : Nat) {m m' : Nat} (hm : 1 ≤ m) (h : m < m') :
    daysBeforeMonth y m + monthLength y m ≤ daysBeforeMonth y m' := by
  rw [← daysBeforeMonth_succ y hm]
  exact daysBeforeMonth_mono y h

/-- A date lies in its year. -/
theorem dayNumber_lt_nextYear {y m d : Nat} (hy : 2000 ≤ y) (hm : 1 ≤ m) (hm' : m ≤ 12) (hd : 1 ≤ d)
    (hd' : d ≤ monthLength y m) : dayNumber y m d < daysBeforeYear (y + 1) := by
  have inMonth : daysBeforeMonth y m + monthLength y m ≤ daysBeforeMonth y 13 := daysBeforeMonth_lt y hm (by omega)
  have year : daysBeforeMonth y 13 = daysBeforeMonth y 12 + 31 := rfl
  rw [daysBeforeMonth_december] at year
  rw [daysBeforeYear_succ hy, dayNumber]
  split_ifs at year ⊢ <;> omega

theorem daysBeforeYear_mono : Monotone daysBeforeYear := fun y y' h => by
  unfold daysBeforeYear
  omega

/-- An earlier stamp has fewer minutes before it. -/
theorem Stamp.minutes_lt {a b : Stamp} (ha : a.inRange = true) (hb : b.inRange = true) (h : a.before b = true) :
    a.minutes < b.minutes := by
  obtain ⟨hy, -, hm, hm', hd, hd', hmin⟩ := a.inRange_iff.mp ha
  obtain ⟨-, -, -, -, bd, -, -⟩ := b.inRange_iff.mp hb
  unfold Stamp.minutes
  rcases of_decide_eq_true h with year | ⟨year, month | ⟨month, day | ⟨day, minute⟩⟩⟩
  · have ends := dayNumber_lt_nextYear hy hm hm' hd hd'
    have begins : daysBeforeYear (a.year + 1) ≤ daysBeforeYear b.year := daysBeforeYear_mono year
    have inYear : daysBeforeYear b.year ≤ dayNumber b.year b.month b.day := by
      unfold dayNumber
      omega
    omega
  · have ends := daysBeforeMonth_lt a.year hm month
    rw [dayNumber, dayNumber, ← year]
    omega
  · rw [dayNumber, dayNumber, ← year, ← month]
    omega
  · rw [← year, ← month, ← day]
    omega

/-- Of two stamps one is the earlier, or they are equal. -/
theorem Stamp.before_trichotomy (a b : Stamp) : a.before b = true ∨ a = b ∨ b.before a = true := by
  obtain ⟨y, mo, d, mi⟩ := a
  obtain ⟨y', mo', d', mi'⟩ := b
  simp only [Stamp.before, decide_eq_true_eq, Stamp.mk.injEq]
  omega

theorem Stamp.before_iff {a b : Stamp} (ha : a.inRange = true) (hb : b.inRange = true) :
    a.before b = true ↔ a.minutes < b.minutes := by
  refine ⟨Stamp.minutes_lt ha hb, fun h => ?_⟩
  obtain before | rfl | after := a.before_trichotomy b
  · exact before
  · exact absurd h (lt_irrefl _)
  · exact absurd (Stamp.minutes_lt hb ha after) h.asymm

theorem Stamp.atOrBefore_iff {a b : Stamp} (ha : a.inRange = true) (hb : b.inRange = true) :
    a.atOrBefore b = true ↔ a.minutes ≤ b.minutes := by
  rw [Stamp.atOrBefore, Bool.not_eq_true', ← Bool.not_eq_true, Stamp.before_iff hb ha, Nat.not_lt]

/-! ### Windows (R21 to R23) -/

/-- The remainder of a division tells how long ago the last whole number of periods ended. -/
theorem sub_mod_lt_iff {start now period length : Nat} (h : start ≤ now) (hl : length < period) :
    (now - start) % period < length ↔ ∃ k, start + k * period ≤ now ∧ now < start + k * period + length := by
  constructor
  · intro hmod
    have split := Nat.div_add_mod' (now - start) period
    exact ⟨(now - start) / period, by omega, by omega⟩
  · rintro ⟨k, opened, closes⟩
    obtain ⟨r, rfl⟩ := Nat.exists_eq_add_of_le opened
    have since : start + k * period + r - start = r + k * period := by omega
    rw [since, Nat.add_mul_mod_self_right, Nat.mod_eq_of_lt (by omega)]
    omega

theorem Timing.daily_inWindow {days : BitVec 7} {on off : Nat} {now : Stamp} (hon : on ≤ 1439) (hoff : off ≤ 1439)
    (hne : on ≠ off) (hnow : now.minute ≤ 1439) :
    (Timing.daily days on off).inWindow now = true ↔
      let length := (off + 1440 - on) % 1440
      let today := weekday now.year now.month now.day
      (days.getLsbD today = true ∧ on ≤ now.minute ∧ now.minute < on + length) ∨
      (days.getLsbD ((today + 6) % 7) = true ∧ now.minute + 1440 < on + length) := by
  dsimp only
  by_cases h : on < off
  · have hlength : on + (off + 1440 - on) % 1440 = off := by omega
    have overnight : ¬now.minute + 1440 < off := by omega
    simp [Timing.inWindow, h, hlength, overnight, and_assoc]
  · have hlength : on + (off + 1440 - on) % 1440 = off + 1440 := by omega
    have untilMidnight : now.minute < off + 1440 := by omega
    simp [Timing.inWindow, h, hlength, untilMidnight]

theorem Timing.dated_inWindow {start stop now : Stamp} (hstart : start.inRange = true) (hstop : stop.inRange = true)
    (hnow : now.inRange = true) :
    (Timing.dated start stop).inWindow now = true ↔ start.minutes ≤ now.minutes ∧ now.minutes < stop.minutes := by
  rw [Timing.inWindow, Bool.and_eq_true, Stamp.atOrBefore_iff hstart hnow, Stamp.before_iff hnow hstop]

theorem Timing.cycle_inWindow {anchor now : Stamp} {period onLength : Nat} (hanchor : anchor.inRange = true)
    (hnow : now.inRange = true) (hlength : onLength < period) :
    (Timing.cycle anchor period onLength).inWindow now = true ↔
      ∃ k, anchor.minutes + k * period ≤ now.minutes ∧ now.minutes < anchor.minutes + k * period + onLength := by
  rw [Timing.inWindow, Bool.and_eq_true, Stamp.atOrBefore_iff hanchor hnow, decide_eq_true_iff, minutesBetween]
  constructor
  · rintro ⟨begun, inside⟩
    exact (sub_mod_lt_iff begun hlength).mp inside
  · rintro ⟨k, opened, closes⟩
    have begun : anchor.minutes ≤ now.minutes := (Nat.le_add_right ..).trans opened
    exact ⟨begun, (sub_mod_lt_iff begun hlength).mpr ⟨k, opened, closes⟩⟩

/-- Settles O21, kind by kind. -/
theorem windowsOpenAndCloseByKind : Obligations.WindowsOpenAndCloseByKind :=
  ⟨fun _ _ _ _ => Timing.daily_inWindow, fun _ _ _ => Timing.dated_inWindow,
    fun _ _ _ _ hanchor hnow _ => Timing.cycle_inWindow hanchor hnow, fun _ _ _ => Stamp.atOrBefore_iff,
    fun _ _ _ _ => rfl, fun _ _ _ _ => rfl⟩

end Sys2Proof.Machine
end

section
/-! The events of the Program Table and the channels they concern (R27, R29, R34 to R36). -/

namespace Sys2Proof.Machine

/-! ### The channels concerned (R34) -/

/-- The channels one slot names, by what it contributes before and after. -/
theorem ProgSlot.concern_getLsbD (x y : ProgSlot) (k : Nat) : (x.concern y).getLsbD k = true ↔
    match x.activeDef, y.activeDef with
    | none, none => False
    | none, some e => e.targets.getLsbD k = true
    | some d, none => d.targets.getLsbD k = true
    | some d, some e => ¬(d.level = e.level ∧ d.priority = e.priority ∧ d.targets = e.targets) ∧
        (d.targets.getLsbD k = true ∨ e.targets.getLsbD k = true) := by
  unfold ProgSlot.concern
  cases x.activeDef with
  | none => cases y.activeDef <;> simp
  | some d =>
    cases y.activeDef with
    | none => exact Iff.rfl
    | some e =>
      by_cases same : d.level = e.level ∧ d.priority = e.priority ∧ d.targets = e.targets
      · simp [same]
      · simp [same]

/-- Settles O22, slot by slot. -/
theorem requestsNameTheChannelsConcerned : Obligations.RequestsNameTheChannelsConcerned := by
  intro before after ch
  rw [concerned_getLsbD, List.any_eq_true]
  constructor
  · rintro ⟨i, -, named⟩
    exact ⟨i, (ProgSlot.concern_getLsbD ..).mp named⟩
  · rintro ⟨i, named⟩
    exact ⟨i, List.mem_finRange i, (ProgSlot.concern_getLsbD ..).mpr named⟩

/-! ### MINUTE_BOUNDARY (R27) -/

/-- Settles O16: the row is the table's event against the oldest boundary. -/
theorem minuteBoundaryEvaluatesTheTable : Obligations.MinuteBoundaryEvaluatesTheTable := by
  intro s b rest running waiting
  refine ⟨_, execMinuteBoundary_cons running waiting, ?_, ?_⟩
  · obtain ⟨slots, epoch, flags, request⟩ := State.evaluateTable_evaluates ⟨s.runCount, b.time, b.valid, s.gates⟩
      { s with mail := { s.mail with boundaries := rest } }
    exact ⟨slots, epoch, flags, request⟩
  · rw [State.takeBoundary, State.evaluateTable_eq]

/-! ### GATE_CHANGE_REPORT (R29) -/

/-- GATE_CHANGE_REPORT takes the oldest report. -/
theorem execGateChangeReport_cons {s : State} {g : GateIdx} {st : GateState} {rest : List (GateIdx × GateState)}
    (running : s.sup.state = .running) (waiting : s.mail.gateReports = (g, st) :: rest) :
    exec .gateChangeReport s = .next ({ s with mail := { s.mail with gateReports := rest } }.takeGateReport g) :=
  next_whileRunning running (by simp only [State.takeOldestGateReport, waiting])

/-- A new table is the table and the one request (R34). -/
theorem State.setPrograms_eq (t : Vector ProgSlot 96) (s : State) : s.setPrograms t = { s with
    ret := { s.ret with programs := t }
    check := ⟨{ s.ret with programs := t }⟩
    mail := { s.mail with requests := s.mail.requests ++ asRequest (concerned s.ret.programs t) } } := by
  rw [State.setPrograms, State.request_eq]
  rfl

/-- The records whose condition names the gate are evaluated, and the others stand; none is freed (R29). -/
theorem State.takeGateReport_slot (g : GateIdx) (s : State) (i : ProgIdx) :
    (s.takeGateReport g).ret.programs[i] = { s.ret.programs[i] with live := s.ret.programs[i].live.map fun r =>
      match r.defn.condition with
      | some c => if c.gate = g then r.evaluate s.present else r
      | none => r } := by
  rw [State.takeGateReport, State.setPrograms_eq, tab_getElem]
  obtain ⟨live, gen, reason⟩ := s.ret.programs[i]
  cases live with
  | none => rfl
  | some r =>
    obtain ⟨⟨timing, priority, level, targets, condition⟩, state⟩ := r
    cases condition with
    | none => rfl
    | some c =>
      by_cases named : c.gate = g
      · simp [named]
      · simp [named]

/-- Settles O28: the new table slot by slot, and the frame of a new table. -/
theorem aGateReportEvaluatesItsRecords : Obligations.AGateReportEvaluatesItsRecords := by
  intro s g st rest running waiting
  refine ⟨_, execGateChangeReport_cons running waiting, State.takeGateReport_slot g _, ?_⟩
  rw [State.takeGateReport, State.setPrograms_eq]

end Sys2Proof.Machine
end

section
/-! How a host command's name is judged against its slot (R16, R45, R187). -/

namespace Sys2Proof.Machine

/-! ### Judging a name -/

/-- Another generation than the slot's is STALE, whether the slot is FREE or live. -/
theorem judgeName_stale {α : Type} {named present : Gen} (h : named ≠ present) (live : Option α) :
    judgeName named present live = .stale := if_pos h

/-- The slot's generation finds what the slot holds. -/
theorem judgeName_present {α : Type} {named present : Gen} (h : named = present) (live : Option α) :
    judgeName named present live = match live with
      | none => .free
      | some r => .live r := if_neg (not_not_intro h)

/-- An owner answers STALE and NO-SUCH-RECORD by the judgement of a name, the latter with a payload of its own, and leaves
the state as it is (R187). -/
structure JudgesName {α : Type} (owner : List Byte → State → Answer) (ps : List Byte) (s : State) (judged : Judged α)
    (payload : List Byte) : Prop where
  stale : judged = .stale → owner ps s = ⟨s, .stale, []⟩
  free : judged = .free → owner ps s = ⟨s, .noSuchRecord, payload⟩

/-- What a completion answers where the name it judges fits no live record. -/
theorem next_judged {α : Type} {owner : List Byte → State → Answer} {code : Byte} {ps payload : List Byte} {s : State}
    {named present : Gen} {live : Option α} (holds : s.holds code ps)
    (judges : JudgesName owner ps s (judgeName named present live) payload) :
    (named ≠ present → (Host.Outcome.next (complete code owner s) : Host.Outcome State Fault Refusal) =
      .next (s.answered code .stale [])) ∧
    (named = present → live = none → (Host.Outcome.next (complete code owner s) : Host.Outcome State Fault Refusal) =
      .next (s.answered code .noSuchRecord payload)) := by
  refine ⟨fun other => ?_, fun same free => ?_⟩
  · exact next_complete holds (congrArg (·.respond code) (judges.stale (judgeName_stale other live)))
  · have judged : judgeName named present live = .free := by rw [judgeName_present same, free]
    exact next_complete holds (congrArg (·.respond code) (judges.free judged))

/-- The same, with the generation as its byte gives it. -/
theorem next_judged_byte {α : Type} {owner : List Byte → State → Answer} {code g : Byte} {ps payload : List Byte}
    {s : State} {present : Gen} {live : Option α} (hg : g.toNat < 16) (holds : s.holds code ps)
    (judges : JudgesName owner ps s (judgeName ⟨g.toNat, hg⟩ present live) payload) :
    (g.toNat ≠ present.val → (Host.Outcome.next (complete code owner s) : Host.Outcome State Fault Refusal) =
      .next (s.answered code .stale [])) ∧
    (g.toNat = present.val → live = none →
      (Host.Outcome.next (complete code owner s) : Host.Outcome State Fault Refusal) =
        .next (s.answered code .noSuchRecord payload)) := by
  obtain ⟨stale, free⟩ := next_judged holds judges
  exact ⟨fun other => stale fun same => other (congrArg Fin.val same), fun same => free (Fin.ext same)⟩

/-! ### The owners that judge a name -/

/-- A command on a live program (R16). -/
theorem judgesName_onProgram {owner : List Byte → State → Answer} {ps : List Byte} {s : State} {n : Name 96}
    {f : ProgRec → Answer} (h : owner ps s = s.onProgram n f) : JudgesName owner ps s (s.namedProgram n) [] where
  stale judged := by rw [h, State.onProgram, judged]; rfl
  free judged := by rw [h, State.onProgram, judged]; rfl

/-- A command on a live override (R45). -/
theorem judgesName_onOverride {owner : List Byte → State → Answer} {ps : List Byte} {s : State} {n : Name 16}
    {f : OvrRec → Answer} (h : owner ps s = s.onOverride n f) : JudgesName owner ps s (s.namedOverride n) [] where
  stale judged := by rw [h, State.onOverride, judged]; rfl
  free judged := by rw [h, State.onOverride, judged]; rfl

/-- READ PROGRAM gives a FREE slot's last retirement reason (R37). -/
theorem judgesName_readProgram {ps : List Byte} {n : Name 96} (read : readName 96 ps = .ok n) (s : State) :
    JudgesName ownReadProgram ps s (s.namedProgram n) [byte s.ret.programs[n.slot].reason.code] where
  stale judged := by rw [ownReadProgram, checked_ok read, judged]; rfl
  free judged := by rw [ownReadProgram, checked_ok read, judged]

/-- The single form of READ OVERRIDES gives a FREE slot's last retirement reason (R58). -/
theorem judgesName_readOverrides {ps : List Byte} {n : Name 16} (read : readOverridesQuery ps = .ok (.single n))
    (s : State) :
    JudgesName ownReadOverrides ps s (s.namedOverride n) [byte s.ret.overrides[n.slot].reason.code] where
  stale judged := by
    rw [ownReadOverrides, checked_ok read]
    simp only [judged]
    rfl
  free judged := by
    rw [ownReadOverrides, checked_ok read]
    simp only [judged]

/-! ### The parameters (R199, R202) -/

/-- Two parameter bytes are the single form of READ OVERRIDES. -/
theorem readOverridesQuery_single {h g : Byte} {i : OvrIdx} {gen : Gen} (hh : h.toNat = i.val + 1)
    (hg : g.toNat = gen.val) : readOverridesQuery [h, g] = .ok (.single ⟨i, gen⟩) := by
  have name : readNameBytes 16 h g = .ok ⟨i, gen⟩ := readName_val hh hg
  rw [readOverridesQuery, name]
  rfl

/-- EXTEND OVERRIDE's parameters in range. -/
theorem readExtendOverride_ok {h g m0 m1 : Byte} {i : OvrIdx} {gen : Gen} (hh : h.toNat = i.val + 1)
    (hg : g.toNat = gen.val) (hm : 1 ≤ word16 m0 m1) (hm' : word16 m0 m1 ≤ 1440) :
    readExtendOverride [h, g, m0, m1] = .ok (⟨i, gen⟩, word16 m0 m1) := by
  have name : readNameBytes 16 h g = .ok ⟨i, gen⟩ := readName_val hh hg
  have minutes : minutesInRange (word16 m0 m1) = true := decide_eq_true ⟨hm, hm'⟩
  simp only [readExtendOverride, name, require, minutes, if_true]

/-- Settles O26, row by row: each owner judges the name it reads. -/
theorem namesAreJudgedAgainstTheSlot : Obligations.NamesAreJudgedAgainstTheSlot := by
  refine ⟨fun s c code h g i row holds hh hg => ?_, fun s params n d holds read => ?_,
    fun s c code h g i row holds hh hg => ?_, fun s h g m0 m1 i holds hh hg hm hm' => ?_⟩
  · have read : readName 96 [h, g] = .ok ⟨i, ⟨g.toNat, hg⟩⟩ := readName_val hh rfl
    simp only [List.mem_cons, Prod.mk.injEq, List.not_mem_nil, or_false] at row
    obtain ⟨rfl, rfl⟩ | ⟨rfl, rfl⟩ | ⟨rfl, rfl⟩ | ⟨rfl, rfl⟩ := row
    · exact next_judged_byte hg holds (judgesName_readProgram read s)
    all_goals exact next_judged_byte hg holds (judgesName_onProgram (n := ⟨i, ⟨g.toNat, hg⟩⟩) (checked_ok read s _))
  · exact next_judged holds (judgesName_onProgram (n := n) (checked_ok read s _))
  · have read : readName 16 [h, g] = .ok ⟨i, ⟨g.toNat, hg⟩⟩ := readName_val hh rfl
    simp only [List.mem_cons, Prod.mk.injEq, List.not_mem_nil, or_false] at row
    obtain ⟨rfl, rfl⟩ | ⟨rfl, rfl⟩ := row
    · exact next_judged_byte hg holds (judgesName_onOverride (n := ⟨i, ⟨g.toNat, hg⟩⟩) (checked_ok read s _))
    · exact next_judged_byte hg holds (judgesName_readOverrides (readOverridesQuery_single hh rfl) s)
  · have read := readExtendOverride_ok (gen := ⟨g.toNat, hg⟩) hh rfl hm hm'
    exact next_judged_byte hg holds (judgesName_onOverride (n := ⟨i, ⟨g.toNat, hg⟩⟩) (checked_ok read s _))

end Sys2Proof.Machine
end

section
/-! What the host's commands on one record leave of the Program Table (R17, R18, R24, R30 to R33). -/

namespace Sys2Proof.Machine

/-! ### One slot replaced by a command -/

/-- A command's change of one slot: the slot, the epoch and the request of that slot (R34, R38). -/
theorem State.replaceProgram_eq (i : ProgIdx) (x : ProgSlot) (s : State) :
    let ret := { s.ret with programs := s.ret.programs.set i x, epoch := s.ret.epoch + 1 }
    (s.setProgram i x).advanceEpoch 1 = { s with
      ret := ret
      check := ⟨ret⟩
      mail := { s.mail with
        requests := s.mail.requests ++ asRequest (ProgSlot.concern s.ret.programs[i] x) } } := by
  intro ret
  rw [State.setProgram_eq]
  rfl

/-- A DISABLED record contributes nothing. -/
theorem ProgSlot.activeDef_disabled {x : ProgSlot} {r : ProgRec} (h : x.live = some r) (disabled : r.state = .disabled) :
    x.activeDef = none := by
  rw [ProgSlot.activeDef_live h, disabled]

/-- Where the slot contributed nothing before, the request names the targets of a record that comes out ACTIVE (R18, R30). -/
theorem ProgSlot.concern_gained {x y : ProgSlot} {r : ProgRec} (hx : x.activeDef = none) (hy : y.live = some r) :
    asRequest (x.concern y) = match r.state with
      | .active _ => asRequest r.defn.targets
      | _ => [] := by
  rw [ProgSlot.concern, hx, ProgSlot.activeDef_live hy]
  cases r.state <;> rfl

/-- Where the slot contributes nothing after, the request names the targets of a record that was ACTIVE (R31, R33). -/
theorem ProgSlot.concern_lost {x y : ProgSlot} {r : ProgRec} (hx : x.live = some r) (hy : y.activeDef = none) :
    asRequest (x.concern y) = match r.state with
      | .active _ => asRequest r.defn.targets
      | _ => [] := by
  rw [ProgSlot.concern, ProgSlot.activeDef_live hx, hy]
  cases r.state <;> rfl

/-- The request of a record replaced in its slot (R32, R34). -/
theorem ProgSlot.concern_replaced {x y : ProgSlot} {r r' : ProgRec} (hx : x.live = some r) (hy : y.live = some r') :
    asRequest (x.concern y) = match r.state, r'.state with
      | .active _, .active _ =>
        if r.defn.level = r'.defn.level ∧ r.defn.priority = r'.defn.priority ∧ r.defn.targets = r'.defn.targets then []
        else asRequest (r.defn.targets ||| r'.defn.targets)
      | .active _, _ => asRequest r.defn.targets
      | _, .active _ => asRequest r'.defn.targets
      | _, _ => [] := by
  rw [ProgSlot.concern, ProgSlot.activeDef_live hx, ProgSlot.activeDef_live hy]
  cases r.state with
  | active _ =>
    cases r'.state with
    | active _ => exact apply_ite asRequest _ _ _
    | disabled | untimed | waiting | suppressed => rfl
  | disabled | untimed | waiting | suppressed => cases r'.state <;> rfl

/-! ### The generation and state byte -/

theorem ProgState.code_lt (st : ProgState) : st.code < 16 := by cases st <;> simp [ProgState.code]

/-- The generation and state byte of a live slot (R181). -/
theorem ProgSlot.genState_live {x : ProgSlot} {r : ProgRec} (h : x.live = some r) :
    x.genState = BitVec.ofNat 8 (x.gen.val * 16 + r.state.code) := by
  rw [ProgSlot.genState, h]
  dsimp only
  rw [nibbles, byte, Nat.mod_eq_of_lt x.gen.isLt, Nat.mod_eq_of_lt r.state.code_lt]

/-- The byte of the slot that a command has replaced. -/
theorem State.genStateOf_replaced {x : ProgSlot} {r : ProgRec} (live : x.live = some r) (i : ProgIdx) (s : State) :
    ((s.setProgram i x).advanceEpoch 1).genStateOf i = BitVec.ofNat 8 (x.gen.val * 16 + r.state.code) := by
  rw [State.replaceProgram_eq, State.genStateOf, set_getElem_self, ProgSlot.genState_live live]

/-- A completion that replaces one slot: the slot, the epoch, the one request and the answer (R34, R38, R172). -/
theorem next_replaced {owner : List Byte → State → Answer} {code : Byte} {ps payload : List Byte} {s : State}
    {i : ProgIdx} {x : ProgSlot} {requests : List ChanSet} (holds : s.holds code ps)
    (answers : owner ps s = answerOk ((s.setProgram i x).advanceEpoch 1) payload)
    (request : asRequest (s.ret.programs[i].concern x) = requests) :
    let ret := { s.ret with programs := s.ret.programs.set i x, epoch := s.ret.epoch + 1 }
    (Host.Outcome.next (complete code owner s) : Host.Outcome State Fault Refusal) =
      .next (State.answered { s with
        ret := ret
        check := ⟨ret⟩
        mail := { s.mail with requests := s.mail.requests ++ requests } } code .ok payload) := by
  refine next_complete holds ?_
  rw [answers, ← request, State.replaceProgram_eq]
  rfl

/-! ### The commands on a named record (R16, R24, R187) -/

theorem State.onProgram_live {s : State} {n : Name 96} {r : ProgRec} (gen : s.ret.programs[n.slot].gen = n.gen)
    (live : s.ret.programs[n.slot].live = some r) (f : ProgRec → Answer) : s.onProgram n f = f r := by
  have judged : s.namedProgram n = .live r := by rw [State.namedProgram, judgeName_present gen.symm, live]
  rw [State.onProgram, judged]

/-- The PAST test (R24). -/
theorem State.isPast_iff (s : State) (d : ProgDef) :
    s.isPast d = true ↔ s.ret.clockValid = true ∧ d.timing.ended s.cal.present = true := by
  rw [State.isPast, Bool.and_eq_true]

/-! ### CREATE PROGRAM (R18, R192) -/

/-- With every slot live, none is FREE. -/
theorem freeProgram_eq_none {t : Vector ProgSlot 96} (h : ∀ i : ProgIdx, t[i].live ≠ none) : freeProgram t = none := by
  simpa [freeProgram] using h

/-- The FREE slot taken is the lowest. -/
theorem freeProgram_eq_some {t : Vector ProgSlot 96} {i : ProgIdx} (free : t[i].live = none)
    (lowest : ∀ j : ProgIdx, j < i → t[j].live ≠ none) : freeProgram t = some i := by
  rw [freeProgram, List.find?_eq_some_iff_getElem]
  refine ⟨Option.isNone_iff_eq_none.mpr free, i.val, by simp, by simp, fun j hj => ?_⟩
  have live := lowest ⟨j, hj.trans i.isLt⟩ hj
  simpa [Option.isSome_iff_ne_none] using live

/-- A new record has the definition it was created with. -/
theorem newRecord_defn (d : ProgDef) (disabled : Bool) (p : Present) : (newRecord d disabled p).defn = d := by
  rw [newRecord, apply_ite ProgRec.defn, ProgRec.evaluate_defn, ite_self]

/-- CREATE PROGRAM's owner on a definition it can read. -/
theorem ownCreateProgram_ok {s : State} {ps : List Byte} {disabled : Bool} {d : ProgDef}
    (read : readCreateProgram ps = .ok (disabled, d)) :
    ownCreateProgram ps s = if s.isPast d then refuse s .past else match freeProgram s.ret.programs with
      | none => refuse s .tableFull
      | some i => answerOk (s.createProgram i d disabled)
        [byte (i.val + 1), (s.createProgram i d disabled).genStateOf i] := checked_ok read s _

/-- Settles O23, by the PAST test and the lowest FREE slot. -/
theorem createProgramTakesTheLowestFreeSlot : Obligations.CreateProgramTakesTheLowestFreeSlot := by
  intro s params disabled d holds read
  rw [← State.isPast_iff]
  refine ⟨fun past => next_complete holds ?_, fun past => ⟨fun full => next_complete holds ?_, ?_⟩⟩
  · rw [ownCreateProgram_ok read, if_pos past]
    rfl
  · rw [ownCreateProgram_ok read, if_neg past, freeProgram_eq_none full]
    rfl
  · intro i free lowest x ret
    have defn : x.defn = d := newRecord_defn d disabled s.present
    refine next_replaced holds ?_ (defn ▸ ProgSlot.concern_gained (ProgSlot.activeDef_free free) rfl)
    rw [ownCreateProgram_ok read, if_neg past, freeProgram_eq_some free lowest]
    dsimp only
    rw [State.createProgram, State.genStateOf_replaced rfl]
    rfl

/-! ### EDIT PROGRAM (R32, R193) -/

/-- EDIT PROGRAM's owner on a live record. -/
theorem ownEditProgram_live {s : State} {ps : List Byte} {n : Name 96} {d : ProgDef} {r : ProgRec}
    (read : readEditProgram ps = .ok (n, d)) (gen : s.ret.programs[n.slot].gen = n.gen)
    (live : s.ret.programs[n.slot].live = some r) :
    ownEditProgram ps s = if s.isPast d then refuse s .past
      else answerOk (s.editProgram n.slot r d) [(s.editProgram n.slot r d).genStateOf n.slot] := by
  rw [ownEditProgram, checked_ok read]
  exact State.onProgram_live gen live _

/-- Settles O24, by the PAST test; a DISABLED record under its new definition stays DISABLED. -/
theorem editProgramReplacesTheDefinition : Obligations.EditProgramReplacesTheDefinition := by
  intro s params n d r holds read gen live
  rw [← State.isPast_iff]
  refine ⟨fun past => next_complete holds ?_, ?_⟩
  · rw [ownEditProgram_live read gen live, if_pos past]
    rfl
  · intro past x ret
    have judged : ProgRec.evaluate ⟨d, r.state⟩ s.present = x := by
      by_cases disabled : r.state = .disabled
      · rw [ProgRec.evaluate_disabled (r := ⟨d, r.state⟩) disabled]
        simp only [x, if_pos disabled, disabled]
      · exact (if_neg disabled).symm
    have defn : x.defn = d := judged ▸ ProgRec.evaluate_defn ..
    refine next_replaced holds ?_ (defn ▸ ProgSlot.concern_replaced live rfl)
    rw [ownEditProgram_live read gen live, if_neg past, State.editProgram, judged, State.genStateOf_replaced rfl, ← gen]

/-! ### ENABLE, DISABLE and DELETE PROGRAM (R30, R31, R33, R195, R196) -/

/-- A command on a live record goes on with the slot and the record its bytes name. -/
theorem checked_onProgram {s : State} {h g : Byte} {i : ProgIdx} {r : ProgRec} (hh : h.toNat = i.val + 1)
    (hg : g.toNat = s.ret.programs[i].gen.val) (live : s.ret.programs[i].live = some r)
    (f : Name 96 → ProgRec → Answer) :
    checked (readName 96 [h, g]) s (fun n => s.onProgram n (f n)) = f ⟨i, s.ret.programs[i].gen⟩ r := by
  rw [checked_ok (readName_val hh hg)]
  exact State.onProgram_live rfl live _

/-- Settles O25, command by command and by whether the record is DISABLED. -/
theorem enableDisableAndDeleteActOnTheRecord : Obligations.EnableDisableAndDeleteActOnTheRecord := by
  refine ⟨fun s h g i r hh hg live => ⟨fun holds => ?_, fun holds => ?_⟩, fun s h g i r holds hh hg live => ?_⟩
  · have answers : ownEnableProgram [h, g] s =
        answerOk (s.enableProgram i r) [(s.enableProgram i r).genStateOf i] := checked_onProgram hh hg live _
    refine ⟨fun enabled => next_complete holds ?_, fun disabled => ?_⟩
    · rw [answers, State.enableProgram, if_neg enabled, State.genStateOf, ProgSlot.genState_live live, hg]
      rfl
    · intro x ret
      have defn : x.defn = r.defn := ProgRec.evaluate_defn ..
      refine next_replaced holds ?_ (defn ▸ ProgSlot.concern_gained (ProgSlot.activeDef_disabled live disabled) rfl)
      rw [answers, State.enableProgram, if_pos disabled, State.genStateOf_replaced rfl, hg]
      rfl
  · have answers : ownDisableProgram [h, g] s =
        answerOk (s.disableProgram i r) [(s.disableProgram i r).genStateOf i] := checked_onProgram hh hg live _
    refine ⟨fun disabled => next_complete holds ?_, fun enabled => ?_⟩
    · rw [answers, State.disableProgram, if_pos disabled, State.genStateOf, ProgSlot.genState_live live, hg, disabled]
      rfl
    · intro ret
      refine next_replaced holds ?_ (ProgSlot.concern_lost live (ProgSlot.activeDef_disabled rfl rfl))
      rw [answers, State.disableProgram, if_neg enabled, State.genStateOf_replaced rfl, hg]
      rfl
  · have answers : ownDeleteProgram [h, g] s =
        answerOk (s.deleteProgram i) [byte (s.deleteProgram i).ret.programs[i].gen.val] :=
      checked_onProgram hh hg live _
    have gen : (s.deleteProgram i).ret.programs[i].gen.val = (g.toNat + 1) % 16 := by
      rw [State.deleteProgram, State.replaceProgram_eq, set_getElem_self, hg]
      exact Fin.val_add ..
    refine next_replaced holds ?_ (ProgSlot.concern_lost live (ProgSlot.activeDef_free rfl))
    rw [answers, gen]
    rfl

end Sys2Proof.Machine
end

section
/-! Withdrawals from the Override Table (R49 to R52, R56): what one slot becomes, and the one operation that a release and a
verdict report share. -/

namespace Sys2Proof.Machine

/-! ### One slot (R50, R51) -/

/-- A live record loses nothing, everything, or a part of its set. -/
theorem OvrSlot.withdraw_live {x : OvrSlot} {r : OvrRec} (live : x.live = some r) (cs : ChanSet) (reason : OvrReason) :
    x.withdraw cs reason =
      if r.channels &&& cs = 0 then x
      else if r.channels &&& ~~~cs = 0 then x.free reason
      else { x with live := some (r.withdraw cs) } := by
  rw [OvrSlot.withdraw, live]

/-- A FREE slot stands as it is. -/
theorem OvrSlot.withdraw_of_free {x : OvrSlot} (free : x.live = none) (cs : ChanSet) (reason : OvrReason) :
    x.withdraw cs reason = x := by
  rw [OvrSlot.withdraw, free]

/-- Settles O29, by what the record loses: nothing, everything, or a part of its set. -/
theorem withdrawalTakesChannelsOneByOne : Obligations.WithdrawalTakesChannelsOneByOne := by
  intro x cs reason
  refine ⟨fun free => OvrSlot.withdraw_of_free free cs reason, fun r live => ?_⟩
  rw [OvrSlot.withdraw_live live]
  refine ⟨fun none => if_pos none, fun some emptied => ?_, fun some kept => ⟨(r.withdraw cs).kind, ?_, ?_, ?_, ?_⟩⟩
  · rw [if_neg some, if_pos emptied]
    rfl
  · rw [if_neg some, if_neg kept]
    rfl
  · intro start minutes timed
    simp only [OvrRec.withdraw, timed]
  · intro latched
    simp only [OvrRec.withdraw, latched]
  · intro bs untilNext
    exact ⟨bs.filter fun b => !cs.getLsbD b.1.val, by simp only [OvrRec.withdraw, untilNext], by simp⟩

/-! ### The one operation (R38, R49, R57) -/

/-- How many records an operation changes, with the table after it named first. -/
theorem changedCount_eq (before after : Vector OvrSlot 16) :
    changedCount before after = ((List.finRange 16).filter fun j => decide (after[j] ≠ before[j])).length := by
  simp only [changedCount, ne_comm]

/-- The channels that leave live records are those withdrawn that some record holds. -/
theorem leftChannels_withdrawn_eq (t : Vector OvrSlot 16) (cs : ChanSet) (reason : OvrReason) :
    leftChannels t (withdrawn t cs reason) = chansWhere fun ch =>
      cs.getLsbD ch.val && (List.finRange 16).any fun j : OvrIdx => t[j].channels.getLsbD ch.val := by
  refine chanSet_ext fun ch => ?_
  rw [chansWhere_getLsbD, Bool.eq_iff_iff, leftChannels_withdrawn]
  simp

/-- A withdrawal taken as one operation: the table, an epoch step for each record changed, the flags of the retired, and one
request for the channels that left. -/
theorem State.endOverrides_withdrawn (cs : ChanSet) (reason : OvrReason) (s : State) :
    let left := withdrawn s.ret.overrides cs reason
    let ret := { s.ret with
      overrides := left
      epoch := s.ret.epoch +
        BitVec.ofNat 16 ((List.finRange 16).filter fun j => decide (left[j] ≠ s.ret.overrides[j])).length }
    let flags := s.att.override ||| chansWhere fun j => s.ret.overrides[j].live.isSome && left[j].live.isNone
    let named := chansWhere fun ch => cs.getLsbD ch.val && (List.finRange 16).any fun j : OvrIdx =>
      s.ret.overrides[j].channels.getLsbD ch.val
    s.endOverrides left = { s with
      ret := ret
      check := ⟨ret⟩
      att := { s.att with override := flags }
      mail := { s.mail with requests := s.mail.requests ++ asRequest named } } := by
  intro left ret flags named
  rw [State.endOverrides_eq, changedCount_eq, leftChannels_withdrawn_eq]
  rfl

/-! ### Releases (R56, R201) -/

/-- Two parameter bytes that name a channel are read as their set. -/
theorem readChannelSet_ok {c0 c1 : Byte} (some : wireSet c0 c1 ≠ 0) :
    readChannelSet [c0, c1] = .ok (wireSet c0 c1) := if_pos (decide_eq_true some)

/-- A key's oldest request, where it is a release, is taken (R151). -/
theorem State.takeOldestRelease_cons {s : State} {k : KeyIdx} {cs : ChanSet} {rest : List KeyRequest}
    (oldest : s.mail.keyRequests[k] = .release cs :: rest) : s.takeOldestRelease k =
      { s with mail := { s.mail with keyRequests := s.mail.keyRequests.set k rest } }.releaseChannels cs := by
  rw [State.takeOldestRelease, oldest]

/-- Settles O31: a release is one withdrawal, by the host and by a key. -/
theorem aReleaseWithdrawsTheNamedChannels : Obligations.AReleaseWithdrawsTheNamedChannels := by
  intro s cs left ret flags named
  refine ⟨fun c0 c1 holds wire some => next_complete holds ?_, fun k rest running oldest => next_whileRunning running ?_⟩
  · subst wire
    rw [ownReleaseChannels, checked_ok (readChannelSet_ok some), State.releaseChannels]
    exact congrArg (fun t => (answerOk t []).respond 0x23) (State.endOverrides_withdrawn _ .cancelled s)
  · rw [State.takeOldestRelease_cons oldest]
    exact State.endOverrides_withdrawn cs .cancelled _

/-! ### Verdict reports (R52) -/

/-- The channels that a verdict report withdraws: those whose new verdict is not their baseline. -/
def State.reportedMoved (vs : List (Chan × Verdict)) (s : State) : ChanSet :=
  chansWhere fun ch => vs.any fun v => decide (v.1 = ch) && Machine.moved s.ret.overrides ch v.2

theorem State.reportedMoved_getLsbD (vs : List (Chan × Verdict)) (s : State) (ch : Chan) :
    (s.reportedMoved vs).getLsbD ch.val = true ↔
      ∃ v, (ch, v) ∈ vs ∧ ∃ (i : OvrIdx) (r : OvrRec) (b : Verdict), s.ret.overrides[i].live = some r ∧
        r.channels.getLsbD ch.val = true ∧ r.baseline ch = some b ∧ b ≠ v := by
  rw [State.reportedMoved, chansWhere_getLsbD, List.any_eq_true]
  simp only [Bool.and_eq_true, decide_eq_true_eq, moved_iff]
  constructor
  · rintro ⟨⟨c, v⟩, reported, rfl, holder⟩
    exact ⟨v, reported, holder⟩
  · rintro ⟨v, reported, holder⟩
    exact ⟨(ch, v), reported, rfl, holder⟩

/-- The oldest verdict report is taken. -/
theorem State.takeOldestVerdicts_cons {s : State} {vs : List (Chan × Verdict)} {rest : List (List (Chan × Verdict))}
    (oldest : s.mail.verdictReports = vs :: rest) :
    s.takeOldestVerdicts = { s with mail := { s.mail with verdictReports := rest } }.settleVerdicts vs := by
  rw [State.takeOldestVerdicts, oldest]

/-- Settles O33: a verdict report is one withdrawal, of the channels that moved. -/
theorem aVerdictReportEndsMovedChannels : Obligations.AVerdictReportEndsMovedChannels := by
  intro s vs rest running oldest
  have taken := (State.takeOldestVerdicts_cons oldest).trans
    (State.endOverrides_withdrawn (s.reportedMoved vs) .programChanged _)
  exact ⟨_, s.reportedMoved vs, next_whileRunning running taken, s.reportedMoved_getLsbD vs, rfl, rfl, rfl, rfl, rfl⟩

end Sys2Proof.Machine
end

section
/-! Single overrides retired and extended (R53 to R55, R59, R199, R200). -/

namespace Sys2Proof.Machine

/-! ### One slot replaced (R38, R57) -/

theorem changedCount_set {t : Vector OvrSlot 16} {i : OvrIdx} {x : OvrSlot} (other : t[i] ≠ x) :
    changedCount t (t.set i x) = 1 := by
  have changed (j : OvrIdx) : t[j] ≠ (t.set i x)[j] ↔ j = i := by
    rw [set_getElem]
    split <;> simp_all
  simp only [changedCount, changed, ← List.countP_eq_length_filter]
  exact List.count_eq_one_of_mem (List.nodup_finRange 16) (List.mem_finRange i)

theorem freedSlots_set {t : Vector OvrSlot 16} {i : OvrIdx} {x : OvrSlot} (live : t[i].live.isSome) (free : x.live = none) :
    freedSlots t (t.set i x) = BitVec.twoPow 16 i.val := by
  refine chanSet_ext fun j => ?_
  rw [freedSlots, chansWhere_getLsbD, chan_twoPow_getLsbD, set_getElem]
  split
  · simp_all
  · cases t[j].live <;> simp_all

theorem leftChannels_set {t : Vector OvrSlot 16} {i : OvrIdx} {x : OvrSlot} (free : x.live = none) :
    leftChannels t (t.set i x) = t[i].channels := by
  have empty : x.channels = 0 := by rw [OvrSlot.channels, free]
  have slot (j : OvrIdx) : t[j].channels &&& ~~~(t.set i x)[j].channels = if j = i then t[i].channels else 0 := by
    rw [set_getElem]
    split
    · subst_vars
      rw [empty]
      exact BitVec.and_allOnes
    · exact BitVec.and_not_self _
  refine chanSet_ext fun ch => ?_
  rw [leftChannels_getLsbD, Bool.eq_iff_iff, List.any_eq_true]
  simp only [slot, List.mem_finRange, true_and]
  constructor
  · rintro ⟨j, left⟩
    split at left
    · exact left
    · simp at left
  · exact fun held => ⟨i, by rwa [if_pos rfl]⟩

/-! ### Retirement as a whole (R51) -/

/-- Retiring one live record replaces its slot alone. -/
theorem retiredWhole_one {t : Vector OvrSlot 16} {i : OvrIdx} {r : OvrRec} (live : t[i].live = some r) (reason : OvrReason) :
    retiredWhole t (fun j _ => decide (j = i)) reason = t.set i (t[i].free reason) := by
  refine Vector.ext fun k hk => ?_
  have slot : (retiredWhole t (fun j _ => decide (j = i)) reason)[(⟨k, hk⟩ : OvrIdx)] =
      (t.set i (t[i].free reason))[(⟨k, hk⟩ : OvrIdx)] := by
    rw [retiredWhole, tab_getElem, set_getElem]
    by_cases here : (⟨k, hk⟩ : OvrIdx) = i
    · rw [here, live, if_pos rfl]
      exact if_pos (decide_eq_true rfl)
    · rw [if_neg here]
      split
      · exact if_neg (by rwa [decide_eq_true_eq])
      · rfl
  exact slot

/-- One live record retires: its slot, the epoch, its flag, and the request for its channels. -/
theorem State.retireOverride_live {s : State} {i : OvrIdx} {r : OvrRec} (live : s.ret.overrides[i].live = some r)
    (reason : OvrReason) :
    let ret := { s.ret with
      overrides := s.ret.overrides.set i ⟨none, s.ret.overrides[i].gen + 1, reason⟩
      epoch := s.ret.epoch + 1 }
    s.retireOverride i reason = { s with
      ret := ret
      check := ⟨ret⟩
      att := { s.att with override := s.att.override ||| BitVec.twoPow 16 i.val }
      mail := { s.mail with requests := s.mail.requests ++ asRequest r.channels } } := by
  intro ret
  have other : s.ret.overrides[i] ≠ s.ret.overrides[i].free reason := fun same => by
    rw [same] at live
    cases live
  have held : s.ret.overrides[i].channels = r.channels := by rw [OvrSlot.channels, live]
  rw [State.retireOverride, State.endOverrides_eq, retiredWhole_one live, changedCount_set other,
    freedSlots_set (by rw [live]; rfl) rfl, leftChannels_set rfl, held]
  rfl

/-- An override's expiry has come exactly for a TIMED record whose length has run on the run count (R53). -/
theorem OvrRec.expired_iff (r : OvrRec) (now : RunCount) : r.expired now = true ↔
    ∃ start minutes, r.kind = .timed start minutes ∧ minutes * 600 ≤ (now - start).toNat := by
  unfold OvrRec.expired
  cases r.kind with
  | timed start minutes => simp [elapsed_iff]
  | untilNext _ | latched => simp

/-- An event that changes nothing changes nothing, whether it is taken or not. -/
theorem whileRunning_still {f : State → State} {s : State} (still : f s = s) : whileRunning f s = s := by
  rw [whileRunning, still, ite_self]

/-- An expiry that finds no such record changes nothing (R59). -/
theorem State.expireOverride_none {s : State} {i : OvrIdx}
    (none : ∀ r, s.ret.overrides[i].live = some r → r.expired s.runCount = false) : s.expireOverride i = s := by
  unfold State.expireOverride
  split
  · rename_i r live
    rw [none r live, if_neg Bool.false_ne_true]
  · rfl

theorem State.expireOverride_due {s : State} {i : OvrIdx} {r : OvrRec} (live : s.ret.overrides[i].live = some r)
    (due : r.expired s.runCount = true) : s.expireOverride i = s.retireOverride i .expired := by
  rw [State.expireOverride, live]
  exact if_pos due

/-! ### The commands on a named override (R45, R187) -/

theorem State.onOverride_live {s : State} {n : Name 16} {r : OvrRec} (gen : s.ret.overrides[n.slot].gen = n.gen)
    (live : s.ret.overrides[n.slot].live = some r) (f : OvrRec → Answer) : s.onOverride n f = f r := by
  have judged : s.namedOverride n = .live r := by rw [State.namedOverride, judgeName_present gen.symm, live]
  rw [State.onOverride, judged]

theorem ownCancelOverride_live {s : State} {h g : Byte} {i : OvrIdx} {r : OvrRec} (hh : h.toNat = i.val + 1)
    (hg : g.toNat = s.ret.overrides[i].gen.val) (live : s.ret.overrides[i].live = some r) :
    ownCancelOverride [h, g] s = answerOk (s.retireOverride i .cancelled) [] := by
  rw [ownCancelOverride, checked_ok (readName_val hh hg)]
  exact State.onOverride_live (n := ⟨i, _⟩) rfl live _

/-- EXTEND OVERRIDE's owner on a live record, by its kind. -/
theorem ownExtendOverride_live {s : State} {h g m0 m1 : Byte} {i : OvrIdx} {r : OvrRec} (hh : h.toNat = i.val + 1)
    (hg : g.toNat = s.ret.overrides[i].gen.val) (live : s.ret.overrides[i].live = some r) (hm : 1 ≤ word16 m0 m1)
    (hm' : word16 m0 m1 ≤ 1440) : ownExtendOverride [h, g, m0, m1] s = match r.kind with
      | .timed _ _ => answerOk (s.extendOverride i r (word16 m0 m1)) (stampBytes (expiryOf s.runCount (word16 m0 m1)))
      | .untilNext _ | .latched => refuse s .notPermitted := by
  rw [ownExtendOverride, checked_ok (readExtendOverride_ok hh hg hm hm')]
  exact State.onOverride_live (n := ⟨i, _⟩) rfl live _

/-- A stamp's bytes, least significant first (R180). -/
theorem stampBytes_eq (t : RunCount) : stampBytes t =
    [t.setWidth 8, (t >>> 8).setWidth 8, (t >>> 16).setWidth 8, (t >>> 24).setWidth 8] := by
  simp only [stampBytes, bytes32, byte, List.cons.injEq, and_true]
  refine ⟨?_, ?_, ?_, ?_⟩ <;> exact BitVec.eq_of_toNat_eq (by simp [Nat.shiftRight_eq_div_pow])

/-- Settles O32: the retirement of one live record, the expiry by its timer, and the extension by the record's kind. -/
theorem overridesAreCancelledExpiredAndExtended : Obligations.OverridesAreCancelledExpiredAndExtended := by
  refine ⟨⟨?_, ?_, ?_⟩, ?_⟩
  · intro s h g i r holds hh hg live ret
    refine next_complete holds ?_
    rw [ownCancelOverride_live hh hg live, State.retireOverride_live live]
    rfl
  · intro s i r start minutes running live timed due ret
    refine next_whileRunning running ?_
    rw [State.expireOverride_due live ((r.expired_iff s.runCount).mpr ⟨start, minutes, timed, due⟩),
      State.retireOverride_live live]
  · intro s i early
    have stands : s.expireOverride i = s := State.expireOverride_none fun r live => by
      rw [Bool.eq_false_iff, ne_eq, OvrRec.expired_iff]
      rintro ⟨start, minutes, timed, due⟩
      exact absurd due (early r start minutes live timed).not_ge
    exact congrArg Host.Outcome.next (whileRunning_still stands)
  · intro s h g m0 m1 i r holds hh hg live hm hm'
    have answers := ownExtendOverride_live hh hg live hm hm'
    refine ⟨?_, fun other => next_complete holds ?_⟩
    · rintro ⟨start, minutes, timed⟩ ret expiry
      refine next_complete holds ?_
      rw [answers, timed]
      dsimp only
      rw [stampBytes_eq]
      rfl
    · rw [answers]
      cases kind : r.kind with
      | timed start minutes => exact absurd ⟨start, minutes, kind⟩ other
      | untilNext _ | latched => rfl

end Sys2Proof.Machine
end

section
/-! Which overrides tables are sound (R48): the live sets are apart and not empty, and stay so where slots lose channels and
where a new record takes channels that no other holds. -/

namespace Sys2Proof.Machine

/-! ### Channel sets -/

theorem chanSet_zero_getLsbD (ch : Chan) : (0 : ChanSet).getLsbD ch.val = false := BitVec.getLsbD_zero

/-- Two channel sets are apart exactly where no channel is in both. -/
theorem chanSet_apart_iff (a b : ChanSet) :
    a &&& b = 0 ↔ ∀ ch : Chan, a.getLsbD ch.val = true → b.getLsbD ch.val = false := by
  constructor
  · intro apart ch held
    have bit := congrArg (BitVec.getLsbD · ch.val) apart
    simpa only [BitVec.getLsbD_and, held, Bool.true_and, chanSet_zero_getLsbD] using bit
  · intro apart
    refine chanSet_ext fun ch => ?_
    rw [BitVec.getLsbD_and, chanSet_zero_getLsbD]
    cases held : a.getLsbD ch.val with
    | false => rfl
    | true => exact apart ch held

/-- A channel set that is not empty holds a channel. -/
theorem chanSet_ne_zero_iff (a : ChanSet) : a ≠ 0 ↔ ∃ ch : Chan, a.getLsbD ch.val = true := by
  constructor
  · intro some
    by_contra none
    refine some (chanSet_ext fun ch => ?_)
    rw [chanSet_zero_getLsbD, ← Bool.not_eq_true]
    exact fun held => none ⟨ch, held⟩
  · rintro ⟨ch, held⟩ empty
    rw [empty, chanSet_zero_getLsbD] at held
    cases held

/-! ### Sound tables -/

/-- Each channel stands in at most one live set, and no live set is empty (R48). -/
structure TableApart (t : Vector OvrSlot 16) : Prop where
  apart : ∀ i j : OvrIdx, i ≠ j → t[i].channels &&& t[j].channels = 0
  nonempty : ∀ (i : OvrIdx) (r : OvrRec), t[i].live = some r → r.channels ≠ 0

theorem State.OverridesApart.table {s : State} (sound : s.OverridesApart) : TableApart s.ret.overrides :=
  ⟨sound.apart, sound.nonempty⟩

/-- A slot only loses channels, and a record its last one only with its place. -/
structure OvrSlot.Shrinks (x y : OvrSlot) : Prop where
  part : ∀ ch : Chan, y.channels.getLsbD ch.val = true → x.channels.getLsbD ch.val = true
  nonempty : (∀ r, x.live = some r → r.channels ≠ 0) → ∀ r, y.live = some r → r.channels ≠ 0

theorem OvrSlot.Shrinks.refl (x : OvrSlot) : x.Shrinks x := ⟨fun _ held => held, id⟩

theorem OvrSlot.channels_live {x : OvrSlot} {r : OvrRec} (live : x.live = some r) : x.channels = r.channels := by
  rw [OvrSlot.channels, live]

/-- A retirement as a whole (R51). -/
theorem OvrSlot.free_shrinks (x : OvrSlot) (reason : OvrReason) : x.Shrinks (x.free reason) where
  part ch held := by
    have empty : (x.free reason).channels = 0 := rfl
    rw [empty, chanSet_zero_getLsbD] at held
    cases held
  nonempty _ _ live := by cases live

/-- A withdrawal (R50). -/
theorem OvrSlot.withdraw_shrinks (x : OvrSlot) (cs : ChanSet) (reason : OvrReason) : x.Shrinks (x.withdraw cs reason) where
  part ch held := by
    rw [OvrSlot.withdraw_channels, BitVec.getLsbD_and, Bool.and_eq_true] at held
    exact held.1
  nonempty some r live := by
    cases before : x.live with
    | none =>
      rw [OvrSlot.withdraw_free before] at live
      cases live
    | some q =>
      rw [OvrSlot.withdraw_live before] at live
      split_ifs at live with apart emptied
      · exact some r live
      · cases live
      · obtain rfl := Option.some.inj live
        exact emptied

/-- A table whose slots only shrink stays sound. -/
theorem TableApart.shrinks {t u : Vector OvrSlot 16} (sound : TableApart t) (shrinks : ∀ i : OvrIdx, t[i].Shrinks u[i]) :
    TableApart u where
  apart i j other := (chanSet_apart_iff _ _).mpr fun ch held => by
    have free := (chanSet_apart_iff _ _).mp (sound.apart i j other) ch ((shrinks i).part ch held)
    rw [← Bool.not_eq_true] at free ⊢
    exact fun held' => free ((shrinks j).part ch held')
  nonempty i := (shrinks i).nonempty (sound.nonempty i)

theorem TableApart.withdrawn {t : Vector OvrSlot 16} (sound : TableApart t) (cs : ChanSet) (reason : OvrReason) :
    TableApart (withdrawn t cs reason) :=
  sound.shrinks fun i => by
    rw [Machine.withdrawn, tab_getElem]
    exact OvrSlot.withdraw_shrinks ..

theorem TableApart.retiredWhole {t : Vector OvrSlot 16} (sound : TableApart t) (test : OvrIdx → OvrRec → Bool)
    (reason : OvrReason) : TableApart (retiredWhole t test reason) :=
  sound.shrinks fun i => by
    rw [Machine.retiredWhole, tab_getElem]
    split
    · split
      · exact OvrSlot.free_shrinks ..
      · exact .refl _
    · exact .refl _

/-- A record that takes channels no other slot holds leaves the table sound (R48). -/
theorem TableApart.set {t : Vector OvrSlot 16} (sound : TableApart t) {i : OvrIdx} {x : OvrSlot}
    (beside : ∀ j : OvrIdx, j ≠ i → t[j].channels &&& x.channels = 0) (some : ∀ r, x.live = some r → r.channels ≠ 0) :
    TableApart (t.set i x) where
  apart j k other := by
    rw [set_getElem, set_getElem]
    split_ifs with hj hk hk
    · exact absurd (hj.trans hk.symm) other
    · rw [BitVec.and_comm]
      exact beside k hk
    · exact beside j hj
    · exact sound.apart j k other
  nonempty j r live := by
    rw [set_getElem] at live
    split_ifs at live
    · exact some r live
    · exact sound.nonempty j r live

end Sys2Proof.Machine
end

section
/-! The creation of an override (R48): what it places and leaves, and that a slot is always FREE for it. -/

namespace Sys2Proof.Machine

/-! ### The slot taken -/

/-- The FREE slot taken is the lowest. -/
theorem freeOverride_eq_some {t : Vector OvrSlot 16} {i : OvrIdx} (free : t[i].live = none)
    (lowest : ∀ j : OvrIdx, j < i → t[j].live ≠ none) : freeOverride t = some i := by
  rw [freeOverride, List.find?_eq_some_iff_getElem]
  refine ⟨Option.isNone_iff_eq_none.mpr free, i.val, by simp, by simp, fun j hj => ?_⟩
  have live := lowest ⟨j, hj.trans i.isLt⟩ hj
  simpa [Option.isSome_iff_ne_none] using live

/-- A new record's slot, by the table after the supersession. -/
def Creation.placed (c : Creation) (i : OvrIdx) (s : State) : OvrSlot :=
  ⟨some (c.record s.runCount s.results), (withdrawn s.ret.overrides c.channels .superseded)[i].gen, .none⟩

/-- The table after a creation that takes a slot. -/
def Creation.table (c : Creation) (i : OvrIdx) (s : State) : Vector OvrSlot 16 :=
  (withdrawn s.ret.overrides c.channels .superseded).set i (c.placed i s)

/-- The retained store after that creation (R38). -/
def Creation.ret (c : Creation) (i : OvrIdx) (s : State) : Retained :=
  { s.ret with
    overrides := c.table i s
    epoch := s.ret.epoch +
      BitVec.ofNat 16 (changedCount s.ret.overrides (withdrawn s.ret.overrides c.channels .superseded)) + 1 }

/-- A new record placed in a slot: the slot and the epoch (R38, R48). -/
theorem State.placeOverride_eq (i : OvrIdx) (r : OvrRec) (s : State) :
    let ret := { s.ret with
      overrides := s.ret.overrides.set i ⟨some r, s.ret.overrides[i].gen, .none⟩
      epoch := s.ret.epoch + 1 }
    s.placeOverride i r = { s with ret := ret, check := ⟨ret⟩ } := rfl

/-- A creation with a FREE slot: the supersession and the new record in one change of the retained store, the flags of the
retired, and one request for the whole set (R48, R49, R57). -/
theorem State.createOverride_eq {c : Creation} {i : OvrIdx} {s : State}
    (slot : freeOverride (withdrawn s.ret.overrides c.channels .superseded) = some i) :
    let retired := freedSlots s.ret.overrides (withdrawn s.ret.overrides c.channels .superseded)
    s.createOverride c = { s with
      ret := c.ret i s
      check := ⟨c.ret i s⟩
      att := { s.att with override := s.att.override ||| retired }
      mail := { s.mail with requests := s.mail.requests ++ asRequest c.channels } } := by
  intro retired
  unfold State.createOverride
  rw [State.supersede, State.settleOverrides_eq]
  simp only [slot, State.placeOverride_eq, State.request_eq]
  rfl

/-- The name of the record a creation places (R198). -/
theorem State.createdName_eq {c : Creation} {i : OvrIdx} {s : State}
    (slot : freeOverride (withdrawn s.ret.overrides c.channels .superseded) = some i) : s.createdName c =
      [byte (i.val + 1), byte (withdrawn s.ret.overrides c.channels .superseded)[i].gen.val] := by
  have after : (s.supersede c.channels).ret.overrides = withdrawn s.ret.overrides c.channels .superseded := rfl
  simp only [State.createdName, after, slot]

/-- A key's oldest request, where it is a creation, is taken (R151). -/
theorem State.takeOldestCreation_cons {s : State} {k : KeyIdx} {c : Creation} {rest : List KeyRequest}
    (oldest : s.mail.keyRequests[k] = .create c :: rest) : s.takeOldestCreation k =
      { s with mail := { s.mail with keyRequests := s.mail.keyRequests.set k rest } }.createOverride c := by
  rw [State.takeOldestCreation, oldest]

/-! ### A slot is always FREE (R48) -/

/-- A channel set apart from sixteen sets that are apart and not empty is empty: these hold every channel. -/
theorem chanSet_eq_zero_of_apart {cs : ChanSet} {sets : OvrIdx → ChanSet} (some : ∀ i, sets i ≠ 0)
    (distinct : ∀ i j, i ≠ j → sets i &&& sets j = 0) (beside : ∀ i, sets i &&& cs = 0) : cs = 0 := by
  choose chan holds using fun i => (chanSet_ne_zero_iff _).mp (some i)
  have injective : Function.Injective chan := fun i j same => by
    by_contra other
    have free := (chanSet_apart_iff _ _).mp (distinct i j other) (chan i) (holds i)
    rw [same, holds j] at free
    cases free
  by_contra held
  obtain ⟨ch, named⟩ := (chanSet_ne_zero_iff _).mp held
  obtain ⟨i, rfl⟩ := Finite.injective_iff_surjective.mp injective ch
  have free := (chanSet_apart_iff _ _).mp (beside i) (chan i) (holds i)
  rw [named] at free
  cases free

/-- After a withdrawal no record holds a withdrawn channel (R50). -/
theorem withdrawn_apart (t : Vector OvrSlot 16) (cs : ChanSet) (reason : OvrReason) (i : OvrIdx) :
    (withdrawn t cs reason)[i].channels &&& cs = 0 := by
  rw [withdrawn, tab_getElem, OvrSlot.withdraw_channels, chanSet_apart_iff]
  intro ch held
  rw [BitVec.getLsbD_and, BitVec.getLsbD_not, Bool.and_eq_true, Bool.and_eq_true, Bool.not_eq_true'] at held
  exact held.2.2

/-- Where the live sets are apart, a withdrawal of some channel leaves a slot FREE (R48). -/
theorem exists_free_withdrawn {t : Vector OvrSlot 16} (sound : TableApart t) {cs : ChanSet} (some : cs ≠ 0)
    (reason : OvrReason) : ∃ i : OvrIdx, (withdrawn t cs reason)[i].live = none := by
  by_contra full
  have left := sound.withdrawn cs reason
  refine some (chanSet_eq_zero_of_apart (fun i => ?_) left.apart (withdrawn_apart t cs reason))
  obtain ⟨r, live⟩ := Option.ne_none_iff_exists'.mp fun free => full ⟨i, free⟩
  rw [OvrSlot.channels_live live]
  exact left.nonempty i r live

/-- The kind of a new record, its baselines channel by channel (R48). -/
theorem Creation.kind_eq (c : Creation) (now : RunCount) (results : Vector Resolution 16) : c.kind now results =
    match c.duration with
    | .timed minutes => .timed now minutes
    | .latched => .latched
    | .untilNext => .untilNext (((List.finRange 16).filter fun ch => c.channels.getLsbD ch.val).map fun ch =>
        (ch, results[ch].verdict)) := by
  obtain ⟨origin, level, channels, duration⟩ := c
  cases duration <;> rfl

/-- Settles O30: the creation in its closed form, by the host and by a key; a slot is FREE by counting channels. -/
theorem aCreationTakesItsChannels : Obligations.ACreationTakesItsChannels := by
  refine ⟨?_, fun s cs sound some => exists_free_withdrawn sound.table some .superseded⟩
  intro s c i left free lowest kind ret flags
  have slot := freeOverride_eq_some free lowest
  have placed : c.placed i s = ⟨some ⟨c.origin, c.level, c.channels, kind, s.runCount⟩, left[i].gen, .none⟩ :=
    congrArg (fun k => OvrSlot.mk (some ⟨c.origin, c.level, c.channels, k, s.runCount⟩) left[i].gen .none)
      (c.kind_eq s.runCount s.results)
  have store : ret = c.ret i s := by
    rw [Creation.ret, Creation.table, placed, changedCount_eq]
  rw [store]
  refine ⟨fun params holds read => next_complete holds ?_, fun k rest running oldest => next_whileRunning running ?_⟩
  · rw [ownCreateOverride, checked_ok read, State.createdName_eq slot, State.createOverride_eq slot]
    rfl
  · rw [State.takeOldestCreation_cons oldest]
    exact State.createOverride_eq slot

end Sys2Proof.Machine
end

section
/-! What stands beside the switching: the operations of the sequencer and the output stage touch the switching records, the
queue, the timers, the fault records, the locks, their flags and the applied-level reports, and nothing else. -/

namespace Sys2Proof.Machine

/-- The state but for what the sequencer and the output stage own, the flags they raise and the reports they hand on. -/
def State.besideSwitching (s : State) : State :=
  { s with
    ret := { s.ret with locks := tabConst 16 false }
    check := ⟨.cold⟩
    sw := tabConst 16 .cold
    gapStamps := tabConst 4 .cold
    queue := []
    lastAdm := 0
    staggerPast := false
    faults := tabConst 16 .cold
    att := { s.att with channel := 0, fault := 0, allOff := false }
    mail := { s.mail with levelReports := [] } }

/-! ### Shapes of operations -/

theorem ite_besideSwitching {p : Prop} [Decidable p] {a b s : State} (ha : a.besideSwitching = s.besideSwitching)
    (hb : b.besideSwitching = s.besideSwitching) : (if p then a else b).besideSwitching = s.besideSwitching := by
  split <;> assumption

theorem foldl_besideSwitching {α : Type} {f : State → α → State}
    (hf : ∀ s a, (f s a).besideSwitching = s.besideSwitching) (l : List α) (s : State) :
    (l.foldl f s).besideSwitching = s.besideSwitching := by
  induction l generalizing s with
  | nil => rfl
  | cons a l ih => exact (ih _).trans (hf s a)

/-! ### One channel -/

theorem State.setSw_besideSwitching (ch : Chan) (w : Switching) (s : State) :
    (s.setSw ch w).besideSwitching = s.besideSwitching := rfl

theorem State.goTo_besideSwitching (ch : Chan) (st : SwState) (s : State) :
    (s.goTo ch st).besideSwitching = s.besideSwitching := ite_besideSwitching rfl rfl

theorem State.stampGroup_besideSwitching (ch : Chan) (s : State) :
    (s.stampGroup ch).besideSwitching = s.besideSwitching := by
  unfold State.stampGroup
  split <;> rfl

theorem State.drop_besideSwitching (ch : Chan) (s : State) : (s.drop ch).besideSwitching = s.besideSwitching :=
  State.stampGroup_besideSwitching ch _

theorem State.switchOff_besideSwitching (ch : Chan) (s : State) : (s.switchOff ch).besideSwitching = s.besideSwitching :=
  (State.goTo_besideSwitching ..).trans (State.drop_besideSwitching ch s)

theorem State.endDrive_besideSwitching (ch : Chan) (s : State) : (s.endDrive ch).besideSwitching = s.besideSwitching :=
  ite_besideSwitching (State.goTo_besideSwitching ..) (State.switchOff_besideSwitching ..)

theorem State.headFor_besideSwitching (ch : Chan) (l : Level) (s : State) :
    (s.headFor ch l).besideSwitching = s.besideSwitching :=
  ite_besideSwitching (ite_besideSwitching rfl (ite_besideSwitching rfl rfl)) rfl

theorem State.restOrLock_besideSwitching (ch : Chan) (s : State) : (s.restOrLock ch).besideSwitching = s.besideSwitching :=
  ite_besideSwitching (State.goTo_besideSwitching ..) (State.goTo_besideSwitching ..)

/-! ### The queue and the tests -/

theorem State.enqueue_besideSwitching (ch : Chan) (s : State) : (s.enqueue ch).besideSwitching = s.besideSwitching :=
  State.goTo_besideSwitching ..

theorem State.admitUpTo_besideSwitching (n : Nat) (s : State) : (s.admitUpTo n).besideSwitching = s.besideSwitching := by
  induction n generalizing s with
  | zero => rfl
  | succ n ih =>
    unfold State.admitUpTo
    split
    · rfl
    · exact ite_besideSwitching ((ih _).trans (State.goTo_besideSwitching ..)) rfl

theorem State.admitDue_besideSwitching (s : State) : s.admitDue.besideSwitching = s.besideSwitching :=
  State.admitUpTo_besideSwitching ..

theorem State.testEligible_besideSwitching (ch : Chan) (s : State) :
    (s.testEligible ch).besideSwitching = s.besideSwitching :=
  ite_besideSwitching (State.goTo_besideSwitching ..) (ite_besideSwitching (State.goTo_besideSwitching ..)
    (ite_besideSwitching (State.goTo_besideSwitching ..) (State.enqueue_besideSwitching ..)))

theorem State.retest_besideSwitching (test : State → Chan → Bool) (chs : List Chan) (s : State) :
    (s.retest test chs).besideSwitching = s.besideSwitching :=
  foldl_besideSwitching (fun _ _ => ite_besideSwitching (State.testEligible_besideSwitching ..) rfl) chs s

theorem State.handBack_besideSwitching (ch : Chan) (s : State) : (s.handBack ch).besideSwitching = s.besideSwitching :=
  have rests := State.goTo_besideSwitching ch .off s
  ite_besideSwitching rests ((State.testEligible_besideSwitching ..).trans rests)

/-- An event of the sequencer leaves beside it what its own change leaves. -/
theorem sequencerEvent_besideSwitching (f : State → State) (s : State) :
    (sequencerEvent f s).besideSwitching = (f s).besideSwitching := by
  rw [sequencerEvent, State.postLevels_eq]
  exact ite_besideSwitching (State.admitDue_besideSwitching _) rfl

/-! ### Targets -/

theorem State.targetZero_besideSwitching (ch : Chan) (s : State) :
    (s.targetZero ch).besideSwitching = s.besideSwitching := by
  unfold State.targetZero
  cases s.sw[ch].state with
  | hold _ | queued => exact State.goTo_besideSwitching ..
  | on => exact ite_besideSwitching (State.endDrive_besideSwitching ..) (State.goTo_besideSwitching ..)
  | off | ending | fading | faulted | locked => rfl

theorem State.targetNonZero_besideSwitching (ch : Chan) (l : Level) (s : State) :
    (s.targetNonZero ch l).besideSwitching = s.besideSwitching := by
  unfold State.targetNonZero
  cases s.sw[ch].state with
  | off => exact State.testEligible_besideSwitching ..
  | on => exact State.headFor_besideSwitching ..
  | ending | fading => exact (State.headFor_besideSwitching ..).trans (State.goTo_besideSwitching ..)
  | hold _ | queued | faulted | locked => rfl

theorem State.takeHandOff_besideSwitching (ts : List (Chan × Level)) (s : State) :
    (s.takeHandOff ts).besideSwitching = s.besideSwitching :=
  calc (s.takeHandOff ts).besideSwitching
    _ = (((s.recordTargets ts).passZero ts).passNonZero ts).besideSwitching := sequencerEvent_besideSwitching _ s
    _ = ((s.recordTargets ts).passZero ts).besideSwitching :=
      foldl_besideSwitching (fun _ _ => ite_besideSwitching rfl (State.targetNonZero_besideSwitching ..)) ts _
    _ = (s.recordTargets ts).besideSwitching :=
      foldl_besideSwitching (fun _ _ => ite_besideSwitching (State.targetZero_besideSwitching ..) rfl) ts _
    _ = s.besideSwitching := foldl_besideSwitching (fun _ _ => State.setSw_besideSwitching ..) ts s

/-! ### Timer expiries -/

theorem State.staggerExpiry_besideSwitching (s : State) : s.staggerExpiry.besideSwitching = s.besideSwitching :=
  (sequencerEvent_besideSwitching ..).trans s.admitDue_besideSwitching

theorem State.endMinOn_besideSwitching (ch : Chan) (s : State) : (s.endMinOn ch).besideSwitching = s.besideSwitching :=
  ite_besideSwitching (State.endDrive_besideSwitching ..) rfl

theorem State.endMinOff_besideSwitching (ch : Chan) (s : State) : (s.endMinOff ch).besideSwitching = s.besideSwitching :=
  ite_besideSwitching (State.testEligible_besideSwitching ..) rfl

theorem State.endGap_besideSwitching (g : Group) (s : State) : (s.endGap g).besideSwitching = s.besideSwitching :=
  ite_besideSwitching (State.retest_besideSwitching ..) rfl

theorem State.endRampStep_besideSwitching (ch : Chan) (s : State) :
    (s.endRampStep ch).besideSwitching = s.besideSwitching := by
  refine ite_besideSwitching ?_ rfl
  cases s.sw[ch].state with
  | on => exact ite_besideSwitching (ite_besideSwitching rfl rfl) rfl
  | fading => exact ite_besideSwitching (State.switchOff_besideSwitching ..) rfl
  | off | hold _ | queued | ending | faulted | locked => rfl

theorem State.completeRamp_besideSwitching (ch : Chan) (s : State) :
    (s.completeRamp ch).besideSwitching = s.besideSwitching := by
  unfold State.completeRamp
  cases s.sw[ch].state with
  | on => exact ite_besideSwitching rfl rfl
  | fading => exact State.switchOff_besideSwitching ..
  | off | hold _ | queued | ending | faulted | locked => rfl

theorem State.markLongPast_besideSwitching (t : LongPastTimer) (s : State) :
    (s.markLongPast t).besideSwitching = s.besideSwitching := by
  cases t <;> exact ite_besideSwitching rfl rfl

/-! ### Commands that change a length -/

theorem State.setStagger_besideSwitching (interval : Byte) (s : State) : (s.setStagger interval).besideSwitching =
    (s.setRet { s.ret with stagger := interval }).besideSwitching := State.staggerExpiry_besideSwitching _

theorem State.configureGroup_besideSwitching (g : Group) (gap : Byte) (s : State) :
    (s.configureGroup g gap).besideSwitching =
      (s.setRet { s.ret with gaps := s.ret.gaps.set g.idx gap }).besideSwitching :=
  ite_besideSwitching rfl ((sequencerEvent_besideSwitching ..).trans (State.endGap_besideSwitching ..))

theorem State.retime_besideSwitching (ch : Chan) (old : ChanRec) (s : State) :
    (s.retime ch old).besideSwitching = s.besideSwitching := by
  have minOn : (if (s.chan ch).minOn < old.minOn then s.endMinOn ch else s).besideSwitching = s.besideSwitching :=
    ite_besideSwitching (State.endMinOn_besideSwitching ..) rfl
  have minOff (u : State) :
      (if (s.chan ch).minOff < old.minOff then u.endMinOff ch else u).besideSwitching = u.besideSwitching :=
    ite_besideSwitching (State.endMinOff_besideSwitching ..) rfl
  have ramp (u : State) : (if (s.chan ch).ramp = 0 then u.completeRamp ch
      else if (s.chan ch).ramp < old.ramp then u.endRampStep ch else u).besideSwitching = u.besideSwitching :=
    ite_besideSwitching (State.completeRamp_besideSwitching ..)
      (ite_besideSwitching (State.endRampStep_besideSwitching ..) rfl)
  exact (ramp _).trans ((minOff _).trans minOn)

theorem State.setChannelTiming_besideSwitching (ch : Chan) (minOn minOff : Byte) (ramp : Fin 16) (retry : Fin 4)
    (s : State) : (s.setChannelTiming ch minOn minOff ramp retry).besideSwitching =
      (s.setChanRec ch { s.chan ch with minOn := minOn, minOff := minOff, ramp := ramp, retry := retry }).besideSwitching :=
  (sequencerEvent_besideSwitching ..).trans (State.retime_besideSwitching ..)

/-! ### The ALL-OFF condition -/

theorem State.forceOff_besideSwitching (ch : Chan) (s : State) : (s.forceOff ch).besideSwitching = s.besideSwitching := by
  unfold State.forceOff
  cases s.sw[ch].state with
  | on | ending | fading => exact (State.goTo_besideSwitching ..).trans (State.drop_besideSwitching ch s)
  | queued | hold _ => exact State.goTo_besideSwitching ..
  | off | faulted | locked => rfl

theorem State.enterAllOff_besideSwitching (s : State) : s.enterAllOff.besideSwitching = s.besideSwitching :=
  foldl_besideSwitching (fun _ _ => State.forceOff_besideSwitching ..) _ _

theorem State.leaveAllOff_besideSwitching (s : State) : s.leaveAllOff.besideSwitching = s.besideSwitching :=
  State.retest_besideSwitching ..

theorem State.allOffInput_besideSwitching (f : State → State) (s : State) :
    (s.allOffInput f).besideSwitching = (f s).besideSwitching :=
  (sequencerEvent_besideSwitching ..).trans (ite_besideSwitching rfl
    (ite_besideSwitching (State.enterAllOff_besideSwitching _) (State.leaveAllOff_besideSwitching _)))

theorem State.takePin_besideSwitching (asserted : Bool) (s : State) :
    (s.takePin asserted).besideSwitching = State.besideSwitching { s with pinTaken := asserted } :=
  State.allOffInput_besideSwitching (fun s => { s with pinTaken := asserted }) s

theorem State.setLatch_besideSwitching (b : Bool) (s : State) :
    (s.setLatch b).besideSwitching = (s.setRet { s.ret with hostLatch := b }).besideSwitching :=
  State.allOffInput_besideSwitching (fun s => s.setRet { s.ret with hostLatch := b }) s

/-! ### The output stage -/

theorem State.raiseFault_besideSwitching (ch : Chan) (s : State) :
    (s.raiseFault ch).besideSwitching = s.besideSwitching := rfl

theorem State.takeOvercurrent_besideSwitching (ch : Chan) (s : State) :
    (s.takeOvercurrent ch).besideSwitching = s.besideSwitching :=
  ite_besideSwitching ((sequencerEvent_besideSwitching ..).trans ((State.raiseFault_besideSwitching ch _).trans
    ((State.restOrLock_besideSwitching ch _).trans ((State.drop_besideSwitching ch _).trans rfl)))) rfl

theorem State.retryExpiry_besideSwitching (ch : Chan) (s : State) :
    (s.retryExpiry ch).besideSwitching = s.besideSwitching :=
  ite_besideSwitching ((sequencerEvent_besideSwitching ..).trans (State.handBack_besideSwitching ch s)) rfl

theorem State.cleanExpiry_besideSwitching (ch : Chan) (s : State) :
    (s.cleanExpiry ch).besideSwitching = s.besideSwitching := ite_besideSwitching rfl rfl

theorem State.clearFault_besideSwitching (ch : Chan) (s : State) : (s.clearFault ch).besideSwitching = s.besideSwitching :=
  ite_besideSwitching ((sequencerEvent_besideSwitching ..).trans (State.handBack_besideSwitching ch _)) rfl

end Sys2Proof.Machine
end

section
/-! The override view of the state: the Override Table with the bindings and the key requests that feed it. What the blocks
beside the record store's overrides and the key panel leave of it, operation by operation. -/

namespace Sys2Proof.Machine

/-- The Override Table, and what hands creations to it. -/
structure OverrideView where
  overrides : Vector OvrSlot 16
  bindings : Vector (Option Binding) 8
  keyRequests : Vector (List KeyRequest) 8

/-- The override view of a state. -/
def State.overrideView (s : State) : OverrideView := ⟨s.ret.overrides, s.ret.bindings, s.mail.keyRequests⟩

/-- The sequencer and the output stage leave the override view. -/
theorem State.overrideView_of_besideSwitching {s t : State} (h : t.besideSwitching = s.besideSwitching) :
    t.overrideView = s.overrideView :=
  calc t.overrideView
    _ = t.besideSwitching.overrideView := rfl
    _ = s.besideSwitching.overrideView := by rw [h]
    _ = s.overrideView := rfl

theorem ite_overrideView {p : Prop} [Decidable p] {a b s : State} (ha : a.overrideView = s.overrideView)
    (hb : b.overrideView = s.overrideView) : (if p then a else b).overrideView = s.overrideView := by
  split <;> assumption

theorem foldl_overrideView {α : Type} {f : State → α → State} (hf : ∀ s a, (f s a).overrideView = s.overrideView)
    (l : List α) (s : State) : (l.foldl f s).overrideView = s.overrideView := by
  induction l generalizing s with
  | nil => rfl
  | cons a l ih => exact (ih _).trans (hf s a)

/-! ### Time -/

theorem State.tick_overrideView (s : State) : s.tick.overrideView = s.overrideView := by
  by_cases off : s.sup.state = .off
  · rw [State.tick_off off]
  cases replaced : s.stepReplaced with
  | true =>
    rw [State.tick_replaced off replaced]
    rfl
  | false =>
    by_cases last : s.cal = .last
    · rw [State.tick_rollover off replaced last]
      rfl
    · rw [State.tick_inside off replaced last]
      rfl

/-! ### The Program Table -/

theorem State.setPrograms_overrideView (t : Vector ProgSlot 96) (s : State) :
    (s.setPrograms t).overrideView = s.overrideView := by
  rw [State.setPrograms_eq]
  rfl

theorem State.evaluateTable_overrideView (p : Present) (s : State) : (s.evaluateTable p).overrideView = s.overrideView := by
  rw [State.evaluateTable_eq]
  rfl

theorem State.takeOldestBoundary_overrideView (s : State) : s.takeOldestBoundary.overrideView = s.overrideView := by
  unfold State.takeOldestBoundary
  split
  · rfl
  · exact State.evaluateTable_overrideView ..

theorem State.takeBoundaries_overrideView (s : State) : s.takeBoundaries.overrideView = s.overrideView :=
  foldl_overrideView (fun _ _ => State.evaluateTable_overrideView ..) _ _

theorem State.takeSetTime_overrideView (v : TimeValue) (stepDue : Bool) (s : State) :
    (s.takeSetTime v stepDue).overrideView = s.overrideView :=
  (State.evaluateTable_overrideView ..).trans s.takeBoundaries_overrideView

theorem State.takeOldestGateReport_overrideView (s : State) : s.takeOldestGateReport.overrideView = s.overrideView := by
  unfold State.takeOldestGateReport
  split
  · rfl
  · exact State.setPrograms_overrideView ..

/-- One slot replaced with its epoch step, as the commands on one record do it (R30 to R33). -/
theorem State.replaceProgram_overrideView (i : ProgIdx) (x : ProgSlot) (s : State) :
    ((s.setProgram i x).advanceEpoch 1).overrideView = s.overrideView := by
  rw [State.replaceProgram_eq]
  rfl

theorem State.createProgram_overrideView (i : ProgIdx) (d : ProgDef) (disabled : Bool) (s : State) :
    (s.createProgram i d disabled).overrideView = s.overrideView := State.replaceProgram_overrideView ..

theorem State.editProgram_overrideView (i : ProgIdx) (r : ProgRec) (d : ProgDef) (s : State) :
    (s.editProgram i r d).overrideView = s.overrideView := State.replaceProgram_overrideView ..

theorem State.enableProgram_overrideView (i : ProgIdx) (r : ProgRec) (s : State) :
    (s.enableProgram i r).overrideView = s.overrideView := ite_overrideView (State.replaceProgram_overrideView ..) rfl

theorem State.disableProgram_overrideView (i : ProgIdx) (r : ProgRec) (s : State) :
    (s.disableProgram i r).overrideView = s.overrideView := ite_overrideView rfl (State.replaceProgram_overrideView ..)

theorem State.deleteProgram_overrideView (i : ProgIdx) (s : State) : (s.deleteProgram i).overrideView = s.overrideView :=
  State.replaceProgram_overrideView ..

/-! ### Gates -/

theorem State.changeGate_overrideView (g : GateIdx) (w : GateWork) (s : State) :
    (s.changeGate g w).overrideView = s.overrideView := by
  rw [State.changeGate_eq]
  rfl

theorem State.converterRound_overrideView (a0 a1 a2 a3 : Byte) (completed : Fin 5) (s : State) :
    (s.converterRound a0 a1 a2 a3 completed).overrideView = s.overrideView :=
  foldl_overrideView (fun _ _ => State.changeGate_overrideView ..) _ s

theorem State.configureGate_overrideView (g : GateIdx) (cfg : GateConfig) (s : State) :
    (s.configureGate g cfg).overrideView = s.overrideView := State.changeGate_overrideView ..

theorem State.setGateMode_overrideView (g : GateIdx) (m : GateMode) (s : State) :
    (s.setGateMode g m).overrideView = s.overrideView := State.changeGate_overrideView ..

/-! ### The resolver -/

theorem State.resolve_overrideView (sc : Scope) (s : State) : (s.resolve sc).overrideView = s.overrideView := by
  rw [State.resolve_eq]
  rfl

theorem State.takeRequestAt_overrideView (place : Nat) (s : State) :
    (s.takeRequestAt place).overrideView = s.overrideView := by
  unfold State.takeRequestAt
  split
  · rfl
  · exact State.resolve_overrideView ..

theorem State.takeLevelsAt_overrideView (place : Nat) (s : State) :
    (s.takeLevelsAt place).overrideView = s.overrideView := by
  unfold State.takeLevelsAt
  split
  · rfl
  · exact State.resolve_overrideView ..

theorem State.configureChannel_overrideView (ch : Chan) (kind : ChanKind) (group : Option Group) (cls : QueueClass)
    (s : State) : (s.configureChannel ch kind group cls).overrideView = s.overrideView :=
  ite_overrideView rfl (State.resolve_overrideView ..)

theorem State.setFallback_overrideView (ch : Chan) (l : Level) (s : State) :
    (s.setFallback ch l).overrideView = s.overrideView := State.resolve_overrideView ..

/-! ### The sequencer's rows -/

theorem State.takeOldestHandOff_overrideView (s : State) : s.takeOldestHandOff.overrideView = s.overrideView := by
  unfold State.takeOldestHandOff
  split
  · rfl
  · exact (State.overrideView_of_besideSwitching (State.takeHandOff_besideSwitching ..)).trans rfl

/-- An event of the sequencer leaves the override view where its own change does. -/
theorem sequencerEvent_overrideView {f : State → State} {s : State} (hf : (f s).besideSwitching = s.besideSwitching) :
    (sequencerEvent f s).overrideView = s.overrideView :=
  State.overrideView_of_besideSwitching ((sequencerEvent_besideSwitching f s).trans hf)

theorem State.takePin_overrideView (asserted : Bool) (s : State) : (s.takePin asserted).overrideView = s.overrideView :=
  (State.overrideView_of_besideSwitching (State.takePin_besideSwitching asserted s)).trans rfl

theorem State.setLatch_overrideView (b : Bool) (s : State) : (s.setLatch b).overrideView = s.overrideView :=
  (State.overrideView_of_besideSwitching (State.setLatch_besideSwitching b s)).trans rfl

theorem State.setStagger_overrideView (interval : Byte) (s : State) :
    (s.setStagger interval).overrideView = s.overrideView :=
  (State.overrideView_of_besideSwitching (State.setStagger_besideSwitching ..)).trans rfl

theorem State.configureGroup_overrideView (g : Group) (gap : Byte) (s : State) :
    (s.configureGroup g gap).overrideView = s.overrideView :=
  (State.overrideView_of_besideSwitching (State.configureGroup_besideSwitching ..)).trans rfl

theorem State.setChannelTiming_overrideView (ch : Chan) (minOn minOff : Byte) (ramp : Fin 16) (retry : Fin 4) (s : State) :
    (s.setChannelTiming ch minOn minOff ramp retry).overrideView = s.overrideView :=
  (State.overrideView_of_besideSwitching (State.setChannelTiming_besideSwitching ..)).trans rfl

/-! ### The host link -/

theorem State.endTransaction_overrideView (s : State) : s.endTransaction.overrideView = s.overrideView := by
  rw [State.endTransaction_frame]
  rfl

theorem State.riseMidFrame_overrideView (s : State) : s.riseMidFrame.overrideView = s.overrideView := by
  unfold State.riseMidFrame
  cases s.link.state with
  | receiving _ => exact State.endTransaction_overrideView s
  | idle | executing _ | ready _ => rfl

theorem State.nameTransaction_overrideView {act : State → State} (hf : ∀ s, (act s).overrideView = s.overrideView) (n : Nat)
    (s : State) : (s.nameTransaction n act).overrideView = s.overrideView := by
  unfold State.nameTransaction
  split
  · exact ite_overrideView rfl (hf s)
  · rfl

theorem transact_overrideView {act : State → State} (hf : ∀ s, (act s).overrideView = s.overrideView) (part : FirstByte)
    (n : Nat) (s : State) : (transact part n act s).overrideView = s.overrideView := by
  refine ite_overrideView ?_ ?_
  · cases part with
    | whole => exact (State.nameTransaction_overrideView hf n _).trans s.endTransaction_overrideView
    | begins => exact s.endTransaction_overrideView
    | taken => exact State.nameTransaction_overrideView hf n s
  · cases part <;> rfl

theorem State.receive_overrideView (bytes : List Byte) (s : State) : (s.receive bytes).overrideView = s.overrideView := by
  unfold State.receive
  split
  · rfl
  · rfl
  · refine ite_overrideView rfl ?_
    split
    · rfl
    · exact ite_overrideView rfl (ite_overrideView rfl rfl)

theorem State.nameStatus_overrideView (n : Nat) (s : State) : (s.nameStatus n).overrideView = s.overrideView := rfl
theorem State.nameFetch_overrideView (n : Nat) (s : State) : (s.nameFetch n).overrideView = s.overrideView := rfl
theorem State.nameNone_overrideView (n : Nat) (s : State) : (s.nameNone n).overrideView = s.overrideView := rfl

theorem State.nameCommand_overrideView (bytes : List Byte) (s : State) :
    (s.nameCommand bytes).overrideView = s.overrideView := by
  unfold State.nameCommand
  simp only
  split
  · exact State.receive_overrideView ..
  all_goals rfl

end Sys2Proof.Machine
end

section
/-! Every row keeps the Override Table sound (R47, R48, R50): the table's own operations shrink live sets or take channels no
record holds, the key panel hands on creations that name a channel, and the other blocks leave all of this. -/

namespace Sys2Proof.Machine

/-! ### What keeps the invariant -/

/-- A state with the same override view is as sound. -/
theorem State.OverridesApart.of_view {s t : State} (sound : s.OverridesApart) (view : t.overrideView = s.overrideView) :
    t.OverridesApart := by
  obtain ⟨overrides, bindings, waiting⟩ := OverrideView.mk.inj view
  exact ⟨overrides ▸ sound.apart, overrides ▸ sound.nonempty, bindings ▸ sound.bindings, waiting ▸ sound.waiting⟩

/-- A state with another sound table is as sound. -/
theorem State.OverridesApart.of_table {s t : State} (sound : s.OverridesApart) (table : TableApart t.ret.overrides)
    (bindings : t.ret.bindings = s.ret.bindings) (requests : t.mail.keyRequests = s.mail.keyRequests) : t.OverridesApart :=
  ⟨table.apart, table.nonempty, bindings ▸ sound.bindings, requests ▸ sound.waiting⟩

/-- A state in which no key's request waits is as sound. -/
theorem State.OverridesApart.of_noRequests {s t : State} (sound : s.OverridesApart) (table : TableApart t.ret.overrides)
    (bindings : t.ret.bindings = s.ret.bindings) (none : t.mail.keyRequests = tabConst 8 []) : t.OverridesApart :=
  ⟨table.apart, table.nonempty, bindings ▸ sound.bindings, fun k c waiting => by
    rw [none, tabConst_getElem] at waiting
    cases waiting⟩

/-! ### The table's operations -/

theorem State.OverridesApart.endOverrides {s : State} (sound : s.OverridesApart) {t : Vector OvrSlot 16}
    (table : TableApart t) : (s.endOverrides t).OverridesApart := by
  rw [State.endOverrides_eq]
  exact sound.of_table table rfl rfl

theorem State.OverridesApart.retireOverride {s : State} (sound : s.OverridesApart) (i : OvrIdx) (reason : OvrReason) :
    (s.retireOverride i reason).OverridesApart := sound.endOverrides (sound.table.retiredWhole _ reason)

theorem State.OverridesApart.releaseChannels {s : State} (sound : s.OverridesApart) (cs : ChanSet) :
    (s.releaseChannels cs).OverridesApart := sound.endOverrides (sound.table.withdrawn cs .cancelled)

theorem State.OverridesApart.expireOverride {s : State} (sound : s.OverridesApart) (i : OvrIdx) :
    (s.expireOverride i).OverridesApart := by
  unfold State.expireOverride
  split
  · split
    · exact sound.retireOverride i .expired
    · exact sound
  · exact sound

/-- An extension changes the timer of a live record and no set (R54). -/
theorem State.OverridesApart.extendOverride {s : State} (sound : s.OverridesApart) {i : OvrIdx} {r : OvrRec}
    (live : s.ret.overrides[i].live = some r) (minutes : Nat) : (s.extendOverride i r minutes).OverridesApart := by
  refine sound.of_table (sound.table.set (fun j other => ?_) fun q extended => ?_) rfl rfl
  · have apart := sound.apart j i other
    rwa [OvrSlot.channels_live live] at apart
  · obtain rfl := Option.some.inj extended
    exact sound.nonempty i r live

/-- A creation with a channel takes channels that the supersession has freed (R48). -/
theorem State.OverridesApart.createOverride {s : State} (sound : s.OverridesApart) {c : Creation} (some : c.channels ≠ 0) :
    (s.createOverride c).OverridesApart := by
  have left := sound.table.withdrawn c.channels .superseded
  cases slot : freeOverride (withdrawn s.ret.overrides c.channels .superseded) with
  | none =>
    have stands : s.createOverride c = s.supersede c.channels := by
      unfold State.createOverride
      rw [State.supersede, State.settleOverrides_eq]
      simp only [slot]
    rw [stands]
    exact sound.of_table left rfl rfl
  | some i =>
    rw [State.createOverride_eq slot]
    refine sound.of_table (left.set (fun j _ => withdrawn_apart ..) fun r placed => ?_) rfl rfl
    obtain rfl := Option.some.inj placed
    exact some

theorem State.OverridesApart.settleVerdicts {s : State} (sound : s.OverridesApart) (vs : List (Chan × Verdict)) :
    (s.settleVerdicts vs).OverridesApart := sound.endOverrides (sound.table.withdrawn _ .programChanged)

theorem State.OverridesApart.takeOldestVerdicts {s : State} (sound : s.OverridesApart) :
    s.takeOldestVerdicts.OverridesApart := by
  unfold State.takeOldestVerdicts
  split
  · exact sound
  · rename_i vs rest _
    exact State.OverridesApart.settleVerdicts (s := { s with mail := { s.mail with verdictReports := rest } })
      (sound.of_view rfl) vs

/-! ### Key requests -/

/-- A key's list of requests replaced by one whose creations each name a channel (R47). -/
theorem State.OverridesApart.setRequests {s : State} (sound : s.OverridesApart) {k : KeyIdx} {rs : List KeyRequest}
    (some : ∀ c, .create c ∈ rs → c.channels ≠ 0) :
    State.OverridesApart { s with mail := { s.mail with keyRequests := s.mail.keyRequests.set k rs } } where
  apart := sound.apart
  nonempty := sound.nonempty
  bindings := sound.bindings
  waiting j c waits := by
    have slot := set_getElem s.mail.keyRequests k j rs
    rw [slot] at waits
    split at waits
    · exact some c waits
    · exact sound.waiting j c waits

theorem State.OverridesApart.takeOldestCreation {s : State} (sound : s.OverridesApart) (k : KeyIdx) :
    (s.takeOldestCreation k).OverridesApart := by
  unfold State.takeOldestCreation
  split
  · rename_i c rest oldest
    have named (x : Creation) (waits : .create x ∈ KeyRequest.create c :: rest) : x.channels ≠ 0 :=
      sound.waiting k x (oldest ▸ waits)
    exact State.OverridesApart.createOverride
      (sound.setRequests fun x waits => named x (List.mem_cons_of_mem _ waits)) (named c List.mem_cons_self)
  · exact sound
  · exact sound

theorem State.OverridesApart.takeOldestRelease {s : State} (sound : s.OverridesApart) (k : KeyIdx) :
    (s.takeOldestRelease k).OverridesApart := by
  unfold State.takeOldestRelease
  split
  · rename_i cs rest oldest
    exact State.OverridesApart.releaseChannels
      (sound.setRequests fun x waits => sound.waiting k x (oldest ▸ List.mem_cons_of_mem _ waits)) cs
  · exact sound
  · exact sound

/-! ### The key panel -/

theorem State.OverridesApart.postKeyRequest {s : State} (sound : s.OverridesApart) {k : KeyIdx} {r : KeyRequest}
    (some : ∀ c, r = .create c → c.channels ≠ 0) : (s.postKeyRequest k r).OverridesApart :=
  sound.setRequests fun c waits => by
    obtain waits | posted := List.mem_append.mp waits
    · exact sound.waiting k c waits
    · exact some c (List.mem_singleton.mp posted).symm

/-- A key's short action creates an override of the bound channels, or none (R148). -/
theorem Binding.shortAction_create {b : Binding} {k : KeyIdx} {results : Vector Resolution 16} {c : Creation}
    (created : b.shortAction k results = .create c) : c.channels = b.channels := by
  unfold Binding.shortAction at created
  cases action : b.action with
  | toggle | on | off =>
    rw [action] at created
    cases created
    rfl
  | release =>
    rw [action] at created
    cases created

theorem State.OverridesApart.shortAction {s : State} (sound : s.OverridesApart) (k : KeyIdx) :
    (s.shortAction k).OverridesApart := by
  unfold State.shortAction
  split
  · rename_i b bound
    refine sound.postKeyRequest fun c created => ?_
    rw [Binding.shortAction_create created]
    exact sound.bindings k b bound
  · exact sound

theorem State.OverridesApart.longAction {s : State} (sound : s.OverridesApart) (k : KeyIdx) :
    (s.longAction k).OverridesApart := by
  unfold State.longAction
  split
  · exact sound.postKeyRequest fun c created => by cases created
  · exact sound

theorem State.OverridesApart.sampleKey {s : State} (sound : s.OverridesApart) (k : KeyIdx) (reading : Bool) :
    (s.sampleKey k reading).OverridesApart := by
  have sampled : (s.setKey k (debounce s.keys[k] reading).1).OverridesApart := sound.of_view rfl
  unfold State.sampleKey
  dsimp only
  split
  · split
    · unfold State.recognisePress
      split
      · exact sampled.of_view (ite_overrideView rfl rfl)
      all_goals exact sampled
    · unfold State.recogniseRelease
      split
      · exact (sampled.shortAction k).of_view rfl
      · exact sampled.of_view rfl
      · exact sampled
  · exact sampled

theorem State.OverridesApart.keySample {s : State} (sound : s.OverridesApart) (pressed : BitVec 8) :
    (s.keySample pressed).OverridesApart :=
  List.foldlRecOn _ _ sound fun _ before k _ => before.sampleKey k _

theorem State.OverridesApart.holdExpiry {s : State} (sound : s.OverridesApart) (k : KeyIdx) :
    (s.holdExpiry k).OverridesApart := by
  unfold State.holdExpiry
  split
  · exact (sound.longAction k).of_view rfl
  · exact sound

/-- A binding that names a channel, or none, leaves the bindings sound (R147). -/
theorem State.OverridesApart.bindKey {s : State} (sound : s.OverridesApart) {k : KeyIdx} {b : Option Binding}
    (some : ∀ x, b = Option.some x → x.channels ≠ 0) : (s.bindKey k b).OverridesApart where
  apart := sound.apart
  nonempty := sound.nonempty
  bindings j x bound := by
    have slot := set_getElem s.ret.bindings k j b
    have bound' : (s.ret.bindings.set k b)[j] = Option.some x := bound
    rw [slot] at bound'
    split at bound'
    · exact some x bound'
    · exact sound.bindings j x bound'
  waiting := sound.waiting

theorem State.setPanelLock_overrideView (locked : Bool) (s : State) :
    (s.setPanelLock locked).overrideView = s.overrideView := ite_overrideView rfl rfl

/-! ### Readers -/

/-- A creation that is read names a channel (R47, R198). -/
theorem readCreateOverride_channels {ps : List Byte} {c : Creation} (read : readCreateOverride ps = .ok c) :
    c.channels ≠ 0 := by
  unfold readCreateOverride at read
  split at read
  · rename_i kl c0 c1 m0 m1
    obtain ⟨-, read⟩ := require_eq_ok.mp read
    obtain ⟨some, read⟩ := require_eq_ok.mp read
    have channels : c.channels = wireSet c0 c1 := by
      split_ifs at read
      · obtain ⟨-, read⟩ := require_eq_ok.mp read
        rw [← Except.ok.inj read]
      · rw [← Except.ok.inj read]
      · rw [← Except.ok.inj read]
    rw [channels]
    exact of_decide_eq_true some
  · cases read

theorem readBindKey_channels {ps : List Byte} {k : KeyIdx} {b : Binding} (read : readBindKey ps = .ok (k, some b)) :
    b.channels ≠ 0 := by
  unfold readBindKey at read
  split at read
  · split at read
    · cases read
    · obtain ⟨some, read⟩ := require_eq_ok.mp read
      obtain ⟨-, read⟩ := require_eq_ok.mp read
      cases duration : readDuration _ _ with
      | error index => rw [duration] at read; cases read
      | ok d =>
        rw [duration] at read
        cases read
        exact of_decide_eq_true some
    · cases read
    · cases read
  · cases read

end Sys2Proof.Machine
end

section
/-! The Override Table stays sound through every row and every step (R48, R50): the events and commands, the supervisor's rows,
and the start. -/

namespace Sys2Proof.Machine

/-! ### Shapes of rows -/

theorem State.OverridesApart.whileRunning {s : State} (sound : s.OverridesApart) {f : State → State}
    (hf : (f s).OverridesApart) : (whileRunning f s).OverridesApart := by
  unfold Machine.whileRunning
  split
  · exact hf
  · exact sound

theorem State.OverridesApart.complete {s : State} (sound : s.OverridesApart) {code : Byte}
    {owner : List Byte → State → Answer} (answers : ∀ ps, (owner ps s).state.OverridesApart) :
    (complete code owner s).OverridesApart := by
  unfold Machine.complete
  split
  · exact (answers _).of_view rfl
  · exact sound

theorem State.OverridesApart.checked {s : State} (sound : s.OverridesApart) {α : Type} {read : Except Nat α} {f : α → Answer}
    (passes : ∀ a, read = .ok a → (f a).state.OverridesApart) : (checked read s f).state.OverridesApart := by
  unfold Machine.checked
  split
  · exact passes _ rfl
  · exact sound

theorem State.OverridesApart.onProgram {s : State} (sound : s.OverridesApart) {n : Name 96} {f : ProgRec → Answer}
    (live : ∀ r, (f r).state.OverridesApart) : (s.onProgram n f).state.OverridesApart := by
  unfold State.onProgram
  cases s.namedProgram n with
  | stale | free => exact sound
  | live r => exact live r

/-- A name judged live names the slot's record (R45). -/
theorem State.live_of_namedOverride {s : State} {n : Name 16} {r : OvrRec} (judged : s.namedOverride n = .live r) :
    s.ret.overrides[n.slot].live = some r := by
  unfold State.namedOverride judgeName at judged
  split at judged
  · cases judged
  · split at judged
    · cases judged
    · rename_i live
      cases judged
      exact live

theorem State.OverridesApart.onOverride {s : State} (sound : s.OverridesApart) {n : Name 16} {f : OvrRec → Answer}
    (live : ∀ r, s.ret.overrides[n.slot].live = some r → (f r).state.OverridesApart) :
    (s.onOverride n f).state.OverridesApart := by
  unfold State.onOverride
  cases judged : s.namedOverride n with
  | stale | free => exact sound
  | live r => exact live r (State.live_of_namedOverride judged)

/-- An answer of two arms is sound where both are. -/
theorem Answer.ite_overridesApart {p : Prop} [Decidable p] {a b : Answer} (ha : a.state.OverridesApart)
    (hb : b.state.OverridesApart) : (if p then a else b).state.OverridesApart := by
  split <;> assumption

/-! ### Host commands -/

theorem State.OverridesApart.ownCreateProgram {s : State} (sound : s.OverridesApart) (ps : List Byte) :
    (ownCreateProgram ps s).state.OverridesApart := by
  refine sound.checked fun ⟨disabled, d⟩ _ => Answer.ite_overridesApart sound ?_
  split
  · exact sound
  · exact sound.of_view (State.createProgram_overrideView ..)

theorem State.OverridesApart.ownEditProgram {s : State} (sound : s.OverridesApart) (ps : List Byte) :
    (ownEditProgram ps s).state.OverridesApart :=
  sound.checked fun _ _ => sound.onProgram fun _ =>
    Answer.ite_overridesApart sound (sound.of_view (State.editProgram_overrideView ..))

theorem State.OverridesApart.ownReadProgram {s : State} (sound : s.OverridesApart) (ps : List Byte) :
    (ownReadProgram ps s).state.OverridesApart := by
  refine sound.checked fun n _ => ?_
  cases s.namedProgram n <;> exact sound

theorem State.OverridesApart.ownExtendOverride {s : State} (sound : s.OverridesApart) (ps : List Byte) :
    (ownExtendOverride ps s).state.OverridesApart := by
  refine sound.checked fun ⟨n, minutes⟩ _ => sound.onOverride fun r live => ?_
  cases r.kind with
  | timed _ _ => exact sound.extendOverride live minutes
  | untilNext _ | latched => exact sound

theorem State.OverridesApart.ownReadOverrides {s : State} (sound : s.OverridesApart) (ps : List Byte) :
    (ownReadOverrides ps s).state.OverridesApart := by
  refine sound.checked fun q _ => ?_
  cases q with
  | page first => exact sound
  | single n =>
    cases judged : s.namedOverride n with
    | stale | free | live _ =>
      simp only [judged]
      exact sound

theorem State.OverridesApart.ownSetGateMode {s : State} (sound : s.OverridesApart) (ps : List Byte) :
    (ownSetGateMode ps s).state.OverridesApart :=
  sound.checked fun _ _ => Answer.ite_overridesApart sound (sound.of_view (State.setGateMode_overrideView ..))

theorem State.OverridesApart.ownConfigureChannel {s : State} (sound : s.OverridesApart) (ps : List Byte) :
    (ownConfigureChannel ps s).state.OverridesApart :=
  sound.checked fun _ _ => Answer.ite_overridesApart (sound.of_view (State.configureChannel_overrideView ..)) sound

theorem State.OverridesApart.ownSetChannelTiming {s : State} (sound : s.OverridesApart) (ps : List Byte) :
    (ownSetChannelTiming ps s).state.OverridesApart :=
  sound.checked fun _ _ => Answer.ite_overridesApart sound (sound.of_view (State.setChannelTiming_overrideView ..))

/-! ### The supervisor's rows -/

theorem State.OverridesApart.assertReset {s : State} (sound : s.OverridesApart) : s.assertReset.OverridesApart := by
  unfold State.assertReset
  cases h : s.sup.state with
  | running | starting => simp only [h]; exact sound.of_noRequests sound.table rfl rfl
  | retention | off => simp only [h]; exact sound.of_view rfl

theorem State.OverridesApart.releaseReset {s : State} (sound : s.OverridesApart) : s.releaseReset.OverridesApart := by
  unfold State.releaseReset
  cases h : s.sup.state with
  | running | starting | retention | off => simp only [h]; exact sound.of_view rfl

theorem State.OverridesApart.qualified {s : State} (sound : s.OverridesApart) : s.qualified.OverridesApart :=
  sound.of_view (ite_overrideView rfl rfl)

theorem State.OverridesApart.takeStart {s : State} (sound : s.OverridesApart) (code : Byte) (cold : Bool) :
    (takeStart code cold s).OverridesApart := by
  unfold Machine.takeStart
  split
  · split
    · exact sound.of_noRequests sound.table rfl rfl
    · exact sound.of_view rfl
  · exact sound

/-! ### The rows that leave the retained store where it is -/

/-- The row that ends a start (R161). -/
def endsStart : Instr → Bool
  | .startingEnd _ => true
  | _ => false

theorem endsStart_iff {c : Instr} : endsStart c = true ↔ ∃ pin, c = .startingEnd pin := by
  cases c <;> simp [endsStart]

/-- The rows of the supervisor that may lose the retained store or begin anew: those that bring supply levels, and the end of
a start (R156, R162). -/
def remakesStore (c : Instr) : Bool := bringsSupplyLevels c || endsStart c

/-- The next state of an event that keeps the tables sound. -/
theorem event_overridesApart {s t : State} {f : State → State} (sound : s.OverridesApart) (hf : (f s).OverridesApart)
    (h : (Host.Outcome.next (whileRunning f s) : Host.Outcome State Fault Refusal) = .next t) : t.OverridesApart := by
  rw [← Host.Outcome.next.inj h]
  exact sound.whileRunning hf

/-- The next state of an event that leaves the override view. -/
theorem event_overrideView {s t : State} {f : State → State} (sound : s.OverridesApart)
    (view : (f s).overrideView = s.overrideView)
    (h : (Host.Outcome.next (whileRunning f s) : Host.Outcome State Fault Refusal) = .next t) : t.OverridesApart :=
  event_overridesApart sound (sound.of_view view) h

/-- The next state of a row that leaves the override view. -/
theorem next_overrideView {s t u : State} (sound : s.OverridesApart) (view : u.overrideView = s.overrideView)
    (h : (Host.Outcome.next u : Host.Outcome State Fault Refusal) = .next t) : t.OverridesApart := by
  rw [← Host.Outcome.next.inj h]
  exact sound.of_view view

/-- The next state of a host command whose owner keeps the tables sound. -/
theorem completion_overridesApart {s t : State} {code : Byte} {owner : List Byte → State → Answer}
    (sound : s.OverridesApart) (answers : ∀ ps, (owner ps s).state.OverridesApart)
    (h : (Host.Outcome.next (complete code owner s) : Host.Outcome State Fault Refusal) = .next t) : t.OverridesApart := by
  rw [← Host.Outcome.next.inj h]
  exact sound.complete answers

/-- Every row that leaves the retained store where it is keeps the overrides apart. -/
theorem exec_overridesApart {c : Instr} {s t : State} (hr : remakesStore c = false) (sound : s.OverridesApart)
    (h : exec c s = .next t) : t.OverridesApart := by
  have switching {u v : State} (beside : u.besideSwitching = v.besideSwitching) : u.overrideView = v.overrideView :=
    State.overrideView_of_besideSwitching beside
  cases c with
  | startingEnd _ | vddFall _ | vddRise _ | backupSupplyFall _ | backupDomainLoss _ _ | backupDomainPowerUp _ _
  | vddBelowQualificationThreshold _ => simp [remakesStore, endsStart, bringsSupplyLevels] at hr
  | readTime | setResumePolicy | readGates | readChannel | explainChannel | readQueue | readKeyBinding | setAttentionMask
  | readAttention =>
    exact completion_overridesApart sound (fun _ => sound.checked fun _ _ => sound.of_view rfl) h
  | calendarAdvance => exact next_overrideView sound s.tick_overrideView h
  | yearRollover =>
    have ticked := s.tick_overrideView
    exact next_overrideView sound (ite_overrideView
      (ite_overrideView (s.tick.takeBoundaries_overrideView.trans ticked) ticked) rfl) h
  | setTime stepDue =>
    exact completion_overridesApart sound
      (fun _ => sound.checked fun _ _ => sound.of_view (State.takeSetTime_overrideView ..)) h
  | minuteBoundary => exact event_overrideView sound s.takeOldestBoundary_overrideView h
  | createProgram => exact completion_overridesApart sound sound.ownCreateProgram h
  | editProgram => exact completion_overridesApart sound sound.ownEditProgram h
  | readProgram => exact completion_overridesApart sound sound.ownReadProgram h
  | enableProgram =>
    exact completion_overridesApart sound (fun _ => sound.checked fun _ _ => sound.onProgram fun _ =>
      sound.of_view (State.enableProgram_overrideView ..)) h
  | disableProgram =>
    exact completion_overridesApart sound (fun _ => sound.checked fun _ _ => sound.onProgram fun _ =>
      sound.of_view (State.disableProgram_overrideView ..)) h
  | deleteProgram =>
    exact completion_overridesApart sound (fun _ => sound.checked fun _ _ => sound.onProgram fun _ =>
      sound.of_view (State.deleteProgram_overrideView ..)) h
  | listPrograms =>
    exact completion_overridesApart sound (fun _ => sound.checked fun _ _ => Answer.ite_overridesApart sound sound) h
  | reResolutionRequest place => exact event_overrideView sound (s.takeRequestAt_overrideView place) h
  | verdictReport => exact event_overridesApart sound sound.takeOldestVerdicts h
  | gateChangeReport => exact event_overrideView sound s.takeOldestGateReport_overrideView h
  | createOverride =>
    exact completion_overridesApart sound (fun _ => sound.checked fun _ read =>
      sound.createOverride (readCreateOverride_channels read)) h
  | creationRequest k => exact event_overridesApart sound (sound.takeOldestCreation k) h
  | extendOverride => exact completion_overridesApart sound sound.ownExtendOverride h
  | cancelOverride =>
    exact completion_overridesApart sound (fun _ => sound.checked fun _ _ => sound.onOverride fun _ _ =>
      sound.retireOverride _ .cancelled) h
  | releaseChannels =>
    exact completion_overridesApart sound (fun _ => sound.checked fun cs _ => sound.releaseChannels cs) h
  | release k => exact event_overridesApart sound (sound.takeOldestRelease k) h
  | overrideExpiry i => exact event_overridesApart sound (sound.expireOverride i) h
  | readOverrides => exact completion_overridesApart sound sound.ownReadOverrides h
  | converterRound a0 a1 a2 a3 n => exact event_overrideView sound (s.converterRound_overrideView a0 a1 a2 a3 n) h
  | configureGate =>
    exact completion_overridesApart sound (fun _ => sound.checked fun _ _ =>
      sound.of_view (State.configureGate_overrideView ..)) h
  | setGateMode => exact completion_overridesApart sound sound.ownSetGateMode h
  | configureChannel => exact completion_overridesApart sound sound.ownConfigureChannel h
  | setChannelTiming => exact completion_overridesApart sound sound.ownSetChannelTiming h
  | setFallback =>
    exact completion_overridesApart sound (fun _ => sound.checked fun _ _ =>
      sound.of_view (State.setFallback_overrideView ..)) h
  | configureGroup =>
    exact completion_overridesApart sound (fun _ => sound.checked fun _ _ =>
      sound.of_view (State.configureGroup_overrideView ..)) h
  | appliedLevelReport place => exact event_overrideView sound (s.takeLevelsAt_overrideView place) h
  | handOff => exact event_overrideView sound s.takeOldestHandOff_overrideView h
  | staggerExpiry => exact event_overrideView sound (switching s.staggerExpiry_besideSwitching) h
  | minOnExpiry ch => exact event_overrideView sound (sequencerEvent_overrideView (s.endMinOn_besideSwitching ch)) h
  | minOffExpiry ch => exact event_overrideView sound (sequencerEvent_overrideView (s.endMinOff_besideSwitching ch)) h
  | changeoverGapExpiry g => exact event_overrideView sound (sequencerEvent_overrideView (s.endGap_besideSwitching g)) h
  | rampTimerExpiry ch => exact event_overrideView sound (sequencerEvent_overrideView (s.endRampStep_besideSwitching ch)) h
  | longPastMark t => exact event_overrideView sound (switching (s.markLongPast_besideSwitching t)) h
  | allOffPinChange asserted => exact event_overrideView sound (s.takePin_overrideView asserted) h
  | forceAllOff | releaseAllOff =>
    exact completion_overridesApart sound (fun _ => sound.checked fun _ _ =>
      sound.of_view (State.setLatch_overrideView ..)) h
  | setStagger =>
    exact completion_overridesApart sound (fun _ => sound.checked fun _ _ =>
      sound.of_view (State.setStagger_overrideView ..)) h
  | overcurrentReport ch => exact event_overrideView sound (switching (s.takeOvercurrent_besideSwitching ch)) h
  | retryTimerExpiry ch => exact event_overrideView sound (switching (s.retryExpiry_besideSwitching ch)) h
  | cleanRunExpiry ch => exact event_overrideView sound (switching (s.cleanExpiry_besideSwitching ch)) h
  | clearFault =>
    exact completion_overridesApart sound (fun _ => sound.checked fun _ _ =>
      sound.of_view (switching (State.clearFault_besideSwitching ..))) h
  | keySample pressed => exact event_overridesApart sound (sound.keySample pressed) h
  | holdTimerExpiry k => exact event_overridesApart sound (sound.holdExpiry k) h
  | bindKey =>
    exact completion_overridesApart sound (fun _ => sound.checked fun (k, b) read => sound.bindKey fun x bound =>
      readBindKey_channels (bound ▸ read)) h
  | setPanelLock =>
    exact completion_overridesApart sound (fun _ => sound.checked fun _ _ =>
      sound.of_view (State.setPanelLock_overrideView ..)) h
  | rstAssert => obtain rfl := Host.Outcome.next.inj h; exact sound.assertReset
  | rstRelease => obtain rfl := Host.Outcome.next.inj h; exact sound.releaseReset
  | supplyQualified => obtain rfl := Host.Outcome.next.inj h; exact sound.qualified
  | restart => obtain rfl := Host.Outcome.next.inj h; exact sound.takeStart 0x5E false
  | factoryClear => obtain rfl := Host.Outcome.next.inj h; exact sound.takeStart 0x5F true
  | status n part =>
    exact next_overrideView sound (transact_overrideView (State.nameStatus_overrideView n) part n s) h
  | command bytes part =>
    exact next_overrideView sound (transact_overrideView (State.nameCommand_overrideView bytes) part _ s) h
  | fetch n part =>
    exact next_overrideView sound (transact_overrideView (State.nameFetch_overrideView n) part n s) h
  | framing cause =>
    cases cause with
    | firstByte b part n =>
      exact next_overrideView sound (ite_overrideView rfl
        (transact_overrideView (State.nameNone_overrideView n) part n s)) h
    | riseMidFrame => exact event_overrideView sound s.riseMidFrame_overrideView h
  | transactionEnd => exact event_overrideView sound s.endTransaction_overrideView h

end Sys2Proof.Machine
end

section
/-! The Override Table through a loss of the backup domain and through a start, and the step (R48, R156, R162 to R164). -/

namespace Sys2Proof.Machine

/-! ### Meaning before and after -/

/-- A step of the time base gives the backup domain no meaning that it did not have. -/
theorem State.Ticks.meaningful {s t : State} (ticks : s.Ticks t) (m : t.meaningful) : s.meaningful :=
  ⟨fun off => m.1 (ticks.supState.trans off), ticks.backupLost.symm.trans m.2⟩

/-- A SET TIME leaves the supervisor (R10). -/
theorem execSetTime_sup {stepDue : Bool} {s t : State} (h : exec (.setTime stepDue) s = .next t) : t.sup = s.sup := by
  obtain rfl := Host.Outcome.next.inj h
  unfold complete
  split
  · rename_i ps _
    beta_reduce
    cases readSetTime ps with
    | error index => rfl
    | ok v => exact congrArg TimeView.sup (State.takeSetTime_timeView v stepDue s)
  · rfl

/-- A row that leaves the retained store where it is gives it no meaning that it did not have. -/
theorem exec_meaningful {c : Instr} {s t : State} (hr : remakesStore c = false) (h : exec c s = .next t)
    (m : t.meaningful) : s.meaningful := by
  cases hw : writesTime c with
  | false => exact (exec_keepsBases hw h).meaningful m
  | true =>
    obtain rfl | rfl | ⟨stepDue, rfl⟩ | ⟨pin, rfl⟩ | supply := writesTime_iff.mp hw
    · rw [← Host.Outcome.next.inj h] at m
      exact s.tick_ticks.meaningful m
    · exact (execYearRollover_ticks h).meaningful m
    · rwa [State.meaningful, execSetTime_sup h] at m
    · cases hr
    · simp [remakesStore, supply] at hr

/-! ### Supply levels (R156) -/

/-- RETENTION's judgement keeps the store of a domain that has its meaning after it. -/
theorem State.OverridesApart.judgeLevels {s : State} (sound : s.OverridesApart) (m : s.judgeLevels.meaningful) :
    s.judgeLevels.OverridesApart := by
  unfold State.judgeLevels at m ⊢
  split
  · rename_i lost
    rw [if_pos lost] at m
    exact absurd rfl m.1
  · exact sound.of_view rfl

/-- Supply levels keep the store of a domain that has its meaning after them. -/
theorem State.OverridesApart.takeLevels {s : State} (sound : s.OverridesApart) {vdd vbat : Nat}
    (m : (s.takeLevels vdd vbat).meaningful) : (s.takeLevels vdd vbat).OverridesApart := by
  unfold State.takeLevels at m ⊢
  cases hs : s.sup.state with
  | running | starting =>
    simp only [hs] at m ⊢
    split
    · rename_i falls
      rw [if_pos falls] at m
      exact State.OverridesApart.judgeLevels (sound.of_noRequests sound.table rfl rfl) m
    · exact sound.of_view rfl
  | retention =>
    simp only [hs] at m ⊢
    exact State.OverridesApart.judgeLevels (sound.of_view rfl) m
  | off =>
    simp only [hs] at m ⊢
    exact sound.of_view (ite_overrideView rfl rfl)

/-! ### Starts (R163, R164) -/

/-- The cold table holds no record. -/
theorem TableApart.cold : TableApart (tabConst 16 .cold) where
  apart i j _ := by
    rw [tabConst_getElem, tabConst_getElem]
    rfl
  nonempty i r live := by
    rw [tabConst_getElem] at live
    cases live

theorem State.coldStart_overridesApart (pin : Bool) (s : State) : (s.coldStart pin).OverridesApart where
  apart := TableApart.cold.apart
  nonempty := TableApart.cold.nonempty
  bindings k b bound := by
    have none : (s.coldStart pin).ret.bindings[k] = none := tabConst_getElem 8 none k
    rw [none] at bound
    cases bound
  waiting k c waits := by
    have none : (s.coldStart pin).mail.keyRequests[k] = [] := tabConst_getElem 8 [] k
    rw [none] at waits
    cases waits

/-- The settlement of the table at a warm start retires records whole (R61). -/
theorem TableApart.settledOverrides {t : Vector OvrSlot 16} (sound : TableApart t) (resume : ResumePolicy)
    (now : RunCount) : TableApart (settledOverrides resume now t) := by
  cases resume <;> exact sound.retiredWhole _ _

/-- A warm start settles the table, withdraws the channels that moved, and drops what waited (R61, R62, R164). -/
theorem State.OverridesApart.warmStart {s : State} (sound : s.OverridesApart) (pin : Bool) :
    (s.warmStart pin).OverridesApart := by
  obtain ⟨v, -, warmed⟩ := s.warmStart_eq pin
  rw [warmed]
  exact sound.of_noRequests ((sound.table.settledOverrides _ _).withdrawn _ .programChanged) rfl rfl

theorem State.OverridesSound.endStarting {s : State} (sound : s.OverridesSound) (pin : Bool) :
    (s.endStarting pin).OverridesSound := by
  unfold State.endStarting
  split
  · rename_i starting
    cases cold : s.startsCold with
    | true => exact fun _ => s.coldStart_overridesApart pin
    | false => exact fun _ =>
        (sound ⟨by simp [starting.1], State.backupLost_of_startsCold cold⟩).warmStart pin
  · exact sound

/-! ### Every row and every step -/

theorem exec_overridesSound {c : Instr} {s t : State} (sound : s.OverridesSound) (h : exec c s = .next t) :
    t.OverridesSound := by
  cases hr : remakesStore c with
  | false => exact fun m => exec_overridesApart hr (sound (exec_meaningful hr h m)) h
  | true =>
    obtain supply | ends := (Bool.or_eq_true ..).mp hr
    · obtain ⟨vdd, vbat, rfl⟩ := exec_supplyLevels supply h
      exact fun m => (sound (State.takeLevels_meaningful m).2).takeLevels m
    · obtain ⟨pin, rfl⟩ := endsStart_iff.mp ends
      rw [← Host.Outcome.next.inj h]
      exact sound.endStarting pin

/-- Settles O8: a step is a row on the queue's rest, which the invariant does not speak of. -/
theorem everyStepKeepsTheOverridesApart : Obligations.EveryStepKeepsTheOverridesApart := by
  intro s t sound h
  unfold step at h
  split at h
  · rwa [← Host.Outcome.next.inj h]
  · rename_i c rest _
    have rested : State.OverridesSound { s with pending := rest } := fun m => (sound m).of_view rfl
    exact exec_overridesSound rested h

end Sys2Proof.Machine
end

section
/-! How a gate takes a sample: the run a sample begins, continues or turns, and what becomes of the gate where the run reaches the
debounce count (R63, R65 to R68). -/

namespace Sys2Proof.Machine

/-! ### Counting -/

/-- The length of the run toward a direction once one more sample has counted that way (R65, R66). -/
def GateWork.run (w : GateWork) (d : Direction) : Nat :=
  if w.direction = .none ∨ w.direction = d then w.counter + 1 else 1

theorem GateWork.run_pos (w : GateWork) (d : Direction) : w.run d ≠ 0 := by
  unfold GateWork.run
  split <;> simp

theorem GateWork.run_continues {w : GateWork} {d : Direction} (h : w.direction = .none ∨ w.direction = d) :
    w.run d = w.counter + 1 := if_pos h

/-- A gate that takes a sample without counting it (R65, R68). -/
def GateWork.uncounted (w : GateWork) (x : Byte) : GateWork :=
  { w with counter := 0, direction := .none, sample := x, sampleValid := true }

/-- A gate whose run has reached the debounce count (R65 to R67). -/
def GateWork.turned (w : GateWork) (st : GateState) (x : Byte) : GateWork := { w.uncounted x with state := st }

/-- A gate whose run goes on (R65, R66). -/
def GateWork.counted (w : GateWork) (d : Direction) (x : Byte) : GateWork :=
  { w with counter := w.run d, direction := d, sample := x, sampleValid := true }

/-- A sample that counts neither way ends the run. -/
theorem takeSample_uncounted {cfg : GateConfig} {w : GateWork} {x : Byte} (h : countsToward cfg w x = .none) :
    takeSample cfg w x = w.uncounted x := by
  simp only [takeSample, count, h]
  rfl

theorem count_counts {cfg : GateConfig} {w : GateWork} {x : Byte} {d : Direction} (h : countsToward cfg w x = d)
    (some : d ≠ .none) : count cfg w x =
      if cfg.debounce.val ≤ w.run d then { w with counter := 0, direction := .none, state := d.goal w.state }
      else { w with counter := w.run d, direction := d } := by
  cases d with
  | none => exact absurd rfl some
  | towardLow | towardHigh =>
    simp only [count, h]
    rfl

/-- A sample that counts makes the run long enough for a change of state, or goes on with it. -/
theorem takeSample_counts {cfg : GateConfig} {w : GateWork} {x : Byte} {d : Direction} (h : countsToward cfg w x = d)
    (some : d ≠ .none) : takeSample cfg w x =
      if cfg.debounce.val ≤ w.run d then w.turned (d.goal w.state) x else w.counted d x := by
  rw [takeSample, count_counts h some]
  split <;> rfl

theorem takeSample_mode (cfg : GateConfig) (w : GateWork) (x : Byte) : (takeSample cfg w x).mode = w.mode := by
  by_cases h : countsToward cfg w x = .none
  · rw [takeSample_uncounted h]
    rfl
  · rw [takeSample_counts rfl h]
    split <;> rfl

/-! ### Which way a sample counts -/

/-- A DISABLED or forced gate counts nothing (R68). -/
theorem countsToward_still {cfg : GateConfig} {w : GateWork} {x : Byte} (h : w.state = .disabled ∨ w.mode ≠ .auto) :
    countsToward cfg w x = .none := by
  unfold countsToward
  cases mode : w.mode with
  | forcedLow | forcedHigh => rfl
  | auto =>
    rw [h.resolve_right (absurd mode)]

theorem countsToward_low {cfg : GateConfig} {w : GateWork} {x : Byte} (auto : w.mode = .auto) (low : w.state = .low) :
    countsToward cfg w x = if cfg.high ≤ x then .towardHigh else .none := by
  simp only [countsToward, auto, low]
  rfl

theorem countsToward_high {cfg : GateConfig} {w : GateWork} {x : Byte} (auto : w.mode = .auto) (high : w.state = .high) :
    countsToward cfg w x = if x ≤ cfg.low then .towardLow else .none := by
  simp only [countsToward, auto, high]
  rfl

theorem countsToward_unknown {cfg : GateConfig} {w : GateWork} {x : Byte} (auto : w.mode = .auto)
    (unknown : w.state = .unknown) :
    countsToward cfg w x = if cfg.high ≤ x then .towardHigh else .towardLow := by
  simp only [countsToward, auto, unknown]
  rfl

/-! ### Runs of a gate that agrees with its enabled choice (R64) -/

theorem Direction.none_or_eq_towardHigh {d : Direction} (h : d ≠ .towardLow) : d = .none ∨ d = .towardHigh := by
  cases d <;> simp_all

theorem Direction.none_or_eq_towardLow {d : Direction} (h : d ≠ .towardHigh) : d = .none ∨ d = .towardLow := by
  cases d <;> simp_all

section Agreeing

variable {w : GateWork} {enabled : Bool} (agrees : w.Agrees enabled)
include agrees

/-- While the gate is LOW every sample that counts goes on with the run. -/
theorem GateWork.Agrees.run_low (low : w.state = .low) : w.run .towardHigh = w.counter + 1 :=
  GateWork.run_continues (Direction.none_or_eq_towardHigh (agrees.whileLow low))

theorem GateWork.Agrees.run_high (high : w.state = .high) : w.run .towardLow = w.counter + 1 :=
  GateWork.run_continues (Direction.none_or_eq_towardLow (agrees.whileHigh high))

/-- A DISABLED or forced gate has its counter at 0 (R68, R70). -/
theorem GateWork.Agrees.counter_still (h : w.state = .disabled ∨ w.mode ≠ .auto) : w.counter = 0 := by
  obtain disabled | forced := h
  · exact agrees.still disabled
  · cases mode : w.mode with
    | auto => exact absurd mode forced
    | forcedLow => exact (agrees.low mode).2
    | forcedHigh => exact (agrees.high mode).2

/-- A DISABLED or forced gate takes the sample and nothing else (R68). -/
theorem GateWork.Agrees.takeSample_still (h : w.state = .disabled ∨ w.mode ≠ .auto) (cfg : GateConfig) (x : Byte) :
    takeSample cfg w x = { w with sample := x, sampleValid := true } := by
  have counter := agrees.counter_still h
  rw [takeSample_uncounted (countsToward_still h), GateWork.uncounted, counter, agrees.direction.mp counter]

end Agreeing

/-! ### What the sample leaves -/

/-- A settled gate takes a sample short of the far threshold (R65). -/
theorem takeSample_stays {cfg : GateConfig} {w : GateWork} {x : Byte} (h : countsToward cfg w x = .none) :
    (takeSample cfg w x).state = w.state ∧ (takeSample cfg w x).counter = 0 ∧ (takeSample cfg w x).direction = .none := by
  rw [takeSample_uncounted h]
  exact ⟨rfl, rfl, rfl⟩

/-- A sample that counts, with the length of the run it makes (R65 to R67). -/
theorem takeSample_countsRun {cfg : GateConfig} {w : GateWork} {x : Byte} {d : Direction} {run : Nat}
    (h : countsToward cfg w x = d) (some : d ≠ .none) (length : w.run d = run) :
    (run < cfg.debounce.val → (takeSample cfg w x).state = w.state ∧ (takeSample cfg w x).counter = run ∧
      (takeSample cfg w x).direction = d) ∧
    (cfg.debounce.val ≤ run → (takeSample cfg w x).state = d.goal w.state ∧ (takeSample cfg w x).counter = 0 ∧
      (takeSample cfg w x).direction = .none) := by
  subst length
  refine ⟨fun short => ?_, fun reached => ?_⟩
  · rw [takeSample_counts h some, if_neg (Nat.not_le.mpr short)]
    exact ⟨rfl, rfl, rfl⟩
  · rw [takeSample_counts h some, if_pos reached]
    exact ⟨rfl, rfl, rfl⟩

end Sys2Proof.Machine
end

section
/-! A round of the converter: each gate whose conversion is complete takes its sample, and each change of state is flagged and
reported once, in gate order (R63, R67, R73). -/

namespace Sys2Proof.Machine

/-- The reports of the gates of a list whose state differs between two states of the part (R67). -/
def changeReports (s t : State) (done : List GateIdx) : List (GateIdx × GateState) :=
  (done.filter fun g => decide (t.gates[g].state ≠ s.gates[g].state)).map fun g => (g, t.gates[g].state)

/-- The part with the gate unit's working state, its flags, and reports handed on after those that wait. -/
def State.withGates (s : State) (gates : Vector GateWork 4) (flags : BitVec 4) (reports : List (GateIdx × GateState)) :
    State :=
  { s with
    gates := gates
    att := { s.att with gate := flags }
    mail := { s.mail with gateReports := s.mail.gateReports ++ reports } }

theorem State.withGates_withGates (s : State) (gates gates' : Vector GateWork 4) (flags flags' : BitVec 4)
    (reports reports' : List (GateIdx × GateState)) :
    (s.withGates gates flags reports).withGates gates' flags' reports' = s.withGates gates' flags' (reports ++ reports') := by
  simp [State.withGates]

/-- What a round leaves once the gates of a list have taken their samples. -/
structure State.Sampled (s t : State) (input : GateIdx → Byte) (done : List GateIdx) : Prop where
  gates : ∀ g : GateIdx, t.gates[g] =
    if g ∈ done then takeSample s.ret.gates[g] s.gates[g] (input g) else s.gates[g]
  flags : ∀ g : GateIdx, t.att.gate.getLsbD g.val =
    (s.att.gate.getLsbD g.val || decide (t.gates[g].state ≠ s.gates[g].state))
  frame : t = s.withGates t.gates t.att.gate (changeReports s t done)

theorem State.Sampled.nil (s : State) (input : GateIdx → Byte) : s.Sampled s input [] where
  gates g := by simp
  flags g := by simp
  frame := by simp [changeReports, State.withGates]

theorem changeReports_append (s t : State) (as bs : List GateIdx) :
    changeReports s t (as ++ bs) = changeReports s t as ++ changeReports s t bs := by
  simp [changeReports]

theorem changeReports_singleton (s t : State) (g : GateIdx) : changeReports s t [g] =
    if t.gates[g].state = s.gates[g].state then [] else [(g, t.gates[g].state)] := by
  by_cases same : t.gates[g].state = s.gates[g].state
  · simp only [changeReports, List.filter_cons, same, ne_eq, not_true_eq_false, decide_false, if_true]
    rfl
  · simp only [changeReports, List.filter_cons, same, ne_eq, not_false_eq_true, decide_true, if_true, if_false]
    rfl

/-- The reports of gates that stand alike are alike. -/
theorem changeReports_congr {s t u : State} {done : List GateIdx} (h : ∀ g ∈ done, t.gates[g] = u.gates[g]) :
    changeReports s t done = changeReports s u done := by
  unfold changeReports
  rw [List.filter_congr fun g mem => by rw [h g mem]]
  exact List.map_congr_left fun g mem => by rw [h g (List.mem_of_mem_filter mem)]

theorem changeReports_of_unchanged {s t : State} {gs : List GateIdx} (h : ∀ g ∈ gs, t.gates[g] = s.gates[g]) :
    changeReports s t gs = [] := by
  rw [changeReports_congr h]
  simp [changeReports]

/-! ### One gate's change -/

theorem gate_twoPow_getLsbD (g j : GateIdx) : (BitVec.twoPow 4 g.val).getLsbD j.val = decide (j = g) := by
  rw [BitVec.getLsbD_twoPow, Bool.eq_iff_iff]
  simp [Fin.ext_iff, eq_comm]

theorem State.changeGate_getElem (g j : GateIdx) (w : GateWork) (s : State) :
    (s.changeGate g w).gates[j] = if j = g then w else s.gates[j] := by
  rw [State.changeGate_eq]
  exact set_getElem s.gates g j w

theorem State.changeGate_ret (g : GateIdx) (w : GateWork) (s : State) : (s.changeGate g w).ret = s.ret := by
  rw [State.changeGate_eq]

/-- The gate's flag is raised where its state changes (R67). -/
theorem State.changeGate_flag (g j : GateIdx) (w : GateWork) (s : State) :
    (s.changeGate g w).att.gate.getLsbD j.val =
      (s.att.gate.getLsbD j.val || decide (j = g ∧ w.state ≠ s.gates[g].state)) := by
  rw [State.changeGate_eq]
  by_cases same : w.state = s.gates[g].state
  · simp only [same, if_true, ne_eq, not_true_eq_false, and_false, decide_false, Bool.or_false]
  · simp only [same, if_false, ne_eq, not_false_eq_true, and_true, BitVec.getLsbD_or, gate_twoPow_getLsbD]

/-- A change of one gate hands on one report where its state changes, and changes nothing else (R67). -/
theorem State.changeGate_frame (g : GateIdx) (w : GateWork) (s : State) : s.changeGate g w =
    s.withGates (s.changeGate g w).gates (s.changeGate g w).att.gate (changeReports s (s.changeGate g w) [g]) := by
  rw [changeReports_singleton, State.changeGate_getElem, if_pos rfl, State.changeGate_eq]
  by_cases same : w.state = s.gates[g].state
  · simp only [same, if_true, State.withGates, List.append_nil]
  · simp only [same, if_false, State.withGates]

/-! ### Gate by gate -/

/-- One more gate takes its sample (R63, R67). -/
theorem State.Sampled.sampleGate {s t : State} {input : GateIdx → Byte} {done : List GateIdx}
    (sampled : s.Sampled t input done) {g : GateIdx} (fresh : g ∉ done) :
    s.Sampled (t.sampleGate g (input g)) input (done ++ [g]) := by
  obtain ⟨gates, flags, frame⟩ := sampled
  have config : t.ret = s.ret := by
    rw [frame]
    rfl
  have before : t.gates[g] = s.gates[g] := by rw [gates, if_neg fresh]
  have taken : t.sampleGate g (input g) = t.changeGate g (takeSample s.ret.gates[g] s.gates[g] (input g)) := by
    rw [State.sampleGate, config, before]
  rw [taken]
  refine ⟨fun j => ?_, fun j => ?_, ?_⟩
  · rw [State.changeGate_getElem]
    by_cases own : j = g
    · subst own
      simp
    · simp [own, gates]
  · rw [State.changeGate_flag, State.changeGate_getElem, flags]
    by_cases own : j = g
    · subst own
      simp [before]
    · simp [own]
  · generalize takeSample s.ret.gates[g] s.gates[g] (input g) = w
    have others : changeReports s (t.changeGate g w) done = changeReports s t done := changeReports_congr fun j mem => by
      rw [State.changeGate_getElem, if_neg (ne_of_mem_of_not_mem mem fresh)]
    have own : changeReports s (t.changeGate g w) [g] = changeReports t (t.changeGate g w) [g] := by
      rw [changeReports_singleton, changeReports_singleton, before]
    rw [changeReports_append, others, own, ← State.withGates_withGates, ← frame]
    exact t.changeGate_frame g w

/-- The gates of a list take their samples one after another. -/
theorem State.Sampled.foldl {s : State} {input : GateIdx → Byte} (l : List GateIdx) :
    ∀ {t : State} {done : List GateIdx}, s.Sampled t input done → (done ++ l).Nodup →
      s.Sampled ((l.map fun g => (g, input g)).foldl (fun s x => s.sampleGate x.1 x.2) t) input (done ++ l) := by
  induction l with
  | nil => exact fun sampled _ => by simpa using sampled
  | cons g l ih =>
    intro t done sampled nodup
    have fresh : g ∉ done := fun mem => (List.disjoint_of_nodup_append nodup mem List.mem_cons_self)
    have next := ih (sampled.sampleGate fresh) (by simpa using nodup)
    simpa using next

/-- The gates whose conversion is complete. -/
theorem mem_take_finRange (n : Fin 5) (g : GateIdx) : g ∈ (List.finRange 4).take n.val ↔ g.val < n.val := by
  revert n g
  decide

theorem State.converterRound_sampled (a0 a1 a2 a3 : Byte) (n : Fin 5) (s : State) :
    s.Sampled (s.converterRound a0 a1 a2 a3 n) (fun g => (#v[a0, a1, a2, a3])[g]) ((List.finRange 4).take n.val) := by
  have round := (State.Sampled.nil s fun g => (#v[a0, a1, a2, a3])[g]).foldl ((List.finRange 4).take n.val)
    ((List.nodup_finRange 4).sublist (List.take_sublist ..))
  rwa [List.map_take] at round

/-- The gates past the interruption keep their state, so a round's reports are those of the gates that changed (R63, R67). -/
theorem State.Sampled.reports {s t : State} {input : GateIdx → Byte} {n : Nat}
    (sampled : s.Sampled t input ((List.finRange 4).take n)) :
    changeReports s t ((List.finRange 4).take n) = changeReports s t (List.finRange 4) := by
  have rest : changeReports s t ((List.finRange 4).drop n) = [] := changeReports_of_unchanged fun g mem => by
    rw [sampled.gates, if_neg fun mem' => (List.disjoint_take_drop (List.nodup_finRange 4) le_rfl mem' mem)]
  calc changeReports s t ((List.finRange 4).take n)
    _ = changeReports s t ((List.finRange 4).take n) ++ changeReports s t ((List.finRange 4).drop n) := by simp [rest]
    _ = changeReports s t (List.finRange 4) := by rw [← changeReports_append, List.take_append_drop]

/-- Settles O35, sample by sample and then round by round. -/
theorem converterRoundsAreCountedWithHysteresis : Obligations.ConverterRoundsAreCountedWithHysteresis := by
  refine ⟨fun cfg w x agrees _ => ⟨rfl, rfl, takeSample_mode cfg w x, fun still => agrees.takeSample_still still cfg x,
    fun auto low => ⟨fun short => ?_, fun far => ?_⟩, fun auto high => ⟨fun short => ?_, fun far => ?_⟩,
    fun auto unknown => ?_⟩, fun s a0 a1 a2 a3 n running => ?_⟩
  · rw [← low]
    exact takeSample_stays ((countsToward_low auto low).trans (if_neg (BitVec.not_le.mpr short)))
  · have counts := takeSample_countsRun ((countsToward_low auto low).trans (if_pos far)) (by simp) (agrees.run_low low)
    rwa [low] at counts
  · rw [← high]
    exact takeSample_stays ((countsToward_high auto high).trans (if_neg (BitVec.not_le.mpr short)))
  · have counts := takeSample_countsRun ((countsToward_high auto high).trans (if_pos far)) (by simp) (agrees.run_high high)
    rwa [high] at counts
  · have counts := takeSample_countsRun (countsToward_unknown (cfg := cfg) (x := x) auto unknown) (by split <;> simp) rfl
    rw [unknown] at counts
    by_cases far : cfg.high ≤ x
    · simp only [far, if_true] at counts ⊢
      exact counts
    · simp only [far, if_false] at counts ⊢
      exact counts
  · have round := s.converterRound_sampled a0 a1 a2 a3 n
    refine ⟨_, next_whileRunning running rfl, fun g => ?_, round.flags, ?_⟩
    · rw [round.gates]
      exact if_congr (mem_take_finRange n g) rfl rfl
    · have frame := round.frame
      rwa [round.reports] at frame

end Sys2Proof.Machine
end

section
/-! CONFIGURE GATE and SET GATE MODE act on one gate (R67, R69, R70). -/

namespace Sys2Proof.Machine

/-- CONFIGURE GATE replaces the configuration, and the working state by the enabled choice before and after (R69). -/
theorem State.configureGate_eq (g : GateIdx) (cfg : GateConfig) (s : State) :
    let ret := { s.ret with gates := s.ret.gates.set g cfg }
    let new := s.gates[g].configure s.ret.gates[g].enabled cfg.enabled
    s.configureGate g cfg = { s with
      ret := ret
      check := ⟨ret⟩
      gates := s.gates.set g new
      att := { s.att with gate :=
        if new.state = s.gates[g].state then s.att.gate else s.att.gate ||| BitVec.twoPow 4 g.val }
      mail := { s.mail with gateReports :=
        if new.state = s.gates[g].state then s.mail.gateReports else s.mail.gateReports ++ [(g, new.state)] } } :=
  State.changeGate_eq ..

section Forcing

variable {s : State} {ps : List Byte} {g : GateIdx} {m : GateMode} (read : readGateMode ps = .ok (g, m))
include read

/-- A DISABLED gate is not forced (R70). -/
theorem ownSetGateMode_disabled (disabled : s.gates[g].state = .disabled) :
    ownSetGateMode ps s = refuse s .notPermitted := (checked_ok read s _).trans (if_pos disabled)

theorem ownSetGateMode_enabled (enabled : s.gates[g].state ≠ .disabled) :
    ownSetGateMode ps s = answerOk (s.setGateMode g m) [] := (checked_ok read s _).trans (if_neg enabled)

end Forcing

/-- Settles O36, by the enabled choice before and after, and by the mode carried. -/
theorem gateCommandsActOnTheGate : Obligations.GateCommandsActOnTheGate := by
  refine ⟨fun s ps g cfg holds read => next_complete holds ?_, fun s ps g m holds read =>
    ⟨fun disabled => next_complete holds ?_, fun enabled => next_complete holds ?_⟩⟩
  · rw [checked_ok read]
    change (s.configureGate g cfg).answered 0x40 .ok [] = _
    rw [State.configureGate_eq]
    cases s.ret.gates[g].enabled with
    | false => cases cfg.enabled <;> rfl
    | true => cases cfg.enabled <;> rfl
  · rw [ownSetGateMode_disabled read disabled]
    rfl
  · rw [ownSetGateMode_enabled read enabled]
    change (s.setGateMode g m).answered 0x41 .ok [] = _
    rw [State.setGateMode, State.changeGate_eq]
    cases m with
    | forcedLow | forcedHigh | auto => rfl

end Sys2Proof.Machine
end

section
/-! Operations that leave a view of the state: the shapes of the rows, for every view, and the gate view, which the blocks beside
the gate unit and the supervisor leave as it is. -/

namespace Sys2Proof.Machine

/-! ### Shapes of operations, for any view -/

section Views

variable {β : Type} {view : State → β}

theorem ite_keepsView {p : Prop} [Decidable p] {a b s : State} (ha : view a = view s) (hb : view b = view s) :
    view (if p then a else b) = view s := by
  split <;> assumption

theorem foldl_keepsView {α : Type} {f : State → α → State} (hf : ∀ s a, view (f s a) = view s) (l : List α) (s : State) :
    view (l.foldl f s) = view s :=
  List.foldlRecOn l f (motive := fun t => view t = view s) rfl fun t kept a _ => (hf t a).trans kept

theorem whileRunning_keepsView {f : State → State} {s : State} (hf : view (f s) = view s) :
    view (whileRunning f s) = view s := ite_keepsView hf rfl

theorem Answer.ite_keepsView {p : Prop} [Decidable p] {a b : Answer} {s : State} (ha : view a.state = view s)
    (hb : view b.state = view s) : view (if p then a else b).state = view s := by
  split <;> assumption

theorem State.onProgram_keepsView {s : State} {f : ProgRec → Answer} (n : Name 96) (hf : ∀ r, view (f r).state = view s) :
    view (s.onProgram n f).state = view s := by
  unfold State.onProgram
  cases s.namedProgram n with
  | stale | free => rfl
  | live r => exact hf r

theorem State.onOverride_keepsView {s : State} {f : OvrRec → Answer} (n : Name 16) (hf : ∀ r, view (f r).state = view s) :
    view (s.onOverride n f).state = view s := by
  unfold State.onOverride
  cases s.namedOverride n with
  | stale | free => rfl
  | live r => exact hf r

/-- A row leaves what its meaning leaves. -/
theorem next_keepsView {s t u : State} (kept : view u = view s)
    (h : (Host.Outcome.next u : Host.Outcome State Fault Refusal) = .next t) : view t = view s := by
  rwa [← Host.Outcome.next.inj h]

theorem event_keepsView {f : State → State} {s t : State} (kept : view (f s) = view s)
    (h : (Host.Outcome.next (whileRunning f s) : Host.Outcome State Fault Refusal) = .next t) : view t = view s :=
  next_keepsView (whileRunning_keepsView kept) h

end Views

/-! ### The gate view -/

/-- The gates, their configuration, and the state of the supervisor. -/
structure GateView where
  gates : Vector GateWork 4
  config : Vector GateConfig 4
  sup : SupState

/-- The gate view of a state. -/
def State.gateView (s : State) : GateView := ⟨s.gates, s.ret.gates, s.sup.state⟩

/-- The sequencer and the output stage leave the gate view. -/
theorem State.gateView_of_besideSwitching {s t : State} (h : t.besideSwitching = s.besideSwitching) :
    t.gateView = s.gateView :=
  calc t.gateView
    _ = t.besideSwitching.gateView := rfl
    _ = s.besideSwitching.gateView := by rw [h]
    _ = s.gateView := rfl

/-! ### Time -/

theorem State.tick_gateView (s : State) : s.tick.gateView = s.gateView := by
  by_cases off : s.sup.state = .off
  · rw [State.tick_off off]
  cases replaced : s.stepReplaced with
  | true =>
    rw [State.tick_replaced off replaced]
    rfl
  | false =>
    by_cases last : s.cal = .last
    · rw [State.tick_rollover off replaced last]
      rfl
    · rw [State.tick_inside off replaced last]
      rfl

/-! ### The Program Table -/

theorem State.setPrograms_gateView (t : Vector ProgSlot 96) (s : State) : (s.setPrograms t).gateView = s.gateView := by
  rw [State.setPrograms_eq]
  rfl

theorem State.evaluateTable_gateView (p : Present) (s : State) : (s.evaluateTable p).gateView = s.gateView := by
  rw [State.evaluateTable_eq]
  rfl

theorem State.takeOldestBoundary_gateView (s : State) : s.takeOldestBoundary.gateView = s.gateView := by
  unfold State.takeOldestBoundary
  split
  · rfl
  · exact State.evaluateTable_gateView ..

theorem State.takeBoundaries_gateView (s : State) : s.takeBoundaries.gateView = s.gateView :=
  foldl_keepsView (fun _ _ => State.evaluateTable_gateView ..) _ _

theorem State.takeSetTime_gateView (v : TimeValue) (stepDue : Bool) (s : State) :
    (s.takeSetTime v stepDue).gateView = s.gateView :=
  (State.evaluateTable_gateView ..).trans s.takeBoundaries_gateView

theorem State.takeOldestGateReport_gateView (s : State) : s.takeOldestGateReport.gateView = s.gateView := by
  unfold State.takeOldestGateReport
  split
  · rfl
  · exact State.setPrograms_gateView ..

/-- One slot replaced with its epoch step, as the commands on one record do it (R30 to R33). -/
theorem State.replaceProgram_gateView (i : ProgIdx) (x : ProgSlot) (s : State) :
    ((s.setProgram i x).advanceEpoch 1).gateView = s.gateView := by
  rw [State.replaceProgram_eq]
  rfl

theorem State.enableProgram_gateView (i : ProgIdx) (r : ProgRec) (s : State) :
    (s.enableProgram i r).gateView = s.gateView := ite_keepsView (State.replaceProgram_gateView ..) rfl

theorem State.disableProgram_gateView (i : ProgIdx) (r : ProgRec) (s : State) :
    (s.disableProgram i r).gateView = s.gateView := ite_keepsView rfl (State.replaceProgram_gateView ..)

/-! ### The Override Table -/

theorem State.endOverrides_gateView (t : Vector OvrSlot 16) (s : State) : (s.endOverrides t).gateView = s.gateView := by
  rw [State.endOverrides_eq]
  rfl

theorem State.expireOverride_gateView (i : OvrIdx) (s : State) : (s.expireOverride i).gateView = s.gateView := by
  unfold State.expireOverride
  split
  · exact ite_keepsView (State.endOverrides_gateView ..) rfl
  · rfl

theorem State.createOverride_gateView (c : Creation) (s : State) : (s.createOverride c).gateView = s.gateView := by
  unfold State.createOverride
  rw [State.supersede, State.settleOverrides_eq]
  dsimp only
  split
  · rw [State.request_eq]
    rfl
  · rfl

theorem State.takeOldestVerdicts_gateView (s : State) : s.takeOldestVerdicts.gateView = s.gateView := by
  unfold State.takeOldestVerdicts
  split
  · rfl
  · exact State.endOverrides_gateView ..

theorem State.takeOldestCreation_gateView (k : KeyIdx) (s : State) : (s.takeOldestCreation k).gateView = s.gateView := by
  unfold State.takeOldestCreation
  split
  · exact State.createOverride_gateView ..
  all_goals rfl

theorem State.takeOldestRelease_gateView (k : KeyIdx) (s : State) : (s.takeOldestRelease k).gateView = s.gateView := by
  unfold State.takeOldestRelease
  split
  · exact State.endOverrides_gateView ..
  all_goals rfl

/-! ### The resolver -/

theorem State.resolve_gateView (sc : Scope) (s : State) : (s.resolve sc).gateView = s.gateView := by
  rw [State.resolve_eq]
  rfl

theorem State.takeRequestAt_gateView (place : Nat) (s : State) : (s.takeRequestAt place).gateView = s.gateView := by
  unfold State.takeRequestAt
  split
  · rfl
  · exact State.resolve_gateView ..

theorem State.takeLevelsAt_gateView (place : Nat) (s : State) : (s.takeLevelsAt place).gateView = s.gateView := by
  unfold State.takeLevelsAt
  split
  · rfl
  · exact State.resolve_gateView ..

theorem State.configureChannel_gateView (ch : Chan) (kind : ChanKind) (group : Option Group) (cls : QueueClass)
    (s : State) : (s.configureChannel ch kind group cls).gateView = s.gateView :=
  ite_keepsView rfl (State.resolve_gateView ..)

theorem State.setFallback_gateView (ch : Chan) (l : Level) (s : State) : (s.setFallback ch l).gateView = s.gateView :=
  State.resolve_gateView ..

/-! ### The sequencer's rows -/

theorem State.takeOldestHandOff_gateView (s : State) : s.takeOldestHandOff.gateView = s.gateView := by
  unfold State.takeOldestHandOff
  split
  · rfl
  · exact (State.gateView_of_besideSwitching (State.takeHandOff_besideSwitching ..)).trans rfl

/-- An event of the sequencer leaves the gate view where its own change does. -/
theorem sequencerEvent_gateView {f : State → State} {s : State} (hf : (f s).besideSwitching = s.besideSwitching) :
    (sequencerEvent f s).gateView = s.gateView :=
  State.gateView_of_besideSwitching ((sequencerEvent_besideSwitching f s).trans hf)

theorem State.takePin_gateView (asserted : Bool) (s : State) : (s.takePin asserted).gateView = s.gateView :=
  (State.gateView_of_besideSwitching (State.takePin_besideSwitching asserted s)).trans rfl

theorem State.setLatch_gateView (b : Bool) (s : State) : (s.setLatch b).gateView = s.gateView :=
  (State.gateView_of_besideSwitching (State.setLatch_besideSwitching b s)).trans rfl

theorem State.setStagger_gateView (interval : Byte) (s : State) : (s.setStagger interval).gateView = s.gateView :=
  (State.gateView_of_besideSwitching (State.setStagger_besideSwitching ..)).trans rfl

theorem State.configureGroup_gateView (g : Group) (gap : Byte) (s : State) :
    (s.configureGroup g gap).gateView = s.gateView :=
  (State.gateView_of_besideSwitching (State.configureGroup_besideSwitching ..)).trans rfl

theorem State.setChannelTiming_gateView (ch : Chan) (minOn minOff : Byte) (ramp : Fin 16) (retry : Fin 4) (s : State) :
    (s.setChannelTiming ch minOn minOff ramp retry).gateView = s.gateView :=
  (State.gateView_of_besideSwitching (State.setChannelTiming_besideSwitching ..)).trans rfl

/-! ### The key panel -/

theorem State.shortAction_gateView (k : KeyIdx) (s : State) : (s.shortAction k).gateView = s.gateView := by
  unfold State.shortAction
  split <;> rfl

theorem State.longAction_gateView (k : KeyIdx) (s : State) : (s.longAction k).gateView = s.gateView := by
  unfold State.longAction
  split <;> rfl

theorem State.recognisePress_gateView (k : KeyIdx) (s : State) : (s.recognisePress k).gateView = s.gateView := by
  unfold State.recognisePress
  cases s.keys[k].state with
  | idle => exact ite_keepsView rfl rfl
  | pressed _ | long => rfl

theorem State.recogniseRelease_gateView (k : KeyIdx) (s : State) : (s.recogniseRelease k).gateView = s.gateView := by
  unfold State.recogniseRelease
  cases s.keys[k].state with
  | pressed _ => exact State.shortAction_gateView k s
  | idle | long => rfl

theorem State.sampleKey_gateView (k : KeyIdx) (reading : Bool) (s : State) :
    (s.sampleKey k reading).gateView = s.gateView :=
  ite_keepsView (view := State.gateView)
    (ite_keepsView (view := State.gateView) (State.recognisePress_gateView ..) (State.recogniseRelease_gateView ..)) rfl

theorem State.keySample_gateView (pressed : BitVec 8) (s : State) : (s.keySample pressed).gateView = s.gateView :=
  foldl_keepsView (fun _ _ => State.sampleKey_gateView ..) _ s

theorem State.holdExpiry_gateView (k : KeyIdx) (s : State) : (s.holdExpiry k).gateView = s.gateView :=
  ite_keepsView (view := State.gateView) (State.longAction_gateView k s) rfl

theorem State.setPanelLock_gateView (locked : Bool) (s : State) : (s.setPanelLock locked).gateView = s.gateView :=
  ite_keepsView rfl rfl

/-! ### The host link -/

theorem State.endTransaction_gateView (s : State) : s.endTransaction.gateView = s.gateView := by
  rw [State.endTransaction_frame]
  rfl

theorem State.riseMidFrame_gateView (s : State) : s.riseMidFrame.gateView = s.gateView := by
  unfold State.riseMidFrame
  cases s.link.state with
  | receiving _ => exact s.endTransaction_gateView
  | idle | executing _ | ready _ => rfl

theorem State.nameTransaction_gateView {act : State → State} (hf : ∀ s, (act s).gateView = s.gateView) (n : Nat)
    (s : State) : (s.nameTransaction n act).gateView = s.gateView := by
  unfold State.nameTransaction
  split
  · exact ite_keepsView rfl (hf s)
  · rfl

theorem transact_gateView {act : State → State} (hf : ∀ s, (act s).gateView = s.gateView) (part : FirstByte) (n : Nat)
    (s : State) : (transact part n act s).gateView = s.gateView := by
  refine ite_keepsView ?_ ?_
  · cases part with
    | whole => exact (State.nameTransaction_gateView hf n _).trans s.endTransaction_gateView
    | begins => exact s.endTransaction_gateView
    | taken => exact State.nameTransaction_gateView hf n s
  · cases part <;> rfl

theorem State.receive_gateView (bytes : List Byte) (s : State) : (s.receive bytes).gateView = s.gateView := by
  unfold State.receive
  split
  · rfl
  · rfl
  · refine ite_keepsView rfl ?_
    split
    · rfl
    · exact ite_keepsView rfl (ite_keepsView rfl rfl)

theorem State.nameCommand_gateView (bytes : List Byte) (s : State) : (s.nameCommand bytes).gateView = s.gateView := by
  unfold State.nameCommand
  dsimp only
  split
  · exact State.receive_gateView ..
  all_goals rfl

end Sys2Proof.Machine
end

section
/-! Every row but the gate unit's own and the supervisor's leaves the gate view. -/

namespace Sys2Proof.Machine

/-- The rows at which the gate unit changes a gate (R63, R69, R70). -/
def changesGates : Instr → Bool
  | .converterRound _ _ _ _ _ | .configureGate | .setGateMode => true
  | _ => false

/-! ### Host commands -/

theorem completion_gateView {code : Byte} {owner : List Byte → State → Answer} {s t : State}
    (kept : ∀ ps s, (owner ps s).state.gateView = s.gateView)
    (h : (Host.Outcome.next (complete code owner s) : Host.Outcome State Fault Refusal) = .next t) :
    t.gateView = s.gateView := by
  obtain rfl := Host.Outcome.next.inj h
  unfold complete
  split
  · exact kept _ s
  · rfl

theorem checked_gateView {α : Type} {read : Except Nat α} {s : State} {f : α → Answer}
    (kept : ∀ a, (f a).state.gateView = s.gateView) : (checked read s f).state.gateView = s.gateView := by
  cases read with
  | ok a => exact kept a
  | error index => rfl

theorem ownCreateProgram_gateView (ps : List Byte) (s : State) : (ownCreateProgram ps s).state.gateView = s.gateView := by
  refine checked_gateView fun ⟨disabled, d⟩ => Answer.ite_keepsView rfl ?_
  split
  · rfl
  · exact State.replaceProgram_gateView ..

theorem ownEditProgram_gateView (ps : List Byte) (s : State) : (ownEditProgram ps s).state.gateView = s.gateView :=
  checked_gateView fun _ => State.onProgram_keepsView _ fun _ =>
    Answer.ite_keepsView rfl (State.replaceProgram_gateView ..)

theorem ownReadProgram_gateView (ps : List Byte) (s : State) : (ownReadProgram ps s).state.gateView = s.gateView := by
  refine checked_gateView fun n => ?_
  cases s.namedProgram n <;> rfl

theorem ownListPrograms_gateView (ps : List Byte) (s : State) : (ownListPrograms ps s).state.gateView = s.gateView := by
  refine checked_gateView fun ⟨cursor, epoch⟩ => ?_
  dsimp only
  split <;> rfl

theorem ownExtendOverride_gateView (ps : List Byte) (s : State) : (ownExtendOverride ps s).state.gateView = s.gateView := by
  refine checked_gateView fun _ => State.onOverride_keepsView _ fun r => ?_
  cases r.kind <;> rfl

theorem ownReadOverrides_gateView (ps : List Byte) (s : State) : (ownReadOverrides ps s).state.gateView = s.gateView := by
  refine checked_gateView fun q => ?_
  cases q with
  | page first => rfl
  | single n =>
    dsimp only
    cases s.namedOverride n <;> rfl

/-! ### The rows -/

theorem exec_gateView {c : Instr} {s t : State} (hg : changesGates c = false) (hm : movesSupervisor c = false)
    (hr : remakesStore c = false) (h : exec c s = .next t) : t.gateView = s.gateView := by
  have switching {u v : State} (beside : u.besideSwitching = v.besideSwitching) : u.gateView = v.gateView :=
    State.gateView_of_besideSwitching beside
  cases c with
  | converterRound _ _ _ _ _ | configureGate | setGateMode => cases hg
  | rstAssert | rstRelease | supplyQualified | restart | factoryClear => simp [movesSupervisor] at hm
  | startingEnd _ | vddFall _ | vddRise _ | backupSupplyFall _ | backupDomainLoss _ _ | backupDomainPowerUp _ _
  | vddBelowQualificationThreshold _ => simp [remakesStore, endsStart, bringsSupplyLevels] at hr
  | readTime | setResumePolicy | readGates | readChannel | explainChannel | readQueue | bindKey | readKeyBinding
  | setAttentionMask | readAttention => exact completion_gateView (fun _ _ => checked_gateView fun _ => rfl) h
  | calendarAdvance => exact next_keepsView s.tick_gateView h
  | yearRollover =>
    exact next_keepsView (ite_keepsView
      ((whileRunning_keepsView s.tick.takeBoundaries_gateView).trans s.tick_gateView) rfl) h
  | setTime stepDue =>
    exact completion_gateView (fun _ _ => checked_gateView fun _ => State.takeSetTime_gateView ..) h
  | minuteBoundary => exact event_keepsView s.takeOldestBoundary_gateView h
  | createProgram => exact completion_gateView ownCreateProgram_gateView h
  | editProgram => exact completion_gateView ownEditProgram_gateView h
  | readProgram => exact completion_gateView ownReadProgram_gateView h
  | enableProgram =>
    exact completion_gateView (fun _ _ => checked_gateView fun _ => State.onProgram_keepsView _ fun _ =>
      State.enableProgram_gateView ..) h
  | disableProgram =>
    exact completion_gateView (fun _ _ => checked_gateView fun _ => State.onProgram_keepsView _ fun _ =>
      State.disableProgram_gateView ..) h
  | deleteProgram =>
    exact completion_gateView (fun _ _ => checked_gateView fun _ => State.onProgram_keepsView _ fun _ =>
      State.replaceProgram_gateView ..) h
  | listPrograms => exact completion_gateView ownListPrograms_gateView h
  | reResolutionRequest place => exact event_keepsView (s.takeRequestAt_gateView place) h
  | verdictReport => exact event_keepsView s.takeOldestVerdicts_gateView h
  | gateChangeReport => exact event_keepsView s.takeOldestGateReport_gateView h
  | createOverride =>
    exact completion_gateView (fun _ _ => checked_gateView fun _ => State.createOverride_gateView ..) h
  | creationRequest k => exact event_keepsView (s.takeOldestCreation_gateView k) h
  | extendOverride => exact completion_gateView ownExtendOverride_gateView h
  | cancelOverride =>
    exact completion_gateView (fun _ _ => checked_gateView fun _ => State.onOverride_keepsView _ fun _ =>
      State.endOverrides_gateView ..) h
  | releaseChannels =>
    exact completion_gateView (fun _ _ => checked_gateView fun _ => State.endOverrides_gateView ..) h
  | release k => exact event_keepsView (s.takeOldestRelease_gateView k) h
  | overrideExpiry i => exact event_keepsView (s.expireOverride_gateView i) h
  | readOverrides => exact completion_gateView ownReadOverrides_gateView h
  | configureChannel =>
    exact completion_gateView (fun _ _ => checked_gateView fun _ =>
      Answer.ite_keepsView (State.configureChannel_gateView ..) rfl) h
  | setChannelTiming =>
    exact completion_gateView (fun _ _ => checked_gateView fun _ =>
      Answer.ite_keepsView rfl (State.setChannelTiming_gateView ..)) h
  | setFallback => exact completion_gateView (fun _ _ => checked_gateView fun _ => State.setFallback_gateView ..) h
  | configureGroup => exact completion_gateView (fun _ _ => checked_gateView fun _ => State.configureGroup_gateView ..) h
  | appliedLevelReport place => exact event_keepsView (s.takeLevelsAt_gateView place) h
  | handOff => exact event_keepsView s.takeOldestHandOff_gateView h
  | staggerExpiry => exact event_keepsView (switching s.staggerExpiry_besideSwitching) h
  | minOnExpiry ch => exact event_keepsView (sequencerEvent_gateView (s.endMinOn_besideSwitching ch)) h
  | minOffExpiry ch => exact event_keepsView (sequencerEvent_gateView (s.endMinOff_besideSwitching ch)) h
  | changeoverGapExpiry g => exact event_keepsView (sequencerEvent_gateView (s.endGap_besideSwitching g)) h
  | rampTimerExpiry ch => exact event_keepsView (sequencerEvent_gateView (s.endRampStep_besideSwitching ch)) h
  | longPastMark t => exact event_keepsView (switching (s.markLongPast_besideSwitching t)) h
  | allOffPinChange asserted => exact event_keepsView (s.takePin_gateView asserted) h
  | forceAllOff | releaseAllOff =>
    exact completion_gateView (fun _ _ => checked_gateView fun _ => State.setLatch_gateView ..) h
  | setStagger => exact completion_gateView (fun _ _ => checked_gateView fun _ => State.setStagger_gateView ..) h
  | overcurrentReport ch => exact event_keepsView (switching (s.takeOvercurrent_besideSwitching ch)) h
  | retryTimerExpiry ch => exact event_keepsView (switching (s.retryExpiry_besideSwitching ch)) h
  | cleanRunExpiry ch => exact event_keepsView (switching (s.cleanExpiry_besideSwitching ch)) h
  | clearFault =>
    exact completion_gateView (fun _ _ => checked_gateView fun _ => switching (State.clearFault_besideSwitching ..)) h
  | keySample pressed => exact event_keepsView (s.keySample_gateView pressed) h
  | holdTimerExpiry k => exact event_keepsView (s.holdExpiry_gateView k) h
  | setPanelLock => exact completion_gateView (fun _ _ => checked_gateView fun _ => State.setPanelLock_gateView ..) h
  | status n part => exact next_keepsView (transact_gateView (act := State.nameStatus n) (fun _ => rfl) part n s) h
  | command bytes part => exact next_keepsView (transact_gateView (State.nameCommand_gateView bytes) part _ s) h
  | fetch n part => exact next_keepsView (transact_gateView (act := State.nameFetch n) (fun _ => rfl) part n s) h
  | framing cause =>
    cases cause with
    | firstByte b part n =>
      exact next_keepsView (ite_keepsView (view := State.gateView) rfl
        (transact_gateView (act := State.nameNone n) (fun _ => rfl) part n s)) h
    | riseMidFrame => exact event_keepsView s.riseMidFrame_gateView h
  | transactionEnd => exact event_keepsView s.endTransaction_gateView h

end Sys2Proof.Machine
end

section
/-! Every step keeps the gates' working state in agreement with their enabled choices (R64, R68, R70): the gate unit's own
operations, the starts, and the rows beside them. -/

namespace Sys2Proof.Machine

/-! ### One gate -/

/-- A gate that counts nothing agrees where its state and mode do. -/
theorem GateWork.Agrees.of_still {w : GateWork} {enabled : Bool} (counter : w.counter = 0) (direction : w.direction = .none)
    (disabled : w.state = .disabled ↔ enabled = false) (auto : w.state = .disabled → w.mode = .auto)
    (low : w.mode = .forcedLow → w.state = .low) (high : w.mode = .forcedHigh → w.state = .high) : w.Agrees enabled where
  disabled := disabled
  auto := auto
  direction := by simp [counter, direction]
  low mode := ⟨low mode, counter⟩
  high mode := ⟨high mode, counter⟩
  whileLow _ := by simp [direction]
  whileHigh _ := by simp [direction]
  still _ := counter

/-- A gate in AUTO that counts nothing agrees where it is DISABLED exactly while not enabled. -/
theorem GateWork.Agrees.of_auto {w : GateWork} {enabled : Bool} (auto : w.mode = .auto) (counter : w.counter = 0)
    (direction : w.direction = .none) (disabled : w.state = .disabled ↔ enabled = false) : w.Agrees enabled :=
  .of_still counter direction disabled (fun _ => auto) (fun forced => by simp [auto] at forced)
    fun forced => by simp [auto] at forced

theorem GateWork.cold_agrees : GateWork.cold.Agrees false := .of_auto rfl rfl rfl (by simp [GateWork.cold])

/-- A warm start's working state agrees with the enabled choice it is made from (R75). -/
theorem GateWork.warm_agrees (enabled : Bool) : (GateWork.warm enabled).Agrees enabled :=
  .of_auto rfl rfl rfl (by cases enabled <;> simp [GateWork.warm])

/-- A run ends in LOW or HIGH (R65, R66). -/
theorem Direction.goal_ne_disabled {d : Direction} (some : d ≠ .none) (st : GateState) : d.goal st ≠ .disabled := by
  cases d with
  | none => exact absurd rfl some
  | towardLow | towardHigh => simp [Direction.goal]

/-- A gate that counts a sample is in AUTO and not DISABLED (R68). -/
theorem auto_of_countsToward {cfg : GateConfig} {w : GateWork} {x : Byte} (counts : countsToward cfg w x ≠ .none) :
    w.mode = .auto ∧ w.state ≠ .disabled :=
  ⟨by_contra fun forced => counts (countsToward_still (.inr forced)),
    fun disabled => counts (countsToward_still (.inl disabled))⟩

section Agreeing

variable {w : GateWork} {enabled : Bool} (agrees : w.Agrees enabled)
include agrees

/-- A gate whose run is given up agrees as before. -/
theorem GateWork.Agrees.stilled : GateWork.Agrees { w with counter := 0, direction := .none } enabled :=
  .of_still rfl rfl agrees.disabled agrees.auto (fun mode => (agrees.low mode).1) fun mode => (agrees.high mode).1

/-- The last sample is no part of the agreement. -/
theorem GateWork.Agrees.sampled (x : Byte) : GateWork.Agrees { w with sample := x, sampleValid := true } enabled :=
  ⟨agrees.disabled, agrees.auto, agrees.direction, agrees.low, agrees.high, agrees.whileLow, agrees.whileHigh, agrees.still⟩

theorem GateWork.Agrees.configure (after : Bool) : (w.configure enabled after).Agrees after := by
  cases enabled with
  | false => cases after with
    | false => exact agrees.stilled
    | true => exact .of_auto rfl rfl rfl (by simp [GateWork.configure])
  | true => cases after with
    | false => exact .of_auto rfl rfl rfl (by simp [GateWork.configure])
    | true => exact agrees.stilled

/-- An enabled gate that is forced, or returned to AUTO, agrees (R70). -/
theorem GateWork.Agrees.force (on : w.state ≠ .disabled) (m : GateMode) : (w.force m).Agrees enabled := by
  have chosen : enabled ≠ false := fun off => on (agrees.disabled.mpr off)
  cases m with
  | forcedLow | forcedHigh => refine .of_still rfl rfl ?_ ?_ ?_ ?_ <;> simp [GateWork.force, chosen]
  | auto =>
    by_cases already : w.mode = .auto
    · rwa [GateWork.force, if_pos already]
    · rw [GateWork.force, if_neg already]
      exact .of_auto rfl rfl rfl agrees.disabled

/-- A sample leaves the gate in agreement, whether it ends the run, turns the gate, or goes on with the run (R65 to R68). -/
theorem GateWork.Agrees.takeSample (cfg : GateConfig) (x : Byte) : (takeSample cfg w x).Agrees enabled := by
  by_cases none : countsToward cfg w x = .none
  · rw [takeSample_uncounted none]
    exact agrees.stilled.sampled x
  obtain ⟨auto, on⟩ := auto_of_countsToward none
  have chosen : enabled ≠ false := fun off => on (agrees.disabled.mpr off)
  rw [takeSample_counts rfl none]
  split
  · exact .of_auto auto rfl rfl (iff_of_false (Direction.goal_ne_disabled none _) chosen)
  · exact {
      disabled := agrees.disabled
      auto := agrees.auto
      direction := iff_of_false (w.run_pos _) none
      low := fun forced => by simp [GateWork.counted, auto] at forced
      high := fun forced => by simp [GateWork.counted, auto] at forced
      whileLow := fun low => by
        change countsToward cfg w x ≠ .towardLow
        rw [countsToward_low auto low]
        split <;> simp
      whileHigh := fun high => by
        change countsToward cfg w x ≠ .towardHigh
        rw [countsToward_high auto high]
        split <;> simp
      still := (absurd · on) }

end Agreeing

/-! ### The gate unit's operations -/

/-- Every gate agrees with its enabled choice. -/
def State.GatesAgree (s : State) : Prop := ∀ g : GateIdx, s.gates[g].Agrees s.ret.gates[g].enabled

theorem State.GatesAgree.of_view {s t : State} (agree : s.GatesAgree) (view : t.gateView = s.gateView) : t.GatesAgree := by
  obtain ⟨gates, config, -⟩ := GateView.mk.inj view
  intro g
  rw [gates, config]
  exact agree g

/-- A change of one gate keeps the others as they are. -/
theorem State.changeGate_gatesAgree {s : State} {g : GateIdx} {w : GateWork} (own : w.Agrees s.ret.gates[g].enabled)
    (others : ∀ j, j ≠ g → s.gates[j].Agrees s.ret.gates[j].enabled) : (s.changeGate g w).GatesAgree := by
  intro j
  rw [State.changeGate_getElem, State.changeGate_ret]
  split
  · rename_i e
    rwa [e]
  · exact others j ‹_›

theorem State.GatesAgree.changeGate {s : State} (agree : s.GatesAgree) {g : GateIdx} {w : GateWork}
    (own : w.Agrees s.ret.gates[g].enabled) : (s.changeGate g w).GatesAgree :=
  State.changeGate_gatesAgree own fun j _ => agree j

theorem State.GatesAgree.converterRound {s : State} (agree : s.GatesAgree) (a0 a1 a2 a3 : Byte) (n : Fin 5) :
    (s.converterRound a0 a1 a2 a3 n).GatesAgree :=
  List.foldlRecOn _ _ agree fun _ before x _ => before.changeGate ((before x.1).takeSample _ x.2)

theorem State.GatesAgree.configureGate {s : State} (agree : s.GatesAgree) (g : GateIdx) (cfg : GateConfig) :
    (s.configureGate g cfg).GatesAgree := by
  have config (j : GateIdx) : (s.ret.gates.set g cfg)[j] = if j = g then cfg else s.ret.gates[j] := set_getElem ..
  refine State.changeGate_gatesAgree ?_ fun j other => ?_
  · change GateWork.Agrees _ (s.ret.gates.set g cfg)[g].enabled
    rw [config, if_pos rfl]
    exact (agree g).configure cfg.enabled
  · change GateWork.Agrees _ (s.ret.gates.set g cfg)[j].enabled
    rw [config, if_neg other]
    exact agree j

theorem State.GatesAgree.ownSetGateMode {s : State} (agree : s.GatesAgree) (ps : List Byte) :
    (ownSetGateMode ps s).state.GatesAgree := by
  unfold Machine.ownSetGateMode
  cases readGateMode ps with
  | error index => exact agree
  | ok read =>
    change State.GatesAgree (Answer.state (if _ then _ else _))
    split
    · exact agree
    · rename_i on
      exact agree.changeGate ((agree read.1).force on read.2)

/-! ### The gate unit's rows -/

theorem State.GatesAgree.complete {s : State} (agree : s.GatesAgree) {code : Byte} {owner : List Byte → State → Answer}
    (answers : ∀ ps, (owner ps s).state.GatesAgree) : (complete code owner s).GatesAgree := by
  unfold Machine.complete
  split
  · exact (answers _).of_view rfl
  · exact agree

theorem State.GatesAgree.ownConfigureGate {s : State} (agree : s.GatesAgree) (ps : List Byte) :
    (checked (readConfigureGate ps) s fun (g, cfg) => answerOk (s.configureGate g cfg) []).state.GatesAgree := by
  cases readConfigureGate ps with
  | error index => exact agree
  | ok read => exact agree.configureGate read.1 read.2

theorem exec_gatesAgree {c : Instr} {s t : State} (hg : changesGates c = true) (agree : s.GatesAgree)
    (h : exec c s = .next t) : t.GatesAgree := by
  cases c with
  | converterRound a0 a1 a2 a3 n =>
    rw [← Host.Outcome.next.inj h]
    unfold whileRunning
    split
    · exact agree.converterRound a0 a1 a2 a3 n
    · exact agree
  | configureGate =>
    rw [← Host.Outcome.next.inj h]
    exact agree.complete agree.ownConfigureGate
  | setGateMode =>
    rw [← Host.Outcome.next.inj h]
    exact agree.complete agree.ownSetGateMode
  | _ => cases hg

end Sys2Proof.Machine
end

section
/-! The gates through the supervisor's rows and the starts, and the step (R63, R74, R75, R157). -/

namespace Sys2Proof.Machine

/-- While RUNNING the gates agree; the invariant says nothing of a part that is not RUNNING. -/
theorem State.GatesSound.of_dark {s : State} (dark : s.sup.state ≠ .running) : s.GatesSound :=
  fun running => absurd running dark

theorem State.GatesSound.of_view {s t : State} (sound : s.GatesSound) (view : t.gateView = s.gateView) : t.GatesSound := by
  intro running
  have sup : t.sup.state = s.sup.state := congrArg GateView.sup view
  exact State.GatesAgree.of_view (sound (sup.symm.trans running)) view

/-! ### Supply levels (R155, R156) -/

theorem State.judgeLevels_dark {s : State} (dark : s.sup.state ≠ .running) : s.judgeLevels.sup.state ≠ .running := by
  unfold State.judgeLevels
  split
  · simp [State.loseDomain]
  · exact dark

/-- Supply levels leave a RUNNING part as it was, or take it out of RUNNING. -/
theorem State.GatesSound.takeLevels {s : State} (sound : s.GatesSound) (vdd vbat : Nat) :
    (s.takeLevels vdd vbat).GatesSound := by
  unfold State.takeLevels
  cases hs : s.sup.state with
  | running | starting =>
    simp only [hs]
    split
    · exact .of_dark (State.judgeLevels_dark (by simp [State.enterRetention]))
    · exact sound.of_view (by simp [State.gateView, hs])
  | retention =>
    simp only [hs]
    exact .of_dark (State.judgeLevels_dark (by simp))
  | off =>
    simp only [hs]
    split
    · exact .of_dark (by simp)
    · exact .of_dark (by simp [State.powerUp])

/-! ### The other rows of the supervisor (R155, R160) -/

/-- RST# takes the part out of RUNNING (R155, R157). -/
theorem State.assertReset_gatesSound (s : State) : s.assertReset.GatesSound := by
  unfold State.assertReset
  cases hs : s.sup.state with
  | running | starting => simp only [hs]; exact .of_dark (by simp [State.enterRetention])
  | retention | off => simp only [hs]; exact .of_dark (by simp)

theorem State.GatesSound.releaseReset {s : State} (sound : s.GatesSound) : s.releaseReset.GatesSound := by
  unfold State.releaseReset
  cases hs : s.sup.state with
  | running => simp only [hs]; exact sound.of_view (by simp [State.gateView, hs])
  | retention | starting | off => simp only [hs]; exact .of_dark (by simp)

theorem State.GatesSound.qualified {s : State} (sound : s.GatesSound) : s.qualified.GatesSound := by
  unfold State.qualified
  split
  · exact .of_dark (by simp [State.enterStarting])
  · exact sound

theorem State.GatesSound.takeStart {s : State} (sound : s.GatesSound) (code : Byte) (cold : Bool) :
    (takeStart code cold s).GatesSound := by
  unfold Machine.takeStart
  split
  · split
    · exact .of_dark (by simp [State.beginStart, State.enterStarting])
    · exact sound.of_view rfl
  · exact sound

theorem exec_gatesSound_of_movesSupervisor {c : Instr} {s t : State} (hm : movesSupervisor c = true) (sound : s.GatesSound)
    (h : exec c s = .next t) : t.GatesSound := by
  cases c with
  | rstAssert => obtain rfl := Host.Outcome.next.inj h; exact s.assertReset_gatesSound
  | rstRelease => obtain rfl := Host.Outcome.next.inj h; exact sound.releaseReset
  | supplyQualified => obtain rfl := Host.Outcome.next.inj h; exact sound.qualified
  | restart => obtain rfl := Host.Outcome.next.inj h; exact sound.takeStart 0x5E false
  | factoryClear => obtain rfl := Host.Outcome.next.inj h; exact sound.takeStart 0x5F true
  | _ => cases hm

/-! ### Starts (R74, R75) -/

theorem State.coldStart_gatesAgree (pin : Bool) (s : State) : (s.coldStart pin).GatesAgree := by
  intro g
  have gates : (s.coldStart pin).gates[g] = .cold := tabConst_getElem 4 _ g
  have config : (s.coldStart pin).ret.gates[g] = .cold := tabConst_getElem 4 _ g
  rw [gates, config]
  exact GateWork.cold_agrees

theorem State.warmStart_gatesAgree (pin : Bool) (s : State) : (s.warmStart pin).GatesAgree := by
  obtain ⟨v, -, warmed⟩ := s.warmStart_eq pin
  intro g
  rw [warmed]
  have gates : (s.warmed pin v).gates[g] = .warm s.ret.gates[g].enabled := tab_getElem _ g
  rw [gates]
  exact GateWork.warm_agrees _

theorem State.GatesSound.endStarting {s : State} (sound : s.GatesSound) (pin : Bool) : (s.endStarting pin).GatesSound := by
  unfold State.endStarting
  split
  · split
    · exact fun _ => s.coldStart_gatesAgree pin
    · exact fun _ => s.warmStart_gatesAgree pin
  · exact sound

/-! ### Every row and every step -/

/-- The gate unit's own rows leave the supervisor. -/
theorem exec_sup_of_changesGates {c : Instr} {s t : State} (hg : changesGates c = true) (h : exec c s = .next t) :
    t.sup = s.sup := by
  have beside : writesTime c = false ∧ movesSupervisor c = false := by
    cases c with
    | converterRound _ _ _ _ _ | configureGate | setGateMode => exact ⟨rfl, rfl⟩
    | _ => cases hg
  exact State.sup_of_timeView (exec_timeView beside.1 beside.2 h)

theorem exec_gatesSound {c : Instr} {s t : State} (sound : s.GatesSound) (h : exec c s = .next t) : t.GatesSound := by
  cases hg : changesGates c with
  | true =>
    have sup := exec_sup_of_changesGates hg h
    exact fun running => exec_gatesAgree hg (sound (sup ▸ running)) h
  | false =>
    cases hm : movesSupervisor c with
    | true => exact exec_gatesSound_of_movesSupervisor hm sound h
    | false =>
      cases hr : remakesStore c with
      | false => exact sound.of_view (exec_gateView hg hm hr h)
      | true =>
        obtain supply | ends := (Bool.or_eq_true ..).mp hr
        · obtain ⟨vdd, vbat, rfl⟩ := exec_supplyLevels supply h
          exact sound.takeLevels vdd vbat
        · obtain ⟨pin, rfl⟩ := endsStart_iff.mp ends
          rw [← Host.Outcome.next.inj h]
          exact sound.endStarting pin

/-- Settles O11: a step is a row on the queue's rest, which the invariant does not speak of. -/
theorem everyStepKeepsTheGatesSound : Obligations.EveryStepKeepsTheGatesSound := by
  intro s t sound h
  unfold step at h
  split at h
  · rwa [← Host.Outcome.next.inj h]
  · rename_i c rest _
    exact exec_gatesSound (s := { s with pending := rest }) sound h

end Sys2Proof.Machine
end

section
/-! An event of the resolver (R85 to R92): what it leaves of each channel's result and of each group's holder, from the scope it
recomputes. -/

namespace Sys2Proof.Machine

/-! ### What the resolver reads -/

/-- A channel's ranking reads the retained store and the run count (R83, R84). -/
theorem ranking_congr {s t : State} (ret : t.ret = s.ret) (now : t.runCount = s.runCount) (ch : Chan) :
    ranking t ch = ranking s ch := by
  simp only [ranking, programRanking, State.chan, ret, now]

theorem verdictOf_congr {s t : State} (ret : t.ret = s.ret) (now : t.runCount = s.runCount) (ch : Chan) :
    verdictOf t ch = verdictOf s ch := by
  simp only [verdictOf, programRanking, State.chan, ret, now]

/-- What ranking a channel gives its result (R85). -/
def Resolution.ranked (r : Resolution) : Source × Rank × Level × Verdict := (r.source, r.rank, r.level, r.verdict)

/-- A channel ranked afresh takes nothing from the result it had. -/
theorem rankAfresh_ranked_congr {s t : State} (ret : t.ret = s.ret) (now : t.runCount = s.runCount) (ch : Chan)
    (r r' : Resolution) : (rankAfresh t ch r').ranked = (rankAfresh s ch r).ranked := by
  simp only [Resolution.ranked, rankAfresh, ranking_congr ret now, verdictOf_congr ret now, State.chan, ret]

theorem settleTarget_ranked (s : State) (holders : Vector (Option Chan) 4) (ch : Chan) (r : Resolution) :
    (settleTarget s holders ch r).ranked = r.ranked := by
  obtain ⟨source, rank, level, verdict⟩ := settleTarget_keeps s holders ch r
  rw [Resolution.ranked, source, rank, level, verdict, Resolution.ranked]

/-- A result settled is made of its ranking and of the holder of the channel's own group (R87). -/
theorem settleTarget_congr {s t : State} {holders holders' : Vector (Option Chan) 4} {ch : Chan} {r r' : Resolution}
    (ret : t.ret = s.ret) (held : ∀ g, (s.chan ch).group = some g → holders'[g.idx] = holders[g.idx])
    (same : r'.ranked = r.ranked) : settleTarget t holders' ch r' = settleTarget s holders ch r := by
  have group : (t.chan ch).group = (s.chan ch).group := by rw [State.chan, State.chan, ret]
  obtain ⟨source, rank, level, verdict, target, inhibited⟩ := r
  obtain ⟨source', rank', level', verdict', target', inhibited'⟩ := r'
  simp only [Resolution.ranked, Prod.mk.injEq] at same
  obtain ⟨rfl, rfl, rfl, rfl⟩ := same
  unfold settleTarget
  rw [group]
  cases own : (s.chan ch).group with
  | none => rfl
  | some g => simp only [held g own]

/-- Arbitration of a group reads its members alone: their resolved levels and ranks, and which of them are driven (R86). -/
theorem arbitrate_congr_members {s t : State} {res res' : Vector Resolution 16} {g : Group} (ret : t.ret = s.ret)
    (sw : t.sw = s.sw) (same : ∀ ch : Chan, (s.chan ch).group = some g → res'[ch].ranked = res[ch].ranked) :
    arbitrate t res' g = arbitrate s res g := by
  have chan (ch : Chan) : t.chan ch = s.chan ch := by rw [State.chan, State.chan, ret]
  have level {ch : Chan} (own : (s.chan ch).group = some g) : res'[ch].level = res[ch].level :=
    congrArg (·.2.2.1) (same ch own)
  have rank {ch : Chan} (own : (s.chan ch).group = some g) : res'[ch].rank = res[ch].rank :=
    congrArg (·.2.1) (same ch own)
  have beat {a b : Chan} (ha : (s.chan a).group = some g) (hb : (s.chan b).group = some g) :
      beats t res' a b = beats s res a b := by
    simp only [beats, rank ha, rank hb, sw]
  have strong (l : List Chan) : ∀ a : Chan, (s.chan a).group = some g → (∀ b ∈ l, (s.chan b).group = some g) →
      strongest t res' a l = strongest s res a l := by
    induction l with
    | nil => exact fun _ _ _ => rfl
    | cons b l ih =>
      intro a ha hl
      have hb := hl b List.mem_cons_self
      rw [strongest, strongest, beat ha hb]
      refine ih _ ?_ fun c hc => hl c (List.mem_cons_of_mem b hc)
      split <;> assumption
  have contend : contenders t res' g = contenders s res g := by
    refine List.filter_congr fun ch _ => decide_eq_decide.mpr ?_
    rw [chan]
    exact and_congr_right fun own => by rw [level own]
  have members : ∀ ch ∈ contenders s res g, (s.chan ch).group = some g := fun ch hc =>
    (of_decide_eq_true (List.mem_filter.mp hc).2).1
  unfold arbitrate
  rw [contend]
  cases hc : contenders s res g with
  | nil => rfl
  | cons a l =>
    rw [hc] at members
    exact congrArg some (strong l a (members a List.mem_cons_self) fun b hb => members b (List.mem_cons_of_mem a hb))

/-- What an event reaches reads the retained store, the run count, the applied levels, and the results and holders before it. -/
theorem resolved_congr {s t : State} (ret : t.ret = s.ret) (now : t.runCount = s.runCount) (sw : t.sw = s.sw)
    (results : t.results = s.results) (holders : t.holders = s.holders) (sc : Scope) :
    resolved t sc = resolved s sc ∧ arbitratedHolders t sc = arbitratedHolders s sc := by
  have ranked : rankedResults t sc = rankedResults s sc := by
    simp only [rankedResults, rankAfresh, ranking_congr ret now, verdictOf_congr ret now, State.chan, ret, results]
  have arbitrated : arbitratedHolders t sc = arbitratedHolders s sc := by
    simp only [arbitratedHolders, ranked, holders, arbitrate_congr_members ret sw fun _ _ => rfl]
  have scope (ch : Chan) : inScope t sc ch = inScope s sc ch := by
    rw [inScope, State.chan, ret, inScope, State.chan]
  have settle (held : Vector (Option Chan) 4) (ch : Chan) (r : Resolution) :
      settleTarget t held ch r = settleTarget s held ch r := settleTarget_congr ret (fun _ _ => rfl) rfl
  refine ⟨?_, arbitrated⟩
  simp only [resolved, ranked, arbitrated, scope, settle]

/-! ### Channel by channel and group by group -/

theorem rankedResults_ranked (s : State) (sc : Scope) (ch : Chan) : (rankedResults s sc)[ch].ranked =
    if sc.ranked.getLsbD ch.val then (rankAfresh s ch s.results[ch]).ranked else s.results[ch].ranked := by
  rw [rankedResults, tab_getElem]
  split <;> rfl

/-- What the event computes a channel's effective target for (R89). -/
theorem inScope_iff (s : State) (sc : Scope) (ch : Chan) : inScope s sc ch = true ↔
    sc.ranked.getLsbD ch.val = true ∨ sc.also.getLsbD ch.val = true ∨ ∃ g ∈ sc.groups, (s.chan ch).group = some g := by
  unfold inScope
  rw [Bool.or_eq_true, Bool.or_eq_true, or_assoc]
  cases (s.chan ch).group with
  | none => simp
  | some g => simp

theorem resolved_inScope {s : State} {sc : Scope} {ch : Chan} (h : inScope s sc ch = true) :
    (resolved s sc)[ch] = settleTarget s (arbitratedHolders s sc) ch (rankedResults s sc)[ch] := by
  rw [resolved, tab_getElem, if_pos h]

theorem resolved_outOfScope {s : State} {sc : Scope} {ch : Chan} (h : ¬inScope s sc ch = true) :
    (resolved s sc)[ch] = s.results[ch] := by
  have unranked : ¬sc.ranked.getLsbD ch.val = true := fun ranked => h ((inScope_iff s sc ch).mpr (.inl ranked))
  rw [resolved, tab_getElem, if_neg h, rankedResults, tab_getElem, if_neg unranked]

theorem resolved_ranked (s : State) (sc : Scope) (ch : Chan) :
    (resolved s sc)[ch].ranked = (rankedResults s sc)[ch].ranked := by
  rw [resolved, tab_getElem]
  split
  · exact settleTarget_ranked ..
  · rfl

theorem arbitratedHolders_getElem (s : State) (sc : Scope) (g : Group) : (arbitratedHolders s sc)[g.idx] =
    if g ∈ sc.groups then arbitrate s (rankedResults s sc) g else s.holders[g.idx] := by
  rw [arbitratedHolders, tab_getElem, group_ofIdx_idx]

/-! ### The event as the statements speak of it -/

/-- `t` has the results and holders that an event of the scope reaches from `s`, and leaves what the resolver reads of the other
blocks. -/
structure ResolvesScope (sc : Scope) (s t : State) : Prop where
  results : t.results = resolved s sc
  holders : t.holders = arbitratedHolders s sc
  ret : t.ret = s.ret
  runCount : t.runCount = s.runCount
  sw : t.sw = s.sw

theorem State.resolve_scope (sc : Scope) (s : State) : ResolvesScope sc s (s.resolve sc) := by
  rw [State.resolve_eq]
  exact ⟨rfl, rfl, rfl, rfl, rfl⟩

/-- An event from a part that differs from `s` in nothing that the resolver reads. -/
theorem ResolvesScope.of_before {sc : Scope} {s u t : State} (h : ResolvesScope sc u t) (ret : u.ret = s.ret)
    (now : u.runCount = s.runCount) (sw : u.sw = s.sw) (results : u.results = s.results) (holders : u.holders = s.holders) :
    ResolvesScope sc s t :=
  have same := resolved_congr ret now sw results holders sc
  ⟨h.results.trans same.1, h.holders.trans same.2, h.ret.trans ret, h.runCount.trans now, h.sw.trans sw⟩

/-- The results and holders after an event, `u` being the part before it with the change of the retained store that brought the
event (R78, R80). -/
theorem ResolvesScope.resolves {sc : Scope} {s u t : State} (h : ResolvesScope sc u t) (results : u.results = s.results)
    (holders : u.holders = s.holders) : Resolves sc.ranked sc.also sc.groups s t where
  rankedAfresh ch ranked := by
    have fresh : t.results[ch].ranked = (rankAfresh u ch u.results[ch]).ranked := by
      rw [h.results, resolved_ranked, rankedResults_ranked, if_pos ranked]
    simp only [Resolution.ranked, Prod.mk.injEq] at fresh
    obtain ⟨source, rank, level, verdict⟩ := fresh
    refine ⟨_, ?_, source, rank, level, ?_⟩
    · rw [ranking_congr h.ret h.runCount, ranking_head?]
    · rw [verdict, verdictOf_congr h.ret h.runCount]
      rfl
  kept ch unranked := by
    have kept : t.results[ch].ranked = s.results[ch].ranked := by
      rw [h.results, resolved_ranked, rankedResults_ranked, if_neg (Bool.eq_false_iff.mp unranked), results]
    simpa only [Resolution.ranked, Prod.mk.injEq] using kept
  holders g := by
    rw [h.holders, arbitratedHolders_getElem, holders]
    congr 1
    exact (arbitrate_congr_members h.ret h.sw fun ch _ => by rw [h.results, resolved_ranked]).symm
  targets ch scope := by
    have inside : inScope u sc ch = true := by
      rw [inScope_iff]
      rwa [State.chan, h.ret] at scope
    refine State.settled_of_settleTarget (r := (rankedResults u sc)[ch]) ?_
    rw [h.results, resolved_inScope inside]
    exact (settleTarget_congr h.ret (fun g _ => by rw [h.holders]) rfl).symm
  still ch beside := by
    have outside : ¬inScope u sc ch = true := by
      rw [inScope_iff]
      rwa [State.chan, h.ret] at beside
    rw [h.results, resolved_outOfScope outside, results]
    exact ⟨rfl, rfl⟩

/-- The groups of an event matter by which they are. -/
theorem Resolves.of_groups {ranked also : ChanSet} {groups groups' : List Group} {s t : State}
    (h : Resolves ranked also groups s t) (same : ∀ g, g ∈ groups' ↔ g ∈ groups) : Resolves ranked also groups' s t where
  rankedAfresh := h.rankedAfresh
  kept := h.kept
  holders g := by simp only [h.holders g, same]
  targets ch scope := h.targets ch (by simpa only [same] using scope)
  still ch beside := h.still ch (by simpa only [same] using beside)

/-- What the event hands on (R90 to R92), `u` differing from `s` in nothing of it. -/
theorem State.resolve_concludes (sc : Scope) {s u : State} (results : u.results = s.results)
    (handOffs : u.mail.handOffs = s.mail.handOffs) (verdicts : u.mail.verdictReports = s.mail.verdictReports)
    (flags : u.att.channel = s.att.channel) : Concludes s (u.resolve sc) := by
  rw [State.resolve_eq]
  refine ⟨?_, ?_, fun ch => ?_⟩
  · rw [← handOffs, ← results] <;> rfl
  · rw [← verdicts, ← results] <;> rfl
  · dsimp only
    rw [BitVec.getLsbD_or, sourceChanges, chansWhere_getLsbD, flags, results]

end Sys2Proof.Machine
end

section
/-! What drives the channels: the parts of the state that the resolver, the sequencer and the output stage own, with what they hand
one another. The record store, the gate unit, the key panel, the calendar unit, the attention unit and the host link leave it,
operation by operation. -/

namespace Sys2Proof.Machine

/-- The state with the parts of the other blocks blanked, their share of the retained store among them. -/
def State.driving (s : State) : State :=
  { s with
    cal := .cold
    runCount := 0
    stepReplaced := false
    ret := { Retained.cold with
      channels := s.ret.channels
      gaps := s.ret.gaps
      stagger := s.ret.stagger
      hostLatch := s.ret.hostLatch
      locks := s.ret.locks }
    check := ⟨.cold⟩
    gates := tabConst 4 .cold
    keys := tabConst 8 .start
    att := .none
    link := .start
    sup := { s.sup with startingFor := 0 }
    mail := { Mail.empty with handOffs := s.mail.handOffs, levelReports := s.mail.levelReports } }

/-! ### Time and the Program Table -/

theorem State.tick_driving (s : State) : s.tick.driving = s.driving := by
  by_cases off : s.sup.state = .off
  · rw [State.tick_off off]
  cases replaced : s.stepReplaced with
  | true =>
    rw [State.tick_replaced off replaced]
    rfl
  | false =>
    by_cases last : s.cal = .last
    · rw [State.tick_rollover off replaced last]
      rfl
    · rw [State.tick_inside off replaced last]
      rfl

theorem State.setPrograms_driving (t : Vector ProgSlot 96) (s : State) : (s.setPrograms t).driving = s.driving := by
  rw [State.setPrograms_eq]
  rfl

theorem State.evaluateTable_driving (p : Present) (s : State) : (s.evaluateTable p).driving = s.driving := by
  rw [State.evaluateTable_eq]
  rfl

theorem State.takeOldestBoundary_driving (s : State) : s.takeOldestBoundary.driving = s.driving := by
  unfold State.takeOldestBoundary
  split
  · rfl
  · exact State.evaluateTable_driving ..

theorem State.takeBoundaries_driving (s : State) : s.takeBoundaries.driving = s.driving :=
  foldl_keepsView (fun _ _ => State.evaluateTable_driving ..) _ _

theorem State.takeSetTime_driving (v : TimeValue) (stepDue : Bool) (s : State) :
    (s.takeSetTime v stepDue).driving = s.driving :=
  (State.evaluateTable_driving ..).trans s.takeBoundaries_driving

theorem State.takeOldestGateReport_driving (s : State) : s.takeOldestGateReport.driving = s.driving := by
  unfold State.takeOldestGateReport
  split
  · rfl
  · exact State.setPrograms_driving ..

/-- One slot replaced with its epoch step, as the commands on one record do it (R30 to R33). -/
theorem State.replaceProgram_driving (i : ProgIdx) (x : ProgSlot) (s : State) :
    ((s.setProgram i x).advanceEpoch 1).driving = s.driving := by
  rw [State.replaceProgram_eq]
  rfl

/-! ### The Override Table -/

theorem State.endOverrides_driving (t : Vector OvrSlot 16) (s : State) : (s.endOverrides t).driving = s.driving := by
  rw [State.endOverrides_eq]
  rfl

theorem State.expireOverride_driving (i : OvrIdx) (s : State) : (s.expireOverride i).driving = s.driving := by
  unfold State.expireOverride
  split
  · exact ite_keepsView (State.endOverrides_driving ..) rfl
  · rfl

theorem State.createOverride_driving (c : Creation) (s : State) : (s.createOverride c).driving = s.driving := by
  unfold State.createOverride
  rw [State.supersede, State.settleOverrides_eq]
  dsimp only
  split
  · rw [State.request_eq]
    rfl
  · rfl

theorem State.takeOldestVerdicts_driving (s : State) : s.takeOldestVerdicts.driving = s.driving := by
  unfold State.takeOldestVerdicts
  split
  · rfl
  · exact State.endOverrides_driving ..

theorem State.takeOldestCreation_driving (k : KeyIdx) (s : State) : (s.takeOldestCreation k).driving = s.driving := by
  unfold State.takeOldestCreation
  split
  · exact State.createOverride_driving ..
  all_goals rfl

theorem State.takeOldestRelease_driving (k : KeyIdx) (s : State) : (s.takeOldestRelease k).driving = s.driving := by
  unfold State.takeOldestRelease
  split
  · exact State.endOverrides_driving ..
  all_goals rfl

/-! ### Gates and keys -/

theorem State.changeGate_driving (g : GateIdx) (w : GateWork) (s : State) : (s.changeGate g w).driving = s.driving := by
  rw [State.changeGate_eq]
  rfl

theorem State.shortAction_driving (k : KeyIdx) (s : State) : (s.shortAction k).driving = s.driving := by
  unfold State.shortAction
  split <;> rfl

theorem State.longAction_driving (k : KeyIdx) (s : State) : (s.longAction k).driving = s.driving := by
  unfold State.longAction
  split <;> rfl

theorem State.recognisePress_driving (k : KeyIdx) (s : State) : (s.recognisePress k).driving = s.driving := by
  unfold State.recognisePress
  cases s.keys[k].state with
  | idle => exact ite_keepsView rfl rfl
  | pressed _ | long => rfl

theorem State.recogniseRelease_driving (k : KeyIdx) (s : State) : (s.recogniseRelease k).driving = s.driving := by
  unfold State.recogniseRelease
  cases s.keys[k].state with
  | pressed _ => exact State.shortAction_driving k s
  | idle | long => rfl

theorem State.sampleKey_driving (k : KeyIdx) (reading : Bool) (s : State) :
    (s.sampleKey k reading).driving = s.driving :=
  ite_keepsView (view := State.driving)
    (ite_keepsView (view := State.driving) (State.recognisePress_driving ..) (State.recogniseRelease_driving ..)) rfl

theorem State.keySample_driving (pressed : BitVec 8) (s : State) : (s.keySample pressed).driving = s.driving :=
  foldl_keepsView (fun _ _ => State.sampleKey_driving ..) _ s

theorem State.holdExpiry_driving (k : KeyIdx) (s : State) : (s.holdExpiry k).driving = s.driving :=
  ite_keepsView (view := State.driving) (State.longAction_driving k s) rfl

theorem State.setPanelLock_driving (locked : Bool) (s : State) : (s.setPanelLock locked).driving = s.driving :=
  ite_keepsView rfl rfl

/-! ### The host link -/

theorem State.endTransaction_driving (s : State) : s.endTransaction.driving = s.driving := by
  rw [State.endTransaction_frame]
  rfl

theorem State.riseMidFrame_driving (s : State) : s.riseMidFrame.driving = s.driving := by
  unfold State.riseMidFrame
  cases s.link.state with
  | receiving _ => exact s.endTransaction_driving
  | idle | executing _ | ready _ => rfl

theorem transact_driving {act : State → State} (hf : ∀ s, (act s).driving = s.driving) (part : FirstByte) (n : Nat)
    (s : State) : (transact part n act s).driving = s.driving := by
  have named (s : State) : (s.nameTransaction n act).driving = s.driving := by
    unfold State.nameTransaction
    split
    · exact ite_keepsView rfl (hf s)
    · rfl
  refine ite_keepsView ?_ ?_
  · cases part with
    | whole => exact (named _).trans s.endTransaction_driving
    | begins => exact s.endTransaction_driving
    | taken => exact named s
  · cases part <;> rfl

theorem State.receive_driving (bytes : List Byte) (s : State) : (s.receive bytes).driving = s.driving := by
  unfold State.receive
  split
  · rfl
  · rfl
  · refine ite_keepsView rfl ?_
    split
    · rfl
    · exact ite_keepsView rfl (ite_keepsView rfl rfl)

theorem State.nameCommand_driving (bytes : List Byte) (s : State) : (s.nameCommand bytes).driving = s.driving := by
  unfold State.nameCommand
  dsimp only
  split
  · exact State.receive_driving ..
  all_goals rfl

end Sys2Proof.Machine
end

section
/-! Which rows leave what drives the channels: every row but those of the resolver, the sequencer and the output stage, and the
supervisor's. -/

namespace Sys2Proof.Machine

/-- The rows that are events of the resolver (R77, R78, R80, R88, R89). -/
def resolvesTargets : Instr → Bool
  | .reResolutionRequest _ | .appliedLevelReport _ | .setFallback | .configureChannel => true
  | _ => false

/-- The rows of the sequencer and the output stage (R100 to R134, R204, R208 to R210). -/
def switchesChannels : Instr → Bool
  | .setChannelTiming | .configureGroup | .handOff | .staggerExpiry | .minOnExpiry _ | .minOffExpiry _
  | .changeoverGapExpiry _ | .rampTimerExpiry _ | .longPastMark _ | .allOffPinChange _ | .forceAllOff | .releaseAllOff
  | .setStagger | .overcurrentReport _ | .retryTimerExpiry _ | .cleanRunExpiry _ | .clearFault => true
  | _ => false

/-! ### Host commands -/

section Completions

variable {β : Type} {view : State → β}

/-- A completion leaves of a view what its owner leaves, where the view does not see the response (R172). -/
theorem completion_keepsView (response : ∀ (a : Answer) (code : Byte), view (a.respond code) = view a.state) {code : Byte}
    {owner : List Byte → State → Answer} {s t : State} (kept : ∀ ps, view (owner ps s).state = view s)
    (h : (Host.Outcome.next (complete code owner s) : Host.Outcome State Fault Refusal) = .next t) : view t = view s := by
  refine next_keepsView ?_ h
  unfold complete
  split
  · exact (response ..).trans (kept _)
  · rfl

theorem checked_keepsView {α : Type} {read : Except Nat α} {s : State} {f : α → Answer}
    (kept : ∀ a, view (f a).state = view s) : view (checked read s f).state = view s := by
  cases read with
  | ok a => exact kept a
  | error index => rfl

end Completions

theorem completion_driving {code : Byte} {owner : List Byte → State → Answer} {s t : State}
    (kept : ∀ ps s, (owner ps s).state.driving = s.driving)
    (h : (Host.Outcome.next (complete code owner s) : Host.Outcome State Fault Refusal) = .next t) :
    t.driving = s.driving := completion_keepsView (fun _ _ => rfl) (kept · s) h

theorem checked_driving {α : Type} {read : Except Nat α} {s : State} {f : α → Answer}
    (kept : ∀ a, (f a).state.driving = s.driving) : (checked read s f).state.driving = s.driving := checked_keepsView kept

theorem ownCreateProgram_driving (ps : List Byte) (s : State) : (ownCreateProgram ps s).state.driving = s.driving := by
  refine checked_driving fun ⟨disabled, d⟩ => Answer.ite_keepsView rfl ?_
  split
  · rfl
  · exact State.replaceProgram_driving ..

theorem ownReadProgram_driving (ps : List Byte) (s : State) : (ownReadProgram ps s).state.driving = s.driving := by
  refine checked_driving fun n => ?_
  cases s.namedProgram n <;> rfl

theorem ownListPrograms_driving (ps : List Byte) (s : State) : (ownListPrograms ps s).state.driving = s.driving :=
  checked_driving fun _ => Answer.ite_keepsView rfl rfl

theorem ownExtendOverride_driving (ps : List Byte) (s : State) : (ownExtendOverride ps s).state.driving = s.driving := by
  refine checked_driving fun _ => State.onOverride_keepsView _ fun r => ?_
  cases r.kind <;> rfl

theorem ownReadOverrides_driving (ps : List Byte) (s : State) : (ownReadOverrides ps s).state.driving = s.driving := by
  refine checked_driving fun q => ?_
  cases q with
  | page first => rfl
  | single n =>
    dsimp only
    cases s.namedOverride n <;> rfl

/-! ### The rows -/

theorem exec_driving {c : Instr} {s t : State} (hd : resolvesTargets c = false) (hw : switchesChannels c = false)
    (hm : movesSupervisor c = false) (hr : remakesStore c = false) (h : exec c s = .next t) : t.driving = s.driving := by
  cases c with
  | reResolutionRequest _ | appliedLevelReport _ | setFallback | configureChannel => cases hd
  | setChannelTiming | configureGroup | handOff | staggerExpiry | minOnExpiry _ | minOffExpiry _ | changeoverGapExpiry _
  | rampTimerExpiry _ | longPastMark _ | allOffPinChange _ | forceAllOff | releaseAllOff | setStagger
  | overcurrentReport _ | retryTimerExpiry _ | cleanRunExpiry _ | clearFault => cases hw
  | rstAssert | rstRelease | supplyQualified | restart | factoryClear => cases hm
  | startingEnd _ | vddFall _ | vddRise _ | backupSupplyFall _ | backupDomainLoss _ _ | backupDomainPowerUp _ _
  | vddBelowQualificationThreshold _ => cases hr
  | readTime | setResumePolicy | readGates | readChannel | explainChannel | readQueue | bindKey | readKeyBinding
  | setAttentionMask | readAttention => exact completion_driving (fun _ _ => checked_driving fun _ => rfl) h
  | calendarAdvance => exact next_keepsView s.tick_driving h
  | yearRollover =>
    exact next_keepsView (ite_keepsView
      ((whileRunning_keepsView s.tick.takeBoundaries_driving).trans s.tick_driving) rfl) h
  | setTime stepDue => exact completion_driving (fun _ _ => checked_driving fun _ => State.takeSetTime_driving ..) h
  | minuteBoundary => exact event_keepsView s.takeOldestBoundary_driving h
  | createProgram => exact completion_driving ownCreateProgram_driving h
  | editProgram =>
    exact completion_driving (fun _ _ => checked_driving fun _ => State.onProgram_keepsView _ fun _ =>
      Answer.ite_keepsView rfl (State.replaceProgram_driving ..)) h
  | readProgram => exact completion_driving ownReadProgram_driving h
  | enableProgram =>
    exact completion_driving (fun _ _ => checked_driving fun _ => State.onProgram_keepsView _ fun _ =>
      ite_keepsView (State.replaceProgram_driving ..) rfl) h
  | disableProgram =>
    exact completion_driving (fun _ _ => checked_driving fun _ => State.onProgram_keepsView _ fun _ =>
      ite_keepsView rfl (State.replaceProgram_driving ..)) h
  | deleteProgram =>
    exact completion_driving (fun _ _ => checked_driving fun _ => State.onProgram_keepsView _ fun _ =>
      State.replaceProgram_driving ..) h
  | listPrograms => exact completion_driving ownListPrograms_driving h
  | verdictReport => exact event_keepsView s.takeOldestVerdicts_driving h
  | gateChangeReport => exact event_keepsView s.takeOldestGateReport_driving h
  | createOverride => exact completion_driving (fun _ _ => checked_driving fun _ => State.createOverride_driving ..) h
  | creationRequest k => exact event_keepsView (s.takeOldestCreation_driving k) h
  | extendOverride => exact completion_driving ownExtendOverride_driving h
  | cancelOverride =>
    exact completion_driving (fun _ _ => checked_driving fun _ => State.onOverride_keepsView _ fun _ =>
      State.endOverrides_driving ..) h
  | releaseChannels => exact completion_driving (fun _ _ => checked_driving fun _ => State.endOverrides_driving ..) h
  | release k => exact event_keepsView (s.takeOldestRelease_driving k) h
  | overrideExpiry i => exact event_keepsView (s.expireOverride_driving i) h
  | readOverrides => exact completion_driving ownReadOverrides_driving h
  | converterRound a0 a1 a2 a3 n => exact event_keepsView (foldl_keepsView (fun _ _ => State.changeGate_driving ..) _ s) h
  | configureGate => exact completion_driving (fun _ _ => checked_driving fun _ => State.changeGate_driving ..) h
  | setGateMode =>
    exact completion_driving (fun _ _ => checked_driving fun _ =>
      Answer.ite_keepsView rfl (State.changeGate_driving ..)) h
  | keySample pressed => exact event_keepsView (s.keySample_driving pressed) h
  | holdTimerExpiry k => exact event_keepsView (s.holdExpiry_driving k) h
  | setPanelLock =>
    exact completion_driving (fun _ _ => checked_driving fun _ => State.setPanelLock_driving ..) h
  | status n part => exact next_keepsView (transact_driving (act := State.nameStatus n) (fun _ => rfl) part n s) h
  | command bytes part => exact next_keepsView (transact_driving (State.nameCommand_driving bytes) part _ s) h
  | fetch n part => exact next_keepsView (transact_driving (act := State.nameFetch n) (fun _ => rfl) part n s) h
  | framing cause =>
    cases cause with
    | firstByte b part n =>
      exact next_keepsView (ite_keepsView (view := State.driving) rfl
        (transact_driving (act := State.nameNone n) (fun _ => rfl) part n s)) h
    | riseMidFrame => exact event_keepsView s.riseMidFrame_driving h
  | transactionEnd => exact event_keepsView s.endTransaction_driving h

end Sys2Proof.Machine
end

section
/-! The effective targets and INHIBITED marks stay those of R87 through every row and every step: the resolver's own events, the rows
that leave what the resolver holds, and the starts. -/

namespace Sys2Proof.Machine

/-! ### What the invariant reads -/

/-- The resolver's results and holders, the channels' groups, and the state of the supervisor. -/
structure ResolutionView where
  results : Vector Resolution 16
  holders : Vector (Option Chan) 4
  groups : Chan → Option Group
  sup : SupState

/-- The resolution view of a state. -/
def State.resolutionView (s : State) : ResolutionView := ⟨s.results, s.holders, fun ch => (s.chan ch).group, s.sup.state⟩

theorem State.resolutionView_of_driving {s t : State} (h : t.driving = s.driving) :
    t.resolutionView = s.resolutionView :=
  calc t.resolutionView
    _ = t.driving.resolutionView := rfl
    _ = s.driving.resolutionView := by rw [h]
    _ = s.resolutionView := rfl

theorem State.resolutionView_of_besideSwitching {s t : State} (h : t.besideSwitching = s.besideSwitching) :
    t.resolutionView = s.resolutionView :=
  calc t.resolutionView
    _ = t.besideSwitching.resolutionView := rfl
    _ = s.besideSwitching.resolutionView := by rw [h]
    _ = s.resolutionView := rfl

/-- Every effective target and mark is that of R87. -/
def State.TargetsAgree (s : State) : Prop := ∀ ch : Chan, s.settled ch

theorem State.TargetsAgree.of_view {s t : State} (agree : s.TargetsAgree) (view : t.resolutionView = s.resolutionView) :
    t.TargetsAgree := by
  intro ch
  have results : t.results = s.results := congrArg ResolutionView.results view
  have holders : t.holders = s.holders := congrArg ResolutionView.holders view
  have group : (t.chan ch).group = (s.chan ch).group := congrFun (congrArg ResolutionView.groups view) ch
  have settled := agree ch
  unfold State.settled at settled ⊢
  rwa [results, holders, group]

/-! ### Events of the resolver -/

/-- An event keeps the targets settled where a channel beside its scope has the group it had (R89). -/
theorem State.TargetsAgree.resolves {s t : State} (agree : s.TargetsAgree) {ranked also : ChanSet} {groups : List Group}
    (event : Resolves ranked also groups s t)
    (members : ∀ ch : Chan, also.getLsbD ch.val = false → (t.chan ch).group = (s.chan ch).group) : t.TargetsAgree := by
  intro ch
  by_cases scope : ranked.getLsbD ch.val = true ∨ also.getLsbD ch.val = true ∨ ∃ g ∈ groups, (t.chan ch).group = some g
  · exact event.targets ch scope
  · obtain ⟨target, inhibited⟩ := event.still ch scope
    simp only [not_or, Bool.not_eq_true] at scope
    obtain ⟨unranked, beside, apart⟩ := scope
    obtain ⟨-, -, level, -⟩ := event.kept ch unranked
    have group := members ch beside
    have settled := agree ch
    unfold State.settled at settled ⊢
    rw [group, target, inhibited, level]
    cases own : (s.chan ch).group with
    | none => simpa only [own] using settled
    | some g =>
      have held : t.holders[g.idx] = s.holders[g.idx] := by
        rw [event.holders, if_neg fun mem => apart ⟨g, mem, group.trans own⟩]
      simpa only [own, held] using settled

theorem State.TargetsAgree.resolve {s : State} (agree : s.TargetsAgree) (sc : Scope) : (s.resolve sc).TargetsAgree :=
  agree.resolves ((s.resolve_scope sc).resolves rfl rfl) fun ch _ => by rw [State.chan, (s.resolve_scope sc).ret, State.chan]

theorem State.setChanRec_chan (ch : Chan) (r : ChanRec) (s : State) (c : Chan) :
    (s.setChanRec ch r).chan c = if c = ch then r else s.chan c := set_getElem ..

theorem State.TargetsAgree.setFallback {s : State} (agree : s.TargetsAgree) (ch : Chan) (l : Level) :
    (s.setFallback ch l).TargetsAgree := by
  refine State.TargetsAgree.resolve (agree.of_view ?_) _
  have groups : (fun c => ((s.setChanRec ch { s.chan ch with fallback := l }).chan c).group) =
      fun c => (s.chan c).group := by
    funext c
    rw [State.setChanRec_chan]
    split
    · rename_i here
      rw [here]
    · rfl
  exact congrArg (ResolutionView.mk s.results s.holders · s.sup.state) groups

/-- CONFIGURE CHANNEL names the channel that changes its group, and arbitrates the group it leaves and the group it joins
(R78). -/
theorem State.TargetsAgree.configureChannel {s : State} (agree : s.TargetsAgree) (ch : Chan) (kind : ChanKind)
    (group : Option Group) (cls : QueueClass) : (s.configureChannel ch kind group cls).TargetsAgree := by
  have others (r : ChanRec) {c : Chan} (other : c ≠ ch) : (s.setChanRec ch r).chan c = s.chan c := by
    rw [State.setChanRec_chan, if_neg other]
  unfold State.configureChannel
  dsimp only
  split
  · rename_i same
    refine agree.of_view (congrArg (ResolutionView.mk s.results s.holders · s.sup.state) (funext fun c => ?_))
    rw [State.setChanRec_chan]
    split
    · rename_i here
      rw [here, ← same]
    · rfl
  · generalize hr : ({ s.chan ch with kind := kind, group := group, queueClass := cls } : ChanRec) = r
    have event := (s.setChanRec ch r).resolve_scope ⟨0, membershipGroups (s.chan ch).group group, BitVec.twoPow 16 ch.val⟩
    refine agree.resolves (event.resolves rfl rfl) fun c beside => ?_
    have other : c ≠ ch := by
      rw [chan_twoPow_getLsbD] at beside
      exact of_decide_eq_false beside
    rw [State.chan, event.ret]
    exact congrArg ChanRec.group (others r other)

theorem State.TargetsAgree.takeRequestAt {s : State} (agree : s.TargetsAgree) (place : Nat) :
    (s.takeRequestAt place).TargetsAgree := by
  unfold State.takeRequestAt
  split
  · exact agree
  · rw [State.takeRequest]
    refine State.TargetsAgree.resolve ?_ _
    exact agree.of_view rfl

theorem State.TargetsAgree.takeLevelsAt {s : State} (agree : s.TargetsAgree) (place : Nat) :
    (s.takeLevelsAt place).TargetsAgree := by
  unfold State.takeLevelsAt
  split
  · exact agree
  · rw [State.takeLevelReport]
    refine State.TargetsAgree.resolve ?_ _
    exact agree.of_view rfl

/-! ### Rows -/

theorem State.TargetsAgree.whileRunning {s : State} (agree : s.TargetsAgree) {f : State → State}
    (taken : (f s).TargetsAgree) : (whileRunning f s).TargetsAgree := by
  unfold Machine.whileRunning
  split <;> assumption

theorem State.TargetsAgree.complete {s : State} (agree : s.TargetsAgree) {code : Byte} {owner : List Byte → State → Answer}
    (answers : ∀ ps, (owner ps s).state.TargetsAgree) : (complete code owner s).TargetsAgree := by
  unfold Machine.complete
  split
  · exact (answers _).of_view rfl
  · exact agree

theorem State.TargetsAgree.checked {s : State} (agree : s.TargetsAgree) {α : Type} {read : Except Nat α} {f : α → Answer}
    (answers : ∀ a, (f a).state.TargetsAgree) : (checked read s f).state.TargetsAgree := by
  cases read with
  | ok a => exact answers a
  | error index => exact agree

theorem exec_targetsAgree {c : Instr} {s t : State} (hd : resolvesTargets c = true) (agree : s.TargetsAgree)
    (h : exec c s = .next t) : t.TargetsAgree := by
  cases c with
  | reResolutionRequest place =>
    rw [← Host.Outcome.next.inj h]
    exact agree.whileRunning (agree.takeRequestAt place)
  | appliedLevelReport place =>
    rw [← Host.Outcome.next.inj h]
    exact agree.whileRunning (agree.takeLevelsAt place)
  | setFallback =>
    rw [← Host.Outcome.next.inj h]
    exact agree.complete fun _ => agree.checked fun x => agree.setFallback x.1 x.2
  | configureChannel =>
    rw [← Host.Outcome.next.inj h]
    refine agree.complete fun _ => agree.checked fun c => ?_
    split
    · exact agree.configureChannel c.chan c.kind c.group c.queueClass
    · exact agree
  | _ => cases hd

/-! ### The rows of the sequencer and the output stage -/

theorem State.setChannelTiming_resolutionView (ch : Chan) (minOn minOff : Byte) (ramp : Fin 16) (retry : Fin 4)
    (s : State) : (s.setChannelTiming ch minOn minOff ramp retry).resolutionView = s.resolutionView := by
  rw [State.resolutionView_of_besideSwitching (State.setChannelTiming_besideSwitching ..)]
  refine congrArg (ResolutionView.mk s.results s.holders · s.sup.state) (funext fun c => ?_)
  rw [State.setChanRec_chan]
  split
  · rename_i here
    rw [here]
  · rfl

theorem State.takeOldestHandOff_resolutionView (s : State) : s.takeOldestHandOff.resolutionView = s.resolutionView := by
  unfold State.takeOldestHandOff
  split
  · rfl
  · exact (State.resolutionView_of_besideSwitching (State.takeHandOff_besideSwitching ..)).trans rfl

theorem completion_resolutionView {code : Byte} {owner : List Byte → State → Answer} {s t : State}
    (kept : ∀ ps s, (owner ps s).state.resolutionView = s.resolutionView)
    (h : (Host.Outcome.next (complete code owner s) : Host.Outcome State Fault Refusal) = .next t) :
    t.resolutionView = s.resolutionView := completion_keepsView (fun _ _ => rfl) (kept · s) h

theorem checked_resolutionView {α : Type} {read : Except Nat α} {s : State} {f : α → Answer}
    (kept : ∀ a, (f a).state.resolutionView = s.resolutionView) :
    (checked read s f).state.resolutionView = s.resolutionView := checked_keepsView kept

theorem exec_resolutionView_of_switches {c : Instr} {s t : State} (hw : switchesChannels c = true) (h : exec c s = .next t) :
    t.resolutionView = s.resolutionView := by
  have beside {u v : State} (kept : u.besideSwitching = v.besideSwitching) : u.resolutionView = v.resolutionView :=
    State.resolutionView_of_besideSwitching kept
  have event {f : State → State} (kept : (f s).besideSwitching = s.besideSwitching) :
      (sequencerEvent f s).resolutionView = s.resolutionView := beside ((sequencerEvent_besideSwitching f s).trans kept)
  cases c with
  | setChannelTiming =>
    exact completion_resolutionView (fun _ _ => checked_resolutionView fun _ =>
      Answer.ite_keepsView rfl (State.setChannelTiming_resolutionView ..)) h
  | configureGroup =>
    exact completion_resolutionView (fun _ s => checked_resolutionView fun x =>
      (beside (s.configureGroup_besideSwitching x.1 x.2)).trans rfl) h
  | handOff => exact event_keepsView s.takeOldestHandOff_resolutionView h
  | staggerExpiry => exact event_keepsView (beside s.staggerExpiry_besideSwitching) h
  | minOnExpiry ch => exact event_keepsView (event (s.endMinOn_besideSwitching ch)) h
  | minOffExpiry ch => exact event_keepsView (event (s.endMinOff_besideSwitching ch)) h
  | changeoverGapExpiry g => exact event_keepsView (event (s.endGap_besideSwitching g)) h
  | rampTimerExpiry ch => exact event_keepsView (event (s.endRampStep_besideSwitching ch)) h
  | longPastMark m => exact event_keepsView (beside (s.markLongPast_besideSwitching m)) h
  | allOffPinChange asserted => exact event_keepsView ((beside (s.takePin_besideSwitching asserted)).trans rfl) h
  | forceAllOff =>
    exact completion_resolutionView (fun _ s => checked_resolutionView fun _ =>
      (beside (s.setLatch_besideSwitching true)).trans rfl) h
  | releaseAllOff =>
    exact completion_resolutionView (fun _ s => checked_resolutionView fun _ =>
      (beside (s.setLatch_besideSwitching false)).trans rfl) h
  | setStagger =>
    exact completion_resolutionView (fun _ s => checked_resolutionView fun b =>
      (beside (s.setStagger_besideSwitching b)).trans rfl) h
  | overcurrentReport ch => exact event_keepsView (beside (s.takeOvercurrent_besideSwitching ch)) h
  | retryTimerExpiry ch => exact event_keepsView (beside (s.retryExpiry_besideSwitching ch)) h
  | cleanRunExpiry ch => exact event_keepsView (beside (s.cleanExpiry_besideSwitching ch)) h
  | clearFault =>
    exact completion_resolutionView (fun _ s => checked_resolutionView fun ch =>
      beside (s.clearFault_besideSwitching ch)) h
  | _ => cases hw

/-! ### The supervisor's rows -/

theorem State.TargetsSettled.of_dark {s : State} (dark : s.sup.state ≠ .running) : s.TargetsSettled :=
  fun running => absurd running dark

theorem State.TargetsSettled.of_view {s t : State} (settled : s.TargetsSettled)
    (view : t.resolutionView = s.resolutionView) : t.TargetsSettled := by
  intro running
  have sup : t.sup.state = s.sup.state := congrArg ResolutionView.sup view
  exact State.TargetsAgree.of_view (settled (sup.symm.trans running)) view

/-- Supply levels leave a RUNNING part as it was, or take it out of RUNNING. -/
theorem State.TargetsSettled.takeLevels {s : State} (settled : s.TargetsSettled) (vdd vbat : Nat) :
    (s.takeLevels vdd vbat).TargetsSettled := by
  unfold State.takeLevels
  cases hs : s.sup.state with
  | running | starting =>
    simp only [hs]
    split
    · exact .of_dark (State.judgeLevels_dark (by simp [State.enterRetention]))
    · exact settled.of_view (by simp [State.resolutionView, State.chan, hs])
  | retention =>
    simp only [hs]
    exact .of_dark (State.judgeLevels_dark (by simp))
  | off =>
    simp only [hs]
    split
    · exact .of_dark (by simp)
    · exact .of_dark (by simp [State.powerUp])

theorem exec_targetsSettled_of_movesSupervisor {c : Instr} {s t : State} (hm : movesSupervisor c = true)
    (settled : s.TargetsSettled) (h : exec c s = .next t) : t.TargetsSettled := by
  have started (code : Byte) (cold : Bool) : (takeStart code cold s).TargetsSettled := by
    unfold takeStart
    split
    · split
      · exact .of_dark (by simp [State.beginStart, State.enterStarting])
      · exact settled.of_view rfl
    · exact settled
  cases c with
  | rstAssert =>
    obtain rfl := Host.Outcome.next.inj h
    unfold State.assertReset
    cases hs : s.sup.state with
    | running | starting => simp only [hs]; exact .of_dark (by simp [State.enterRetention])
    | retention | off => simp only [hs]; exact .of_dark (by simp)
  | rstRelease =>
    obtain rfl := Host.Outcome.next.inj h
    unfold State.releaseReset
    cases hs : s.sup.state with
    | running => simp only [hs]; exact settled.of_view (by simp [State.resolutionView, State.chan, hs])
    | retention | starting | off => simp only [hs]; exact .of_dark (by simp)
  | supplyQualified =>
    obtain rfl := Host.Outcome.next.inj h
    unfold State.qualified
    split
    · exact .of_dark (by simp [State.enterStarting])
    · exact settled
  | restart => obtain rfl := Host.Outcome.next.inj h; exact started 0x5E false
  | factoryClear => obtain rfl := Host.Outcome.next.inj h; exact started 0x5F true
  | _ => cases hm

/-! ### Starts (R82, R97) -/

/-- After a cold start no channel has a group, and every level is 0 (R76, R82). -/
theorem State.coldStart_targetsAgree (pin : Bool) (s : State) : (s.coldStart pin).TargetsAgree := by
  intro ch
  have group : ((s.coldStart pin).chan ch).group = none := congrArg ChanRec.group (tabConst_getElem 16 ChanRec.cold ch)
  have result : (s.coldStart pin).results[ch] = .cold := tabConst_getElem 16 _ ch
  simp only [State.settled, group, result]
  exact ⟨rfl, rfl⟩

/-- A warm start computes every channel and group afresh (R97). -/
theorem State.warmStart_targetsAgree (pin : Bool) (s : State) : (s.warmStart pin).TargetsAgree := by
  obtain ⟨v, -, warmed⟩ := s.warmStart_eq pin
  rw [warmed]
  exact fun ch => State.settled_of_settleTarget (resolved_whole (s.resumed pin) ch)

theorem State.TargetsSettled.endStarting {s : State} (settled : s.TargetsSettled) (pin : Bool) :
    (s.endStarting pin).TargetsSettled := by
  unfold State.endStarting
  split
  · split
    · exact fun _ => s.coldStart_targetsAgree pin
    · exact fun _ => s.warmStart_targetsAgree pin
  · exact settled

/-! ### Every row and every step -/

/-- The resolver's rows leave the supervisor. -/
theorem exec_sup_of_resolvesTargets {c : Instr} {s t : State} (hd : resolvesTargets c = true) (h : exec c s = .next t) :
    t.sup = s.sup := by
  have beside : writesTime c = false ∧ movesSupervisor c = false := by
    cases c with
    | reResolutionRequest _ | appliedLevelReport _ | setFallback | configureChannel => exact ⟨rfl, rfl⟩
    | _ => cases hd
  exact State.sup_of_timeView (exec_timeView beside.1 beside.2 h)

theorem exec_targetsSettled {c : Instr} {s t : State} (settled : s.TargetsSettled) (h : exec c s = .next t) :
    t.TargetsSettled := by
  cases hd : resolvesTargets c with
  | true =>
    have sup := exec_sup_of_resolvesTargets hd h
    exact fun running => exec_targetsAgree hd (settled (sup ▸ running)) h
  | false =>
    cases hw : switchesChannels c with
    | true => exact settled.of_view (exec_resolutionView_of_switches hw h)
    | false =>
      cases hm : movesSupervisor c with
      | true => exact exec_targetsSettled_of_movesSupervisor hm settled h
      | false =>
        cases hr : remakesStore c with
        | false => exact settled.of_view (State.resolutionView_of_driving (exec_driving hd hw hm hr h))
        | true =>
          obtain supply | ends := (Bool.or_eq_true ..).mp hr
          · obtain ⟨vdd, vbat, rfl⟩ := exec_supplyLevels supply h
            exact settled.takeLevels vdd vbat
          · obtain ⟨pin, rfl⟩ := endsStart_iff.mp ends
            rw [← Host.Outcome.next.inj h]
            exact settled.endStarting pin

/-- A member whose settled target is not 0 holds its group (R87). -/
theorem State.settled.holds {s : State} {ch : Chan} {g : Group} (settled : s.settled ch)
    (member : (s.chan ch).group = some g) (driven : s.results[ch].target ≠ 0) : s.holders[g.idx] = some ch := by
  unfold State.settled at settled
  by_contra other
  simp only [member, if_neg other] at settled
  exact driven settled.1

/-- Settles O9: a step is a row on the queue's rest, which the invariant does not speak of; and two members with non-zero targets
both hold the group. -/
theorem everyStepKeepsTheTargetsSettled : Obligations.EveryStepKeepsTheTargetsSettled := by
  refine ⟨fun s t settled h => ?_, fun s g a b settled running memberA memberB drivenA drivenB => ?_⟩
  · unfold step at h
    split at h
    · rwa [← Host.Outcome.next.inj h]
    · rename_i c rest _
      exact exec_targetsSettled (s := { s with pending := rest }) settled h
  · have holdsA := (settled running a).holds memberA drivenA
    have holdsB := (settled running b).holds memberB drivenB
    exact Option.some.inj (holdsA.symm.trans holdsB)

end Sys2Proof.Machine
end

section
/-! The ranking of a channel's candidates (R83 to R85): which records are candidates, and the order in which they stand. -/

namespace Sys2Proof.Machine

/-! ### The order of programs (R84) -/

/-- Program `a` stands before program `b`: higher priority, then the later stamp, then the lower handle (R84). -/
def ProgCand.Before (now : RunCount) (a b : ProgCand) : Prop :=
  b.priority < a.priority ∨ (a.priority = b.priority ∧
    ((now - a.stamp).toNat < (now - b.stamp).toNat ∨ (a.stamp = b.stamp ∧ a.slot < b.slot)))

/-- Stamps of one age are one stamp. -/
theorem age_eq_iff (now a b : RunCount) : age now a = age now b ↔ a = b := by
  rw [age, age, BitVec.toNat_inj, BitVec.sub_right_inj]

theorem ProgCand.standsBefore_iff (now : RunCount) (a b : ProgCand) : a.standsBefore now b = true ↔ a.Before now b := by
  rw [ProgCand.standsBefore, decide_eq_true_iff, age_eq_iff]
  rfl

theorem ProgCand.Before.trans {now : RunCount} {a b c : ProgCand} (hab : a.Before now b) (hbc : b.Before now c) :
    a.Before now c := by
  simp only [ProgCand.Before, ← age_eq_iff now, age, Fin.ext_iff, Fin.lt_def] at *
  omega

/-- Of two programs of different slots one stands before the other. -/
theorem ProgCand.before_of_not_before {now : RunCount} {a b : ProgCand} (apart : a.slot ≠ b.slot) (h : ¬a.Before now b) :
    b.Before now a := by
  simp only [ProgCand.Before, ← age_eq_iff now, age, Fin.ext_iff, Fin.lt_def, ne_eq] at *
  omega

/-! ### The sorted list -/

theorem insertProg_perm (now : RunCount) (c : ProgCand) (l : List ProgCand) : (insertProg now c l).Perm (c :: l) := by
  induction l with
  | nil => rfl
  | cons d l ih =>
    rw [insertProg]
    split
    · rfl
    · exact (ih.cons d).trans (List.Perm.swap c d l)

theorem sortProgs_perm (now : RunCount) (cs : List ProgCand) : (sortProgs now cs).Perm cs := by
  induction cs with
  | nil => rfl
  | cons c cs ih => exact (insertProg_perm now c _).trans (ih.cons c)

theorem insertProg_sorted {now : RunCount} {c : ProgCand} {l : List ProgCand} (sorted : l.Pairwise (·.Before now ·))
    (apart : ∀ d ∈ l, c.slot ≠ d.slot) : (insertProg now c l).Pairwise (·.Before now ·) := by
  induction l with
  | nil => exact List.pairwise_singleton ..
  | cons d l ih =>
    obtain ⟨first, rest⟩ := List.pairwise_cons.mp sorted
    rw [insertProg]
    split
    · rename_i before
      have before := (ProgCand.standsBefore_iff now c d).mp before
      refine List.pairwise_cons.mpr ⟨fun e he => ?_, sorted⟩
      obtain rfl | he := List.mem_cons.mp he
      · exact before
      · exact before.trans (first e he)
    · rename_i after
      have before := ProgCand.before_of_not_before (apart d List.mem_cons_self)
        fun h => after ((ProgCand.standsBefore_iff now c d).mpr h)
      refine List.pairwise_cons.mpr ⟨fun e he => ?_, ih rest fun e he => apart e (List.mem_cons_of_mem d he)⟩
      obtain rfl | he := List.mem_cons.mp ((insertProg_perm now c l).mem_iff.mp he)
      · exact before
      · exact first e he

theorem sortProgs_sorted {now : RunCount} {cs : List ProgCand} (apart : cs.Pairwise (·.slot ≠ ·.slot)) :
    (sortProgs now cs).Pairwise (·.Before now ·) := by
  induction cs with
  | nil => exact List.Pairwise.nil
  | cons c cs ih =>
    obtain ⟨first, rest⟩ := List.pairwise_cons.mp apart
    exact insertProg_sorted (ih rest) fun d hd => first d ((sortProgs_perm now cs).mem_iff.mp hd)

/-! ### The candidates (R83) -/

/-- The candidate that a slot of the Program Table gives a channel. -/
def programCandAt (t : Vector ProgSlot 96) (ch : Chan) (i : ProgIdx) : Option ProgCand :=
  match t[i].live with
  | some r => match r.state with
    | .active since =>
      if r.defn.targets.getLsbD ch.val then some ⟨i, t[i].gen, r.defn.priority, r.defn.level, since⟩ else none
    | .disabled | .untimed | .waiting | .suppressed => none
  | none => none

theorem programCands_eq (t : Vector ProgSlot 96) (ch : Chan) :
    programCands t ch = (List.finRange 96).filterMap (programCandAt t ch) := rfl

theorem programCandAt_eq_some {t : Vector ProgSlot 96} {ch : Chan} {i : ProgIdx} {c : ProgCand} :
    programCandAt t ch i = some c ↔ ∃ (r : ProgRec) (since : RunCount), t[i].live = some r ∧ r.state = .active since ∧
      r.defn.targets.getLsbD ch.val = true ∧ c = ⟨i, t[i].gen, r.defn.priority, r.defn.level, since⟩ := by
  constructor
  · intro h
    unfold programCandAt at h
    split at h
    · rename_i r live
      split at h
      · rename_i since state
        split at h
        · rename_i targeted
          exact ⟨r, since, live, state, targeted, (Option.some.inj h).symm⟩
        · cases h
      all_goals cases h
    · cases h
  · rintro ⟨r, since, live, state, targeted, rfl⟩
    simp only [programCandAt, live, state, if_pos targeted]

theorem programCandAt_slot {t : Vector ProgSlot 96} {ch : Chan} {i : ProgIdx} {c : ProgCand}
    (h : programCandAt t ch i = some c) : c.slot = i := by
  obtain ⟨r, since, -, -, -, rfl⟩ := programCandAt_eq_some.mp h
  rfl

theorem mem_programCands (t : Vector ProgSlot 96) (ch : Chan) (c : ProgCand) :
    c ∈ programCands t ch ↔ programCandAt t ch c.slot = some c := by
  rw [programCands_eq, List.mem_filterMap]
  constructor
  · rintro ⟨i, -, h⟩
    rwa [programCandAt_slot h]
  · exact fun h => ⟨c.slot, List.mem_finRange _, h⟩

theorem programCands_apart (t : Vector ProgSlot 96) (ch : Chan) : (programCands t ch).Pairwise (·.slot ≠ ·.slot) := by
  rw [programCands_eq, List.pairwise_filterMap]
  refine (List.nodup_finRange 96).imp fun {i j} apart c hc d hd => ?_
  rwa [programCandAt_slot hc, programCandAt_slot hd]

/-- The candidate that a slot of the Override Table gives a channel. -/
def overrideCandAt (t : Vector OvrSlot 16) (ch : Chan) (i : OvrIdx) : Option Candidate :=
  match t[i].live with
  | some r => if r.channels.getLsbD ch.val then some (.override ⟨i, t[i].gen, r.level, r.origin⟩) else none
  | none => none

theorem overrideCands_eq (t : Vector OvrSlot 16) (ch : Chan) :
    overrideCands t ch = (List.finRange 16).filterMap (overrideCandAt t ch) := rfl

theorem overrideCandAt_eq_some {t : Vector OvrSlot 16} {ch : Chan} {i : OvrIdx} {c : Candidate} :
    overrideCandAt t ch i = some c ↔ ∃ r : OvrRec, t[i].live = some r ∧ r.channels.getLsbD ch.val = true ∧
      c = .override ⟨i, t[i].gen, r.level, r.origin⟩ := by
  constructor
  · intro h
    unfold overrideCandAt at h
    split at h
    · rename_i r live
      split at h
      · rename_i held
        exact ⟨r, live, held, (Option.some.inj h).symm⟩
      · cases h
    · cases h
  · rintro ⟨r, live, held, rfl⟩
    simp only [overrideCandAt, live, if_pos held]

/-- The override candidates of a channel are the live records that hold it. -/
theorem mem_overrideCands (t : Vector OvrSlot 16) (ch : Chan) (c : OvrCand) :
    .override c ∈ overrideCands t ch ↔ ∃ r : OvrRec, t[c.slot].live = some r ∧ r.channels.getLsbD ch.val = true ∧
      c = ⟨c.slot, t[c.slot].gen, r.level, r.origin⟩ := by
  rw [overrideCands_eq, List.mem_filterMap]
  constructor
  · rintro ⟨i, -, h⟩
    obtain ⟨r, live, held, hc⟩ := overrideCandAt_eq_some.mp h
    obtain rfl := Candidate.override.inj hc
    exact ⟨r, live, held, rfl⟩
  · rintro ⟨r, live, held, hc⟩
    exact ⟨c.slot, List.mem_finRange _, overrideCandAt_eq_some.mpr ⟨r, live, held, congrArg _ hc⟩⟩

/-- Where the live sets are apart, at most one override holds a channel (R48, R83). -/
theorem overrideCands_length {t : Vector OvrSlot 16} (sound : TableApart t) (ch : Chan) :
    (overrideCands t ch).length ≤ 1 := by
  have alone : (overrideCands t ch).Pairwise fun _ _ => False := by
    rw [overrideCands_eq, List.pairwise_filterMap]
    refine (List.nodup_finRange 16).imp fun {i j} apart c hc d hd => ?_
    obtain ⟨r, live, held, -⟩ := overrideCandAt_eq_some.mp hc
    obtain ⟨r', live', held', -⟩ := overrideCandAt_eq_some.mp hd
    have disjoint := (chanSet_apart_iff _ _).mp (sound.apart i j apart) ch
    rw [OvrSlot.channels_live live, OvrSlot.channels_live live'] at disjoint
    exact Bool.false_ne_true ((disjoint held).symm.trans held')
  match overrideCands t ch, alone with
  | [], _ => exact Nat.zero_le 1
  | [_], _ => exact Nat.le_refl 1
  | c :: d :: _, alone => exact absurd ((List.pairwise_cons.mp alone).1 d List.mem_cons_self) id

/-! ### The verdict (R85) -/

/-- The verdict is the first of the programs in their order, or the fallback. -/
theorem verdictOf_eq (s : State) (ch : Chan) :
    verdictOf s ch = match sortProgs s.runCount (programCands s.ret.programs ch) with
      | [] => ⟨.fallback, (s.chan ch).fallback⟩
      | p :: _ => ⟨.program p.slot p.gen, p.level⟩ := by
  unfold verdictOf programRanking firstOf
  cases sortProgs s.runCount (programCands s.ret.programs ch) <;> rfl

/-- Settles O37: the programs are the candidates sorted, and sorting by an order that is total on different slots keeps each
candidate once. -/
theorem theRankingIsATotalOrder : Obligations.TheRankingIsATotalOrder := by
  intro s ch
  have sorted := sortProgs_sorted (now := s.runCount) (programCands_apart s.ret.programs ch)
  have perm := sortProgs_perm s.runCount (programCands s.ret.programs ch)
  refine ⟨sortProgs s.runCount (programCands s.ret.programs ch), ?_, ?_, fun c => ?_, sorted, fun c => ?_,
    fun sound => overrideCands_length sound.table ch, verdictOf_eq s ch⟩
  · rw [ranking, programRanking, List.append_assoc]
  · exact perm.nodup_iff.mpr ((programCands_apart s.ret.programs ch).imp fun apart same => apart (congrArg _ same))
  · rw [perm.mem_iff, mem_programCands, programCandAt_eq_some]
  · rw [← mem_overrideCands, ranking, programRanking]
    simp

end Sys2Proof.Machine
end

section
/-! Arbitration of a group (R86): its contenders, and the strongest of them. -/

namespace Sys2Proof.Machine

theorem mem_contenders (s : State) (res : Vector Resolution 16) (g : Group) (ch : Chan) :
    ch ∈ contenders s res g ↔ (s.chan ch).group = some g ∧ res[ch].level ≠ 0 := by
  simp [-Fin.getElem_fin, contenders]

/-- The contenders stand in channel order. -/
theorem contenders_ascending (s : State) (res : Vector Resolution 16) (g : Group) :
    (contenders s res g).Pairwise (· < ·) := (List.pairwise_lt_finRange 16).filter _

/-- A contender's strength in arbitration: its rank, and among equal ranks whether its applied level is not 0 (R86). -/
def might (s : State) (res : Vector Resolution 16) (ch : Chan) : Nat :=
  2 * res[ch].rank.strength + if s.sw[ch].applied = 0 then 0 else 1

theorem beats_iff (s : State) (res : Vector Resolution 16) (a b : Chan) :
    beats s res a b = true ↔ might s res a < might s res b := by
  rw [beats, decide_eq_true_iff, might, might]
  split <;> split <;> simp_all <;> omega

/-- The strongest of a list in channel order: none has more might, and none of its might stands before it. -/
theorem strongest_spec (s : State) (res : Vector Resolution 16) (a : Chan) (l : List Chan)
    (ascending : (a :: l).Pairwise (· < ·)) :
    strongest s res a l ∈ a :: l ∧ ∀ ch ∈ a :: l, might s res ch ≤ might s res (strongest s res a l) ∧
      (might s res ch = might s res (strongest s res a l) → strongest s res a l ≤ ch) := by
  induction l generalizing a with
  | nil => simp [strongest]
  | cons b l ih =>
    obtain ⟨first, rest⟩ := List.pairwise_cons.mp ascending
    have ab : a < b := first b List.mem_cons_self
    rw [strongest]
    by_cases beaten : beats s res a b = true
    · obtain ⟨mem, spec⟩ := ih b rest
      rw [if_pos beaten]
      refine ⟨List.mem_cons_of_mem a mem, List.forall_mem_cons.mpr ⟨?_, spec⟩⟩
      have less := (beats_iff s res a b).mp beaten
      have most := (spec b List.mem_cons_self).1
      exact ⟨by omega, fun tied => by omega⟩
    · have sorted : (a :: l).Pairwise (· < ·) := List.pairwise_cons.mpr
        ⟨fun c hc => first c (List.mem_cons_of_mem b hc), (List.pairwise_cons.mp rest).2⟩
      obtain ⟨mem, spec⟩ := ih a sorted
      obtain ⟨mine, others⟩ := List.forall_mem_cons.mp spec
      rw [if_neg beaten]
      have least := (beats_iff s res a b).not.mp beaten
      refine ⟨List.mem_cons.mpr ((List.mem_cons.mp mem).imp_right (List.mem_cons_of_mem b)),
        List.forall_mem_cons.mpr ⟨mine, List.forall_mem_cons.mpr ⟨⟨by omega, fun tied => ?_⟩, others⟩⟩⟩
      exact (mine.2 (by omega)).trans ab.le

/-- Settles O38: the holder is the strongest contender, might being rank before a driven output, and the first of the tied. -/
theorem arbitrationChoosesTheHolder : Obligations.ArbitrationChoosesTheHolder := by
  intro s res g contender
  have none_iff : arbitrate s res g = none ↔ contenders s res g = [] := by
    unfold arbitrate
    cases contenders s res g <;> simp
  refine ⟨?_, fun h holder => ?_, fun p q => ?_⟩
  · simp only [none_iff, List.eq_nil_iff_forall_not_mem, mem_contenders, contender]
  · have ascending := contenders_ascending s res g
    have members (ch : Chan) (hc : contender ch) : ch ∈ contenders s res g := (mem_contenders s res g ch).mpr hc
    unfold arbitrate at holder
    cases hl : contenders s res g with
    | nil => simp [hl] at holder
    | cons a l =>
      simp only [hl, Option.some.injEq] at holder
      rw [hl] at ascending members
      obtain ⟨mem, spec⟩ := strongest_spec s res a l ascending
      rw [holder] at mem spec
      refine ⟨(mem_contenders s res g h).mp (hl ▸ mem), fun ch hc => ?_⟩
      obtain ⟨most, first⟩ := spec ch (members ch hc)
      unfold might at most first
      refine ⟨by split_ifs at most <;> omega, fun tied => ⟨fun driven => ?_, fun alike => first ?_⟩⟩
      · rw [if_neg driven] at most
        split_ifs at most with undriven
        · omega
        · exact undriven
      · rw [tied, if_congr alike rfl rfl]
  · simp only [Rank.strength, Fin.lt_def]
    omega

end Sys2Proof.Machine
end

section
/-! Two events of the resolver: the results and holders after both are those of their joint scope, in either order (R93). -/

namespace Sys2Proof.Machine

/-- A scope that names beside its ranked channels only the groups it arbitrates, every group of a ranked channel among them: that of
a request or of a report (R88, R89). -/
structure Scope.Closed (sc : Scope) (s : State) : Prop where
  also : sc.also = 0
  groups : ∀ (ch : Chan) (g : Group), sc.ranked.getLsbD ch.val = true → (s.chan ch).group = some g → g ∈ sc.groups

/-- The joint scope of two. -/
structure Scope.Joins (c a b : Scope) : Prop where
  ranked : ∀ ch : Chan, c.ranked.getLsbD ch.val = (a.ranked.getLsbD ch.val || b.ranked.getLsbD ch.val)
  groups : ∀ g : Group, g ∈ c.groups ↔ g ∈ a.groups ∨ g ∈ b.groups
  also : c.also = 0

theorem Scope.Joins.symm {a b c : Scope} (joins : c.Joins a b) : c.Joins b a where
  ranked ch := by rw [joins.ranked, Bool.or_comm]
  groups g := by rw [joins.groups, or_comm]
  also := joins.also

/-- The scope of two closed ones taken together. -/
def Scope.join (a b : Scope) : Scope := ⟨a.ranked ||| b.ranked, a.groups ++ b.groups, 0⟩

theorem Scope.join_joins (a b : Scope) : (a.join b).Joins a b where
  ranked _ := BitVec.getLsbD_or
  groups _ := List.mem_append
  also := rfl

/-- A channel beside a closed scope is not ranked, and its group is not arbitrated. -/
theorem Scope.Closed.inScope_iff {sc : Scope} {s : State} (closed : sc.Closed s) (ch : Chan) :
    inScope s sc ch = true ↔ sc.ranked.getLsbD ch.val = true ∨ ∃ g ∈ sc.groups, (s.chan ch).group = some g := by
  rw [Machine.inScope_iff, closed.also, chanSet_zero_getLsbD]
  simp only [Bool.false_eq_true, false_or]

section Twice

variable {a b c : Scope} {s u : State}

/-- An event that follows another ranks what the joint scope ranks. -/
theorem rankedResults_twice (first : ResolvesScope a s u) (joins : c.Joins a b) (ch : Chan) :
    (rankedResults u b)[ch].ranked = (rankedResults s c)[ch].ranked := by
  rw [rankedResults_ranked, rankedResults_ranked, joins.ranked, first.results, resolved_ranked, rankedResults_ranked]
  cases b.ranked.getLsbD ch.val with
  | true =>
    rw [Bool.or_true, if_pos rfl, if_pos rfl]
    exact rankAfresh_ranked_congr first.ret first.runCount ch _ _
  | false => rw [Bool.or_false, if_neg Bool.false_ne_true]

/-- It arbitrates its own groups on the joint ranking, and the groups of the first event's alone keep the holder of the joint
ranking, for the second ranks no member of theirs. -/
theorem arbitratedHolders_twice (first : ResolvesScope a s u) (closed : b.Closed s) (joins : c.Joins a b) (g : Group) :
    (arbitratedHolders u b)[g.idx] = (arbitratedHolders s c)[g.idx] := by
  rw [arbitratedHolders_getElem, arbitratedHolders_getElem]
  by_cases second : g ∈ b.groups
  · rw [if_pos second, if_pos ((joins.groups g).mpr (.inr second))]
    exact arbitrate_congr_members first.ret first.sw fun ch _ => rankedResults_twice first joins ch
  · rw [if_neg second, first.holders, arbitratedHolders_getElem]
    refine ite_congr (by rw [joins.groups, or_iff_left second]) (fun _ => ?_) fun _ => rfl
    refine arbitrate_congr_members rfl rfl fun ch own => ?_
    have unranked : b.ranked.getLsbD ch.val = false :=
      Bool.eq_false_iff.mpr fun ranked => second (closed.groups ch g ranked own)
    rw [rankedResults_ranked, rankedResults_ranked, joins.ranked, unranked, Bool.or_false]

/-- The results after both are those of the joint scope. -/
theorem resolved_twice (first : ResolvesScope a s u) (closedA : a.Closed s) (closedB : b.Closed s) (joins : c.Joins a b) :
    resolved u b = resolved s c := by
  have chan (ch : Chan) : u.chan ch = s.chan ch := by rw [State.chan, State.chan, first.ret]
  have closedC : c.Closed s := ⟨joins.also, fun ch g ranked own => (joins.groups g).mpr <| by
    rw [joins.ranked, Bool.or_eq_true] at ranked
    exact ranked.imp (closedA.groups ch g · own) (closedB.groups ch g · own)⟩
  have either (ch : Chan) : inScope s c ch = true ↔ inScope s a ch = true ∨ inScope s b ch = true := by
    simp only [closedA.inScope_iff, closedB.inScope_iff, closedC.inScope_iff, joins.ranked, joins.groups, Bool.or_eq_true,
      or_and_right, exists_or]
    exact or_or_or_comm
  have second (ch : Chan) : inScope u b ch = inScope s b ch := by rw [inScope, chan, inScope]
  have holders (g : Group) := arbitratedHolders_twice first closedB joins g
  refine Vector.ext fun i hi => ?_
  let ch : Chan := ⟨i, hi⟩
  change (resolved u b)[ch] = (resolved s c)[ch]
  by_cases inB : inScope s b ch = true
  · rw [resolved_inScope ((second ch).trans inB), resolved_inScope ((either ch).mpr (.inr inB))]
    exact settleTarget_congr first.ret (fun g _ => holders g) (rankedResults_twice first joins ch)
  · rw [resolved_outOfScope (by rwa [second]), first.results]
    by_cases inA : inScope s a ch = true
    · rw [resolved_inScope inA, resolved_inScope ((either ch).mpr (.inl inA))]
      rw [closedB.inScope_iff, not_or] at inB
      obtain ⟨unranked, apart⟩ := inB
      refine settleTarget_congr rfl (fun g own => ?_) ?_
      · rw [← holders g, ← first.holders, arbitratedHolders_getElem, if_neg fun mem => apart ⟨g, mem, own⟩]
      · rw [rankedResults_ranked, rankedResults_ranked, joins.ranked, Bool.eq_false_iff.mpr unranked, Bool.or_false]
    · rw [resolved_outOfScope inA, resolved_outOfScope fun inC => ((either ch).mp inC).elim inA inB]

end Twice

/-- The group at a place of the table is one of the four. -/
theorem exists_group_idx (i : Fin 4) : ∃ g : Group, g.idx = i := by
  match i with
  | 0 => exact ⟨.A, rfl⟩
  | 1 => exact ⟨.B, rfl⟩
  | 2 => exact ⟨.C, rfl⟩
  | 3 => exact ⟨.D, rfl⟩

/-- Two tables of the groups are equal where they agree at every group. -/
theorem groupTable_ext {α : Type} {v w : Vector α 4} (h : ∀ g : Group, v[g.idx] = w[g.idx]) : v = w := by
  have same (i : Fin 4) : v[i] = w[i] := by
    obtain ⟨g, rfl⟩ := exists_group_idx i
    exact h g
  exact Vector.ext fun i hi => same ⟨i, hi⟩

/-- Two events with closed scopes leave the same results and holders in either order (R93). -/
theorem ResolvesScope.commute {a b : Scope} {s u v x y : State} (closedA : a.Closed s) (closedB : b.Closed s)
    (au : ResolvesScope a s u) (bv : ResolvesScope b u v) (bx : ResolvesScope b s x) (ay : ResolvesScope a x y) :
    v.results = y.results ∧ v.holders = y.holders := by
  have joins := a.join_joins b
  constructor
  · rw [bv.results, ay.results, resolved_twice au closedA closedB joins, resolved_twice bx closedB closedA joins.symm]
  · rw [bv.holders, ay.holders]
    refine groupTable_ext fun g => ?_
    rw [arbitratedHolders_twice au closedB joins, arbitratedHolders_twice bx closedA joins.symm]

end Sys2Proof.Machine
end

section
/-! RE_RESOLUTION_REQUEST and APPLIED_LEVEL_REPORT (R88 to R93), and what the resolver hands on (R90, R91). -/

namespace Sys2Proof.Machine

/-! ### Hand-offs and verdict reports (R90, R91) -/

/-- A list of the channels that pass a test, each with a value, stands in channel order. -/
theorem changedChannels_ascending {α : Type} (p : Chan → Bool) (value : Chan → α) :
    ((((List.finRange 16).filter p).map fun ch => (ch, value ch)).map (·.1)).Pairwise (· < ·) := by
  rw [List.map_map, List.pairwise_map]
  exact (List.pairwise_lt_finRange 16).filter p

theorem mem_changedChannels {α : Type} (p : Chan → Bool) (value : Chan → α) (ch : Chan) (a : α) :
    (ch, a) ∈ ((List.finRange 16).filter p).map (fun ch => (ch, value ch)) ↔ p ch = true ∧ a = value ch := by
  simp only [List.mem_map, List.mem_filter, List.mem_finRange, true_and, Prod.mk.injEq]
  constructor
  · rintro ⟨_, passes, rfl, rfl⟩
    exact ⟨passes, rfl⟩
  · exact fun ⟨passes, same⟩ => ⟨ch, passes, rfl, same.symm⟩

theorem mem_handOffOf (before after : Vector Resolution 16) (ch : Chan) (l : Level) :
    (ch, l) ∈ handOffOf before after ↔ before[ch].target ≠ after[ch].target ∧ l = after[ch].target := by
  rw [handOffOf, mem_changedChannels, decide_eq_true_iff]

theorem mem_verdictReportOf (before after : Vector Resolution 16) (ch : Chan) (v : Verdict) :
    (ch, v) ∈ verdictReportOf before after ↔ before[ch].verdict ≠ after[ch].verdict ∧ v = after[ch].verdict := by
  rw [verdictReportOf, mem_changedChannels, decide_eq_true_iff]

/-! ### The scopes of a request and of a report -/

/-- The groups of an event are those that have one of its channels as a member (R88, R89). -/
theorem mem_groupsOf (s : State) (cs : ChanSet) (g : Group) :
    g ∈ groupsOf s cs ↔ ∃ ch : Chan, cs.getLsbD ch.val = true ∧ (s.chan ch).group = some g := by
  simp only [groupsOf, List.mem_filter, group_mem_all, true_and, List.any_eq_true, mem_chansOf, decide_eq_true_iff]

/-- The scope of a request (R89). -/
def requestScope (s : State) (cs : ChanSet) : Scope := ⟨cs, groupsOf s cs, 0⟩

/-- The scope of an applied-level report (R88). -/
def reportScope (s : State) (cs : ChanSet) : Scope := ⟨0, groupsOf s cs, 0⟩

theorem requestScope_closed (s : State) (cs : ChanSet) : (requestScope s cs).Closed s where
  also := rfl
  groups ch g ranked own := (mem_groupsOf s cs g).mpr ⟨ch, ranked, own⟩

theorem reportScope_closed (s : State) (cs : ChanSet) : (reportScope s cs).Closed s where
  also := rfl
  groups ch _ ranked := absurd ((chanSet_zero_getLsbD ch).symm.trans ranked) Bool.false_ne_true

theorem groupsOf_congr {s t : State} (ret : t.ret = s.ret) (cs : ChanSet) : groupsOf t cs = groupsOf s cs := by
  unfold groupsOf State.chan
  rw [ret]

/-! ### The events -/

theorem State.takeRequestAt_some {s : State} {place : Nat} {cs : ChanSet} (waits : s.mail.requests[place]? = some cs) :
    s.takeRequestAt place =
      State.resolve (requestScope s cs) { s with mail := { s.mail with requests := s.mail.requests.eraseIdx place } } := by
  unfold State.takeRequestAt
  rw [waitingAt_eq_some.mpr ⟨waits, rfl⟩]
  rfl

theorem State.takeRequestAt_none {s : State} {place : Nat} (waits : s.mail.requests[place]? = none) :
    s.takeRequestAt place = s := by
  unfold State.takeRequestAt
  rw [waitingAt_eq_none.mpr waits]

theorem State.takeLevelsAt_some {s : State} {place : Nat} {cs : ChanSet} (waits : s.mail.levelReports[place]? = some cs) :
    s.takeLevelsAt place =
      State.resolve (reportScope s cs)
        { s with mail := { s.mail with levelReports := s.mail.levelReports.eraseIdx place } } := by
  unfold State.takeLevelsAt
  rw [waitingAt_eq_some.mpr ⟨waits, rfl⟩]
  rfl

theorem State.takeLevelsAt_none {s : State} {place : Nat} (waits : s.mail.levelReports[place]? = none) :
    s.takeLevelsAt place = s := by
  unfold State.takeLevelsAt
  rw [waitingAt_eq_none.mpr waits]

/-- What an event takes from the mail is not what the resolver reads. -/
theorem State.resolve_mail_scope (sc : Scope) (m : Mail) (s : State) :
    ResolvesScope sc s (State.resolve sc { s with mail := m }) :=
  (State.resolve_scope sc { s with mail := m }).of_before rfl rfl rfl rfl rfl

theorem State.takeRequestAt_scope {s : State} {place : Nat} {cs : ChanSet} (waits : s.mail.requests[place]? = some cs) :
    ResolvesScope (requestScope s cs) s (s.takeRequestAt place) := by
  rw [State.takeRequestAt_some waits]
  exact s.resolve_mail_scope ..

theorem State.takeLevelsAt_scope {s : State} {place : Nat} {cs : ChanSet} (waits : s.mail.levelReports[place]? = some cs) :
    ResolvesScope (reportScope s cs) s (s.takeLevelsAt place) := by
  rw [State.takeLevelsAt_some waits]
  exact s.resolve_mail_scope ..

/-- A request leaves the reports that wait, and the supervisor. -/
theorem State.takeRequestAt_levelReports (place : Nat) (s : State) :
    (s.takeRequestAt place).mail.levelReports = s.mail.levelReports := by
  cases waits : s.mail.requests[place]? with
  | none => rw [State.takeRequestAt_none waits]
  | some cs => rw [State.takeRequestAt_some waits, State.resolve_eq]

/-- A report leaves the requests that wait. -/
theorem State.takeLevelsAt_requests (place : Nat) (s : State) :
    (s.takeLevelsAt place).mail.requests = s.mail.requests := by
  cases waits : s.mail.levelReports[place]? with
  | none => rw [State.takeLevelsAt_none waits]
  | some cs => rw [State.takeLevelsAt_some waits, State.resolve_eq]

theorem exec_reResolutionRequest {s : State} (running : s.sup.state = .running) (place : Nat) :
    exec (.reResolutionRequest place) s = .next (s.takeRequestAt place) := next_whileRunning running rfl

theorem exec_appliedLevelReport {s : State} (running : s.sup.state = .running) (place : Nat) :
    exec (.appliedLevelReport place) s = .next (s.takeLevelsAt place) := next_whileRunning running rfl

/-- Two requests that wait are taken in either order (R93). -/
theorem State.takeRequestAt_commute {s : State} {a b : ChanSet} {rest : List ChanSet} (waits : s.mail.requests = a :: b :: rest) :
    ((s.takeRequestAt 0).takeRequestAt 0).results = ((s.takeRequestAt 1).takeRequestAt 0).results ∧
      ((s.takeRequestAt 0).takeRequestAt 0).holders = ((s.takeRequestAt 1).takeRequestAt 0).holders := by
  have first : s.mail.requests[0]? = some a := by rw [waits]; rfl
  have second : s.mail.requests[1]? = some b := by rw [waits]; rfl
  have thenB : (s.takeRequestAt 0).mail.requests[0]? = some b := by
    rw [State.takeRequestAt_some first, State.resolve_eq]
    simp only [waits]
    rfl
  have thenA : (s.takeRequestAt 1).mail.requests[0]? = some a := by
    rw [State.takeRequestAt_some second, State.resolve_eq]
    simp only [waits]
    rfl
  have au := State.takeRequestAt_scope first
  have bx := State.takeRequestAt_scope second
  have bv := State.takeRequestAt_scope thenB
  have ay := State.takeRequestAt_scope thenA
  rw [requestScope, groupsOf_congr au.ret] at bv
  rw [requestScope, groupsOf_congr bx.ret] at ay
  exact au.commute (requestScope_closed s a) (requestScope_closed s b) bv bx ay

/-- A request and a report that wait are taken in either order (R93). -/
theorem State.takeRequestAt_takeLevelsAt_commute (p q : Nat) (s : State) :
    ((s.takeRequestAt p).takeLevelsAt q).results = ((s.takeLevelsAt q).takeRequestAt p).results ∧
      ((s.takeRequestAt p).takeLevelsAt q).holders = ((s.takeLevelsAt q).takeRequestAt p).holders := by
  have reports := s.takeRequestAt_levelReports p
  have requests := s.takeLevelsAt_requests q
  cases request : s.mail.requests[p]? with
  | none => rw [State.takeRequestAt_none request, State.takeRequestAt_none (requests ▸ request)]; exact ⟨rfl, rfl⟩
  | some cs =>
    cases report : s.mail.levelReports[q]? with
    | none => rw [State.takeLevelsAt_none report, State.takeLevelsAt_none (reports ▸ report)]; exact ⟨rfl, rfl⟩
    | some ls =>
      have au := State.takeRequestAt_scope request
      have bx := State.takeLevelsAt_scope report
      have bv := State.takeLevelsAt_scope (reports ▸ report)
      have ay := State.takeRequestAt_scope (requests ▸ request)
      rw [reportScope, groupsOf_congr au.ret] at bv
      rw [requestScope, groupsOf_congr bx.ret] at ay
      exact au.commute (requestScope_closed s cs) (reportScope_closed s ls) bv bx ay

/-- Settles O39: a request and a report are events of their scopes, and closed scopes commute. -/
theorem theResolverTakesItsEvents : Obligations.TheResolverTakesItsEvents := by
  refine ⟨fun before after => ⟨changedChannels_ascending .., mem_handOffOf before after, changedChannels_ascending ..,
      mem_verdictReportOf before after⟩, fun s place cs running waits => ?_, fun s place cs running waits => ?_,
    fun s a b rest running waits => ?_, fun s p q running => ?_⟩
  · refine ⟨_, groupsOf s cs, exec_reResolutionRequest running place, mem_groupsOf s cs, ?_, ?_, ?_⟩
    · exact (State.takeRequestAt_scope waits).resolves rfl rfl
    · rw [State.takeRequestAt_some waits]
      exact State.resolve_concludes _ rfl rfl rfl rfl
    · rw [State.takeRequestAt_some waits, State.resolve_eq]
  · refine ⟨_, groupsOf s cs, exec_appliedLevelReport running place, mem_groupsOf s cs, ?_, ?_, ?_⟩
    · exact (State.takeLevelsAt_scope waits).resolves rfl rfl
    · rw [State.takeLevelsAt_some waits]
      exact State.resolve_concludes _ rfl rfl rfl rfl
    · rw [State.takeLevelsAt_some waits, State.resolve_eq]
  · have sup (place : Nat) : (s.takeRequestAt place).sup.state = .running := by
      rwa [State.sup_of_timeView (State.takeRequestAt_timeView place s)]
    exact ⟨_, _, _, _, exec_reResolutionRequest running 0, exec_reResolutionRequest (sup 0) 0,
      exec_reResolutionRequest running 1, exec_reResolutionRequest (sup 1) 0, State.takeRequestAt_commute waits⟩
  · have requested : (s.takeRequestAt p).sup.state = .running := by
      rwa [State.sup_of_timeView (State.takeRequestAt_timeView p s)]
    have reported : (s.takeLevelsAt q).sup.state = .running := by
      rwa [State.sup_of_timeView (State.takeLevelsAt_timeView q s)]
    exact ⟨_, _, _, _, exec_reResolutionRequest running p, exec_appliedLevelReport requested q,
      exec_appliedLevelReport running q, exec_reResolutionRequest reported p, s.takeRequestAt_takeLevelsAt_commute p q⟩

end Sys2Proof.Machine
end

section
/-! SET FALLBACK and CONFIGURE CHANNEL (R77, R78, R80, R203, R205): the item replaced, and the event it brings. -/

namespace Sys2Proof.Machine

/-! ### The event and the answer -/

/-- The answer to a command is not what the resolver reads. -/
theorem ResolvesScope.answered {sc : Scope} {s t : State} (h : ResolvesScope sc s t) (code : Byte) (result : ResultCode)
    (payload : List Byte) : ResolvesScope sc s (t.answered code result payload) :=
  ⟨h.results, h.holders, h.ret, h.runCount, h.sw⟩

theorem Concludes.answered {s t : State} (h : Concludes s t) (code : Byte) (result : ResultCode) (payload : List Byte) :
    Concludes s (t.answered code result payload) := ⟨h.handOff, h.verdicts, h.flags⟩

/-- A channel record replaced with its event leaves everything but what the event reaches and hands on (R159). -/
theorem State.resolve_setChanRec_frame (sc : Scope) (ch : Chan) (r : ChanRec) (code : Byte) (s t : State)
    (h : t = (State.resolve sc (s.setChanRec ch r)).answered code .ok []) : t = { s with
      ret := t.ret
      check := ⟨t.ret⟩
      results := t.results
      holders := t.holders
      att := { s.att with channel := t.att.channel, response := true }
      mail := { s.mail with handOffs := t.mail.handOffs, verdictReports := t.mail.verdictReports }
      link := { s.link with state := t.link.state } } := by
  rw [h, State.resolve_eq]
  rfl

/-! ### SET FALLBACK (R80, R205) -/

theorem readFallback_ok {c l : Byte} {ch : Chan} (hc : c.toNat = ch.val) :
    readFallback [c, l] = .ok (ch, Fin.ofNat 16 l.toNat) := by
  simp only [readFallback, readChanByte_val hc]
  rfl

theorem execSetFallback_ok {s : State} {c l : Byte} {ch : Chan} (h : s.holds 0x32 [c, l]) (hc : c.toNat = ch.val) :
    exec .setFallback s = .next ((s.setFallback ch (Fin.ofNat 16 l.toNat)).answered 0x32 .ok []) :=
  next_complete h (by rw [checked_ok (readFallback_ok hc)]; rfl)

/-- The groups of one channel are its own group, if it has one. -/
theorem mem_groupsOf_one (s : State) (ch : Chan) (g : Group) :
    g ∈ groupsOf s (BitVec.twoPow 16 ch.val) ↔ g ∈ (s.chan ch).group.toList := by
  simp only [mem_groupsOf, chan_twoPow_getLsbD, decide_eq_true_iff, exists_eq_left, Option.mem_toList]

/-! ### CONFIGURE CHANNEL (R77, R78, R203) -/

theorem State.mayConfigure_iff (s : State) (c : ChannelConfig) : s.mayConfigure c = true ↔
    (c.kind = .dimmed → c.chan.val < 8) ∧ (s.sw[c.chan].state = .off ∨ s.sw[c.chan].state = .locked) := by
  rw [State.mayConfigure, decide_eq_true_iff, not_and, Nat.not_le]

theorem execConfigureChannel_ok {s : State} {ps : List Byte} {c : ChannelConfig} (h : s.holds 0x30 ps)
    (read : readConfigureChannel ps = .ok c) (may : s.mayConfigure c = true) :
    exec .configureChannel s =
      .next ((s.configureChannel c.chan c.kind c.group c.queueClass).answered 0x30 .ok []) :=
  next_complete h (by rw [ownConfigureChannel, checked_ok read, if_pos may]; rfl)

theorem execConfigureChannel_refused {s : State} {ps : List Byte} {c : ChannelConfig} (h : s.holds 0x30 ps)
    (read : readConfigureChannel ps = .ok c) (may : ¬s.mayConfigure c = true) :
    exec .configureChannel s = .next (s.answered 0x30 .notPermitted []) :=
  next_complete h (by rw [ownConfigureChannel, checked_ok read, if_neg may]; rfl)

/-- Settles O40: each command replaces the channel's record, and its event is a scope of the resolver. -/
theorem channelCommandsReResolve : Obligations.ChannelCommandsReResolve := by
  refine ⟨fun s c l ch h hc => ?_, fun s params c h read => ?_⟩
  · let u := s.setChanRec ch { s.chan ch with fallback := Fin.ofNat 16 l.toNat }
    let sc := requestScope u (BitVec.twoPow 16 ch.val)
    have event : ResolvesScope sc u (u.resolve sc) := u.resolve_scope sc
    have group : (u.chan ch).group = s.ret.channels[ch].group := by
      rw [State.setChanRec_chan, if_pos rfl]
      rfl
    have taken : exec .setFallback s = .next ((u.resolve sc).answered 0x32 .ok []) := execSetFallback_ok h hc
    refine ⟨_, taken, event.ret, ?_, ?_, rfl, State.resolve_setChanRec_frame sc ch _ 0x32 s _ rfl⟩
    · refine ((event.answered 0x32 .ok []).resolves (s := s) rfl rfl).of_groups fun g => ?_
      rw [← group]
      exact (mem_groupsOf_one u ch g).symm
    · exact (State.resolve_concludes sc (s := s) (u := u) rfl rfl rfl rfl).answered ..
  · intro allowed
    refine ⟨fun refused => ?_, fun permitted => ?_⟩
    · exact execConfigureChannel_refused h read fun may => refused ((s.mayConfigure_iff c).mp may)
    · intro old ret
      have taken := execConfigureChannel_ok h read ((s.mayConfigure_iff c).mpr permitted)
      let r : ChanRec := { old with kind := c.kind, group := c.group, queueClass := c.queueClass }
      let u := s.setChanRec c.chan r
      refine ⟨fun same => ?_, fun moved => ?_⟩
      · have change : s.configureChannel c.chan c.kind c.group c.queueClass = u := if_pos same
        rw [taken, change]
        rfl
      · let sc : Scope := ⟨0, membershipGroups old.group c.group, BitVec.twoPow 16 c.chan.val⟩
        have event : ResolvesScope sc u (u.resolve sc) := u.resolve_scope sc
        have change : s.configureChannel c.chan c.kind c.group c.queueClass = u.resolve sc := if_neg moved
        rw [change] at taken
        exact ⟨_, taken, event.ret, (event.answered 0x30 .ok []).resolves (s := s) rfl rfl,
          (State.resolve_concludes sc (s := s) (u := u) rfl rfl rfl rfl).answered .., rfl,
          State.resolve_setChanRec_frame sc c.chan r 0x30 s _ rfl⟩

end Sys2Proof.Machine
end

section
/-! What a changed length ends in its own step (R79, R99, R104, R111, R113, R114): of the waits on a dwell, the ramp and the fade,
the one the channel is in. -/

namespace Sys2Proof.Machine

/-! ### Events of the sequencer -/

/-- An event of the sequencer is made of its change in that part. -/
theorem sequencerEvent_congr {f g : State → State} {s : State} (h : f s = g s) : sequencerEvent f s = sequencerEvent g s := by
  simp only [sequencerEvent, h]

/-- Where one switching record changed, its channel is reported if it is a group member whose applied level came to 0 or from 0
(R115). -/
theorem levelChanges_one {s t : State} {ch : Chan} {w : Switching} (sw : t.sw = s.sw.set ch w) :
    levelChanges s t =
      if (s.chan ch).group.isSome ∧ (s.sw[ch].applied = 0) ≠ (w.applied = 0) then BitVec.twoPow 16 ch.val else 0 := by
  refine chanSet_ext fun c => ?_
  rw [levelChanges, chansWhere_getLsbD, sw, set_getElem]
  by_cases here : c = ch
  · subst here
    rw [if_pos rfl, Bool.eq_iff_iff, Bool.and_eq_true, decide_eq_true_iff]
    split
    · rename_i changes
      rw [chan_twoPow_getLsbD]
      simpa using changes
    · rename_i stays
      rw [chanSet_zero_getLsbD]
      simpa using stays
  · rw [if_neg here]
    split
    · rw [chan_twoPow_getLsbD]
      simp [here]
    · rw [chanSet_zero_getLsbD]
      simp

theorem State.stampGroup_eq (ch : Chan) (s : State) : s.stampGroup ch = { s with
    gapStamps := match (s.chan ch).group with
      | some g => s.gapStamps.set g.idx ⟨s.runCount, false⟩
      | none => s.gapStamps } := by
  unfold State.stampGroup
  cases (s.chan ch).group <;> rfl

/-- A drop to 0 (R105, R112, R129, R131). -/
theorem State.drop_eq (ch : Chan) (s : State) : s.drop ch = { s with
    sw := s.sw.set ch { s.sw[ch] with
      applied := 0, offStamp := s.runCount, minOffPast := false, ramping := false }
    faults := s.faults.set ch { s.faults[ch] with cleanRunning := false, filterTime := 0 }
    gapStamps := match (s.chan ch).group with
      | some g => s.gapStamps.set g.idx ⟨s.runCount, false⟩
      | none => s.gapStamps } := by
  rw [State.drop, State.stampGroup_eq]
  rfl

/-- A channel drops and goes to another state: all but the report of it. -/
theorem State.drop_goTo {s : State} {ch : Chan} {st : SwState} (moves : s.sw[ch].state ≠ st) :
    (s.drop ch).goTo ch st = { s.dropped ch st with mail := s.mail } := by
  have stays : ¬(s.drop ch).sw[ch].state = st := by
    rw [State.drop_eq, set_getElem_self]
    exact moves
  rw [State.goTo, if_neg stays, State.drop_eq, State.setSw, set_getElem_self, Vector.set_set]
  rfl

/-- A request or report that names one channel is handed on. -/
theorem asRequest_chan (ch : Chan) : asRequest (BitVec.twoPow 16 ch.val) = [BitVec.twoPow 16 ch.val] :=
  if_neg ((chanSet_ne_zero_iff _).mpr ⟨ch, by rw [chan_twoPow_getLsbD]; exact decide_eq_true rfl⟩)

/-- An event whose change is that drop is the drop with its report (R115). -/
theorem sequencerEvent_dropped {f : State → State} {s : State} {ch : Chan} {st : SwState}
    (change : f s = (s.drop ch).goTo ch st) (moves : s.sw[ch].state ≠ st) (driven : s.sw[ch].applied ≠ 0) :
    sequencerEvent f s = s.dropped ch st := by
  rw [State.drop_goTo moves] at change
  have queue : (f s).queue = s.queue := by rw [change]; rfl
  have sw : (f s).sw = s.sw.set ch { s.sw[ch] with
      state := st, applied := 0, offStamp := s.runCount, minOffPast := false, ramping := false } := by
    rw [change]
    rfl
  have drops : (s.sw[ch].applied = 0) ≠ ((0 : Level) = 0) := by simp [-Fin.getElem_fin, driven]
  have reported : levelChanges s (f s) = if (s.chan ch).group.isSome then BitVec.twoPow 16 ch.val else 0 := by
    rw [levelChanges_one sw]
    exact if_congr (and_iff_left drops) rfl rfl
  rw [sequencerEvent_of_queue f queue, reported, State.postLevels_eq, change]
  unfold State.dropped State.chan
  cases s.ret.channels[ch].group with
  | none => simp [asRequest]
  | some g => simp [asRequest_chan]

/-! ### One channel's waits -/

theorem State.endMinOn_still {s : State} {ch : Chan} (h : s.sw[ch].state ≠ .ending) : s.endMinOn ch = s :=
  if_neg fun waits => h waits.1

theorem State.endMinOff_still {s : State} {ch : Chan} (h : s.sw[ch].state ≠ .hold .dwell) : s.endMinOff ch = s :=
  if_neg fun waits => h waits.1

/-- No ramp and no fade is in progress on the channel (R113, R114). -/
def State.rampless (s : State) (ch : Chan) : Prop :=
  s.sw[ch].state ≠ .fading ∧ (s.sw[ch].state = .on → s.sw[ch].ramping = false)

theorem State.rampless_of_state {s : State} {ch : Chan} {st : SwState} (state : s.sw[ch].state = st) (unfading : st ≠ .fading)
    (off : st ≠ .on) : s.rampless ch :=
  ⟨fun fading => unfading (state.symm.trans fading), fun on => absurd (state.symm.trans on) off⟩

theorem State.completeRamp_still {s : State} {ch : Chan} (h : s.rampless ch) : s.completeRamp ch = s := by
  obtain ⟨unfading, steady⟩ := h
  unfold State.completeRamp
  cases state : s.sw[ch].state with
  | on => simp only [steady state, Bool.false_eq_true, if_false]
  | fading => exact absurd state unfading
  | off | hold _ | queued | ending | faulted | locked => rfl

theorem State.endRampStep_still {s : State} {ch : Chan} (h : s.rampless ch) : s.endRampStep ch = s := by
  obtain ⟨unfading, steady⟩ := h
  unfold State.endRampStep
  cases state : s.sw[ch].state with
  | on => simp only [steady state, Bool.false_eq_true, if_false, ite_self]
  | fading => exact absurd state unfading
  | off | hold _ | queued | ending | faulted | locked => exact ite_self s

/-- What a new ramp step does to the ramp or the fade of a channel: a step of 0 completes it, and a shorter step found over ends
(R113, R114). -/
def State.retimeRamp (ch : Chan) (r old : ChanRec) (s : State) : State :=
  if r.ramp = 0 then s.completeRamp ch else if r.ramp < old.ramp then s.endRampStep ch else s

theorem State.retimeRamp_still {s : State} {ch : Chan} (h : s.rampless ch) (r old : ChanRec) :
    s.retimeRamp ch r old = s := by
  unfold State.retimeRamp
  rw [State.completeRamp_still h, State.endRampStep_still h, ite_self, ite_self]

/-- A new length is looked at in the order min-on, min-off, ramp (notes/assumptions/13.md). -/
theorem State.retime_eq (ch : Chan) (old : ChanRec) (s : State) : s.retime ch old =
    (if (s.chan ch).minOff < old.minOff then (if (s.chan ch).minOn < old.minOn then s.endMinOn ch else s).endMinOff ch
      else if (s.chan ch).minOn < old.minOn then s.endMinOn ch else s).retimeRamp ch (s.chan ch) old := rfl

/-- A channel in neither dwell has its ramp or its fade retimed alone. -/
theorem State.retime_ramp {s : State} {ch : Chan} (undriven : s.sw[ch].state ≠ .ending)
    (unheld : s.sw[ch].state ≠ .hold .dwell) (old : ChanRec) : s.retime ch old = s.retimeRamp ch (s.chan ch) old := by
  rw [State.retime_eq, State.endMinOn_still undriven, ite_self, State.endMinOff_still unheld, ite_self]

/-- The end of a min-on wait leaves nothing for the other new lengths: a fade that begins has its first step before it, and a channel
that does not fade does not ramp (R102, R111). -/
theorem State.endMinOn_settles {s : State} {ch : Chan} (ending : s.sw[ch].state = .ending) (old : ChanRec) :
    (s.endMinOn ch).sw[ch].state ≠ .hold .dwell ∧
      (s.endMinOn ch).retimeRamp ch (s.chan ch) old = s.endMinOn ch := by
  have settled {t : State} {st : SwState} (state : t.sw[ch].state = st) (unheld : st ≠ .hold .dwell)
      (unfading : st ≠ .fading) (off : st ≠ .on) :
      t.sw[ch].state ≠ .hold .dwell ∧ t.retimeRamp ch (s.chan ch) old = t :=
    ⟨state ▸ unheld, State.retimeRamp_still (State.rampless_of_state state unfading off) _ _⟩
  unfold State.endMinOn
  split
  · unfold State.endDrive
    split
    · rename_i fades
      have ramp : (s.chan ch).ramp ≠ 0 := (of_decide_eq_true fades).2
      have record : ((s.beginRampStep ch false).goTo ch .fading).sw[ch] =
          { s.sw[ch] with state := .fading, rampStamp := s.runCount, ramping := false } := by
        rw [State.goTo_sw, if_pos rfl, State.beginRampStep, State.setSw, set_getElem_self]
      have begun : ((s.beginRampStep ch false).goTo ch .fading).rampElapsed ch = false := by
        rw [← Bool.not_eq_true, State.rampElapsed, elapsed_iff, record, State.goTo_frame, Nat.not_le]
        change (s.runCount - s.runCount).toNat < (s.chan ch).ramp.val
        rw [BitVec.sub_self]
        exact Nat.pos_of_ne_zero fun zero => ramp (Fin.ext zero)
      refine ⟨by rw [record]; nofun, ?_⟩
      rw [State.retimeRamp, if_neg ramp, State.endRampStep, begun, if_neg Bool.false_ne_true, ite_self]
    · have off : (s.switchOff ch).sw[ch].state = .off := by rw [State.switchOff, State.goTo_sw, if_pos rfl]
      exact settled off nofun nofun nofun
  · exact settled ending nofun nofun nofun

/-- A channel in ENDING has its min-on dwell retimed alone. -/
theorem State.retime_ending {s : State} {ch : Chan} (ending : s.sw[ch].state = .ending) (old : ChanRec) :
    s.retime ch old = if (s.chan ch).minOn < old.minOn then s.endMinOn ch else s := by
  obtain ⟨unheld, settled⟩ := State.endMinOn_settles ending old
  rw [State.retime_eq]
  by_cases shorter : (s.chan ch).minOn < old.minOn
  · rw [if_pos shorter, State.endMinOff_still unheld, ite_self, settled]
  · rw [if_neg shorter, State.endMinOff_still (by rw [ending]; nofun), ite_self]
    exact State.retimeRamp_still (State.rampless_of_state ending nofun nofun) _ _

/-- The eligibility tests take a channel to HOLD or to QUEUED (R103). -/
theorem State.testEligible_rampless (ch : Chan) (s : State) : (s.testEligible ch).rampless ch := by
  have state : (s.testEligible ch).sw[ch].state = s.eligibility ch := by
    rw [State.testEligible_eligibility, State.goTo_sw, if_pos rfl]
  refine State.rampless_of_state state ?_ ?_ <;>
    · unfold State.eligibility
      split_ifs <;> nofun

/-- A channel in HOLD(DWELL) has its min-off dwell retimed alone. -/
theorem State.retime_dwell {s : State} {ch : Chan} (held : s.sw[ch].state = .hold .dwell) (old : ChanRec) :
    s.retime ch old = if (s.chan ch).minOff < old.minOff then s.endMinOff ch else s := by
  have still : s.rampless ch := State.rampless_of_state held nofun nofun
  have tested : (s.endMinOff ch).rampless ch := by
    unfold State.endMinOff
    split
    · exact s.testEligible_rampless ch
    · exact still
  rw [State.retime_eq, State.endMinOn_still (by rw [held]; nofun), ite_self]
  split
  · exact State.retimeRamp_still tested _ _
  · exact State.retimeRamp_still still _ _

end Sys2Proof.Machine
end

section
/-! SET CHANNEL TIMING and CONFIGURE GROUP (R79, R81, R99, R204, R208): the lengths replaced, and the expiry they bring. -/

namespace Sys2Proof.Machine

/-! ### SET CHANNEL TIMING -/

/-- The lengths of a channel replaced, with the check value brought up to date (R79, R159). -/
def State.withTiming (c : ChannelTiming) (s : State) : State :=
  s.setChanRec c.chan { s.chan c.chan with minOn := c.minOn, minOff := c.minOff, ramp := c.ramp, retry := c.retry }

theorem State.withTiming_chan (c : ChannelTiming) (s : State) : (s.withTiming c).chan c.chan =
    { s.chan c.chan with minOn := c.minOn, minOff := c.minOff, ramp := c.ramp, retry := c.retry } := by
  rw [State.withTiming, State.setChanRec_chan, if_pos rfl]

/-- What the new lengths bring a channel in ENDING. -/
theorem State.retime_withTiming_ending {s : State} {c : ChannelTiming} (ending : s.sw[c.chan].state = .ending) :
    (s.withTiming c).retime c.chan (s.chan c.chan) =
      if c.minOn < (s.chan c.chan).minOn then (s.withTiming c).endMinOn c.chan else s.withTiming c := by
  rw [State.retime_ending (s := s.withTiming c) ending, State.withTiming_chan]

/-- What the new lengths bring a channel in HOLD(DWELL). -/
theorem State.retime_withTiming_dwell {s : State} {c : ChannelTiming} (held : s.sw[c.chan].state = .hold .dwell) :
    (s.withTiming c).retime c.chan (s.chan c.chan) =
      if c.minOff < (s.chan c.chan).minOff then (s.withTiming c).endMinOff c.chan else s.withTiming c := by
  rw [State.retime_dwell (s := s.withTiming c) held, State.withTiming_chan]

/-- What the new lengths bring a channel in neither dwell. -/
theorem State.retime_withTiming_ramp {s : State} {c : ChannelTiming} (undriven : s.sw[c.chan].state ≠ .ending)
    (unheld : s.sw[c.chan].state ≠ .hold .dwell) :
    (s.withTiming c).retime c.chan (s.chan c.chan) =
      if c.ramp = 0 then (s.withTiming c).completeRamp c.chan
      else if c.ramp < (s.chan c.chan).ramp then (s.withTiming c).endRampStep c.chan else s.withTiming c := by
  rw [State.retime_ramp (s := s.withTiming c) undriven unheld, State.withTiming_chan]
  rfl

theorem execSetChannelTiming_refused {s : State} {ps : List Byte} {c : ChannelTiming} (h : s.holds 0x31 ps)
    (read : readChannelTiming ps = .ok c) (above : c.retry.val + 1 < s.faults[c.chan].count) :
    exec .setChannelTiming s = .next (s.answered 0x31 .notPermitted []) :=
  next_complete h (by rw [ownSetChannelTiming, checked_ok read, if_pos above]; rfl)

theorem execSetChannelTiming_ok {s : State} {ps : List Byte} {c : ChannelTiming} (h : s.holds 0x31 ps)
    (read : readChannelTiming ps = .ok c) (within : s.faults[c.chan].count ≤ c.retry.val + 1) :
    exec .setChannelTiming s =
      .next ((sequencerEvent (State.retime c.chan (s.chan c.chan)) (s.withTiming c)).answered 0x31 .ok []) :=
  next_complete h (by rw [ownSetChannelTiming, checked_ok read, if_neg (Nat.not_lt.mpr within)]; rfl)

/-- A new length that brings no expiry leaves the record's replacement alone. -/
theorem execSetChannelTiming_still {s : State} {ps : List Byte} {c : ChannelTiming} (h : s.holds 0x31 ps)
    (read : readChannelTiming ps = .ok c) (within : s.faults[c.chan].count ≤ c.retry.val + 1)
    (still : (s.withTiming c).retime c.chan (s.chan c.chan) = s.withTiming c) :
    exec .setChannelTiming s = .next ((s.withTiming c).answered 0x31 .ok []) := by
  rw [execSetChannelTiming_ok h read within, sequencerEvent_still _ still]

/-- A new length that brings one expiry does what the expiry's own row does under it. -/
theorem execSetChannelTiming_expires {s : State} {ps : List Byte} {c : ChannelTiming} {i : Instr} {f : State → State}
    (h : s.holds 0x31 ps) (read : readChannelTiming ps = .ok c) (within : s.faults[c.chan].count ≤ c.retry.val + 1)
    (row : exec i (s.withTiming c) = .next (whileRunning (sequencerEvent f) (s.withTiming c)))
    (expires : (s.withTiming c).retime c.chan (s.chan c.chan) = f (s.withTiming c)) :
    ∃ t, exec i (s.withTiming c) = .next t ∧ exec .setChannelTiming s = .next (t.answered 0x31 .ok []) := by
  refine ⟨sequencerEvent f (s.withTiming c), row.trans (next_whileRunning h.1 rfl), ?_⟩
  rw [execSetChannelTiming_ok h read within, sequencerEvent_congr expires]

/-- A ramp step of 0 completes a ramp of a channel in ON (R113). -/
theorem State.completeRamp_on {s : State} {ch : Chan} (on : s.sw[ch].state = .on) (ramping : s.sw[ch].ramping = true) :
    s.completeRamp ch = { s with
      sw := s.sw.set ch { s.sw[ch] with applied := s.sw[ch].target, ramping := false } } := by
  unfold State.completeRamp
  rw [on]
  simp only [if_pos ramping, State.apply, State.stopRamp, State.setSw, set_getElem_self, Vector.set_set]

/-- A ramp step of 0 completes a fade (R114). -/
theorem State.completeRamp_fading {s : State} {ch : Chan} (fading : s.sw[ch].state = .fading) :
    s.completeRamp ch = s.switchOff ch := by
  rw [State.completeRamp, fading]

/-- A channel whose applied level stays on one side of 0 is not reported (R115). -/
theorem sequencerEvent_unreported {f : State → State} {s : State} {ch : Chan} {w : Switching}
    (change : f s = { s with sw := s.sw.set ch w }) (driven : s.sw[ch].applied ≠ 0) (drives : w.applied ≠ 0) :
    sequencerEvent f s = { s with sw := s.sw.set ch w } := by
  have reported : levelChanges s (f s) = 0 := by
    rw [levelChanges_one (w := w) (by rw [change])]
    exact if_neg fun changes => changes.2 (by rw [eq_false driven, eq_false drives])
  rw [sequencerEvent_of_queue f (by rw [change]), reported, change]
  rfl

/-! ### CONFIGURE GROUP -/

/-- A group's changeover gap replaced, with the check value brought up to date (R81, R159). -/
def State.withGap (g : Group) (gap : Byte) (s : State) : State := s.setRet { s.ret with gaps := s.ret.gaps.set g.idx gap }

theorem State.configureGroup_eq (g : Group) (gap : Byte) (s : State) : s.configureGroup g gap =
    if s.gapElapsed g then s.withGap g gap else sequencerEvent (State.endGap g) (s.withGap g gap) := rfl

theorem execConfigureGroup_ok {s : State} {ps : List Byte} {g : Group} {gap : Byte} (h : s.holds 0x38 ps)
    (read : readConfigureGroup ps = .ok (g, gap)) :
    exec .configureGroup s = .next ((s.configureGroup g gap).answered 0x38 .ok []) :=
  next_complete h (by rw [checked_ok read]; rfl)

/-- A running gap that is not shortened is still running, so it has no expiry (R99, R105). -/
theorem State.endGap_withGap_still {s : State} {g : Group} {gap : Byte} (running : ¬s.gapElapsed g = true)
    (longer : s.ret.gaps[g.idx] ≤ gap) : (s.withGap g gap).endGap g = s.withGap g gap := by
  refine if_neg ?_
  rw [State.gapElapsed, elapsedOrPast_iff] at running ⊢
  have kept : (s.withGap g gap).ret.gaps[g.idx] = gap := set_getElem_self ..
  rw [kept]
  exact fun past => running (past.imp_right (Nat.le_trans longer))

/-- Settles O48: a new length brings the expiry of the wait the channel is in, or none. -/
theorem newLengthsActInTheirStep : Obligations.NewLengthsActInTheirStep := by
  refine ⟨fun s params c h read => ⟨execSetChannelTiming_refused h read, fun within => ?_⟩,
    fun s params g gap h read => ?_⟩
  · intro ret u w old
    have still := execSetChannelTiming_still h read within
    refine ⟨fun undriven unheld unfading steady => ?_, fun ending => ⟨fun shorter => ?_, fun longer => ?_⟩,
      fun held => ⟨fun shorter => ?_, fun longer => ?_⟩, fun ramps nonzero => ?_, fun on ramping zero driven drives => ?_,
      fun fading driven zero => ?_⟩
    · exact still ((State.retime_ramp (s := s.withTiming c) undriven unheld _).trans
        (State.retimeRamp_still (s := s.withTiming c) ⟨unfading, fun _ => steady⟩ _ _))
    · exact execSetChannelTiming_expires h read within rfl ((State.retime_withTiming_ending ending).trans (if_pos shorter))
    · exact still ((State.retime_withTiming_ending ending).trans (if_neg (BitVec.not_lt.mpr longer)))
    · exact execSetChannelTiming_expires h read within rfl ((State.retime_withTiming_dwell held).trans (if_pos shorter))
    · exact still ((State.retime_withTiming_dwell held).trans (if_neg (BitVec.not_lt.mpr longer)))
    · obtain ⟨undriven, unheld⟩ : w.state ≠ .ending ∧ w.state ≠ .hold .dwell := by
        rcases ramps with on | fading
        · rw [on]; exact ⟨nofun, nofun⟩
        · rw [fading]; exact ⟨nofun, nofun⟩
      have step := (State.retime_withTiming_ramp undriven unheld).trans (if_neg nonzero)
      exact ⟨fun shorter => execSetChannelTiming_expires h read within rfl (step.trans (if_pos shorter)),
        fun longer => still (step.trans (if_neg (Fin.not_lt.mpr longer)))⟩
    · have completes : (s.withTiming c).retime c.chan (s.chan c.chan) = { s.withTiming c with
          sw := s.sw.set c.chan { w with applied := w.target, ramping := false } } := by
        rw [State.retime_withTiming_ramp (by rw [on]; nofun) (by rw [on]; nofun), if_pos zero]
        exact State.completeRamp_on (s := s.withTiming c) on ramping
      rw [execSetChannelTiming_ok h read within, sequencerEvent_unreported completes driven drives]
      rfl
    · have completes : (s.withTiming c).retime c.chan (s.chan c.chan) = (s.withTiming c).switchOff c.chan := by
        rw [State.retime_withTiming_ramp (by rw [fading]; nofun) (by rw [fading]; nofun), if_pos zero]
        exact State.completeRamp_fading (s := s.withTiming c) fading
      have moves : (s.withTiming c).sw[c.chan].state ≠ .off := fun off => nomatch fading.symm.trans off
      rw [execSetChannelTiming_ok h read within, sequencerEvent_dropped completes moves driven]
      rfl
  · intro u elapsed
    have past : s.gapElapsed g = true ↔ elapsed := elapsedOrPast_iff ..
    have taken := execConfigureGroup_ok h read
    rw [State.configureGroup_eq] at taken
    refine ⟨fun running shorter => ?_, fun settled => ?_⟩
    · rw [if_neg (past.not.mpr running)] at taken
      exact ⟨_, next_whileRunning h.1 rfl, taken⟩
    · by_cases done : s.gapElapsed g = true
      · rw [if_pos done] at taken
        exact taken
      · have longer := settled.resolve_left (past.not.mp done)
        rw [if_neg done, sequencerEvent_still _ (State.endGap_withGap_still done longer)] at taken
        exact taken

end Sys2Proof.Machine
end

section
/-! One channel acted on (R98 to R116): every operation of the sequencer on one channel replaces its records, may make its group's
changeover stamp and move its entry of the Switching Queue, and raises its CHANNEL flag where the switching state changes. The
operations are said in this form once; what several channels acted on one after another leave is said once for all of them. -/

namespace Sys2Proof.Machine

/-! ### The act -/

/-- What becomes of a channel's entry of the Switching Queue. -/
inductive QueueMove where
  | stay
  | leave
  | relevel (l : Level)
  | enter (cls : QueueClass) (l : Level)

/-- The Switching Queue after a channel's entry has moved (R107, R108). -/
def QueueMove.apply (m : QueueMove) (ch : Chan) (q : List QueueEntry) : List QueueEntry :=
  match m with
  | .stay => q
  | .leave => q.filter fun e => decide (e.chan ≠ ch)
  | .relevel l => q.map fun e => if e.chan = ch then { e with level := l } else e
  | .enter cls l => placeEntry q ⟨ch, cls, l⟩

/-- What an operation makes of a channel: its records, whether its group's changeover stamp is made, and its entry's move. -/
structure Act where
  sw : Switching
  fault : FaultRec
  stamps : Bool
  move : QueueMove

/-- The channel acted on, its CHANNEL flag raised where its switching state changes (R105, R116). -/
def State.act (ch : Chan) (a : Act) (s : State) : State :=
  { s with
    sw := s.sw.set ch a.sw
    faults := s.faults.set ch a.fault
    gapStamps := if a.stamps then (s.stampGroup ch).gapStamps else s.gapStamps
    queue := a.move.apply ch s.queue
    att := { s.att with channel :=
      if a.sw.state = s.sw[ch].state then s.att.channel else s.att.channel ||| BitVec.twoPow 16 ch.val } }

/-- The act that changes nothing. -/
def State.stillAct (s : State) (ch : Chan) : Act := ⟨s.sw[ch], s.faults[ch], false, .stay⟩

/-- The act of a change of switching state alone. -/
def State.moveAct (s : State) (ch : Chan) (st : SwState) : Act :=
  { s.stillAct ch with sw := { s.sw[ch] with state := st } }

/-- The act of a drop to 0 that goes to a state (R105, R112, R129, R131). -/
def State.dropAct (s : State) (ch : Chan) (st : SwState) : Act where
  sw := { s.sw[ch] with state := st, applied := 0, offStamp := s.runCount, minOffPast := false, ramping := false }
  fault := { s.faults[ch] with cleanRunning := false, filterTime := 0 }
  stamps := true
  move := .stay

theorem vector_set_self {n : Nat} {α : Type} (v : Vector α n) (i : Fin n) : v.set i v[i] = v :=
  Vector.set_getElem_self i.isLt

theorem State.act_still (ch : Chan) (s : State) : s.act ch (s.stillAct ch) = s := by
  simp only [State.act, State.stillAct, vector_set_self, QueueMove.apply, if_true, Bool.false_eq_true, if_false]

/-- A change of one switching record that keeps its switching state. -/
theorem State.setSw_act {ch : Chan} {w : Switching} {s : State} (state : w.state = s.sw[ch].state) :
    s.setSw ch w = s.act ch { s.stillAct ch with sw := w } := by
  simp only [State.act, State.stillAct, vector_set_self, QueueMove.apply, if_pos state, Bool.false_eq_true, if_false]
  rfl

/-- Such a change with a change of switching state after it. -/
theorem State.setSw_goTo_act {ch : Chan} {w : Switching} {s : State} (state : w.state = s.sw[ch].state) (st : SwState) :
    (s.setSw ch w).goTo ch st = s.act ch { s.stillAct ch with sw := { w with state := st } } := by
  have here : (s.setSw ch w).sw[ch] = w := set_getElem_self ..
  by_cases same : w.state = st
  · have record : { w with state := st } = w := by rw [← same]
    rw [State.goTo, here, if_pos same, record]
    exact State.setSw_act state
  · rw [State.goTo, here, if_neg same]
    simp only [State.act, State.stillAct, vector_set_self, QueueMove.apply, ← state, if_neg (Ne.symm same),
      Bool.false_eq_true, if_false, State.setSw, Vector.set_set]
    rfl

theorem State.goTo_act (ch : Chan) (st : SwState) (s : State) : s.goTo ch st = s.act ch (s.moveAct ch st) := by
  have same : s.setSw ch s.sw[ch] = s := by rw [State.setSw, vector_set_self]
  have act := State.setSw_goTo_act (s := s) (ch := ch) (w := s.sw[ch]) rfl st
  rwa [same] at act

/-- A change of switching state with the channel's entry moved. -/
theorem State.goTo_moved_act (ch : Chan) (st : SwState) (m : QueueMove) (s : State) :
    { s with queue := m.apply ch s.queue }.goTo ch st = s.act ch { s.moveAct ch st with move := m } := by
  rw [State.goTo_act]
  rfl

theorem State.drop_goTo_act {ch : Chan} {st : SwState} {s : State} :
    (s.drop ch).goTo ch st = s.act ch (s.dropAct ch st) := by
  have stamped : s.stampGroup ch = { s with gapStamps := (s.stampGroup ch).gapStamps } := by
    unfold State.stampGroup
    cases (s.chan ch).group <;> rfl
  have gaps : (s.drop ch).gapStamps = (s.stampGroup ch).gapStamps := by
    rw [State.drop, State.stampGroup_eq, State.stampGroup_eq]
    rfl
  have dropped : s.drop ch = { s with
      sw := s.sw.set ch { s.sw[ch] with applied := 0, offStamp := s.runCount, minOffPast := false, ramping := false }
      faults := s.faults.set ch { s.faults[ch] with cleanRunning := false, filterTime := 0 }
      gapStamps := (s.stampGroup ch).gapStamps } := by
    rw [← gaps, State.drop_eq]
  rw [State.goTo_act, dropped]
  simp only [State.act, State.moveAct, State.stillAct, set_getElem_self, Vector.set_set, Bool.false_eq_true, if_false]
  rfl

/-! ### What an act leaves -/

/-- An act touches the sequencer's tables, the queue and the CHANNEL flags alone. -/
theorem State.act_frame (ch : Chan) (a : Act) (s : State) : s.act ch a = { s with
    sw := (s.act ch a).sw
    faults := (s.act ch a).faults
    gapStamps := (s.act ch a).gapStamps
    queue := (s.act ch a).queue
    att := { s.att with channel := (s.act ch a).att.channel } } := rfl

theorem State.act_sw (ch : Chan) (a : Act) (s : State) (c : Chan) :
    (s.act ch a).sw[c] = if c = ch then a.sw else s.sw[c] := set_getElem ..

theorem State.act_faults (ch : Chan) (a : Act) (s : State) (c : Chan) :
    (s.act ch a).faults[c] = if c = ch then a.fault else s.faults[c] := set_getElem ..

theorem Group.idx_injective : Function.Injective Group.idx := by
  intro g h
  cases g <;> cases h <;> decide

theorem State.stampGroup_getElem (ch : Chan) (s : State) (g : Group) : (s.stampGroup ch).gapStamps[g.idx] =
    if (s.chan ch).group = some g then ⟨s.runCount, false⟩ else s.gapStamps[g.idx] := by
  rw [State.stampGroup_eq]
  cases group : (s.chan ch).group with
  | none => rfl
  | some h =>
    refine (set_getElem ..).trans ?_
    simp [-Fin.getElem_fin, Group.idx_injective.eq_iff, eq_comm]

theorem State.act_gaps (ch : Chan) (a : Act) (s : State) (g : Group) : (s.act ch a).gapStamps[g.idx] =
    if a.stamps = true ∧ (s.chan ch).group = some g then ⟨s.runCount, false⟩ else s.gapStamps[g.idx] := by
  unfold State.act
  cases a.stamps with
  | true => simpa [-Fin.getElem_fin] using s.stampGroup_getElem ch g
  | false => simp [-Fin.getElem_fin]

/-- The CHANNEL flags after an act: the channel's, where its switching state changed (R116). -/
theorem State.act_flags (ch : Chan) (a : Act) (s : State) (c : Chan) : (s.act ch a).att.channel.getLsbD c.val =
    (s.att.channel.getLsbD c.val || decide ((s.act ch a).sw[c].state ≠ s.sw[c].state)) := by
  rw [State.act_sw]
  unfold State.act
  by_cases same : a.sw.state = s.sw[ch].state
  · rw [if_pos same]
    by_cases here : c = ch
    · subst here
      simp [-Fin.getElem_fin, same]
    · simp [here]
  · rw [if_neg same, BitVec.getLsbD_or, chan_twoPow_getLsbD]
    by_cases here : c = ch
    · subst here
      simp [-Fin.getElem_fin, same]
    · simp [here]

/-! ### Several channels acted on, one after another -/

/-- The channels of a list acted on in its order. -/
def State.actAll (a : Chan → Act) (chs : List Chan) (s : State) : State := chs.foldl (fun s ch => s.act ch (a ch)) s

theorem State.actAll_append (a : Chan → Act) (chs chs' : List Chan) (s : State) :
    s.actAll a (chs ++ chs') = (s.actAll a chs).actAll a chs' := List.foldl_append ..

theorem State.actAll_frame (a : Chan → Act) (chs : List Chan) (s : State) : s.actAll a chs = { s with
    sw := (s.actAll a chs).sw
    faults := (s.actAll a chs).faults
    gapStamps := (s.actAll a chs).gapStamps
    queue := (s.actAll a chs).queue
    att := { s.att with channel := (s.actAll a chs).att.channel } } := by
  induction chs generalizing s with
  | nil => rfl
  | cons ch chs ih => exact ih (s.act ch (a ch))

section Frame

variable (a : Chan → Act) (chs : List Chan) (s : State)

@[simp] theorem State.actAll_ret : (s.actAll a chs).ret = s.ret := by rw [State.actAll_frame]
@[simp] theorem State.actAll_runCount : (s.actAll a chs).runCount = s.runCount := by rw [State.actAll_frame]
@[simp] theorem State.actAll_pinTaken : (s.actAll a chs).pinTaken = s.pinTaken := by rw [State.actAll_frame]
@[simp] theorem State.actAll_lastAdm : (s.actAll a chs).lastAdm = s.lastAdm := by rw [State.actAll_frame]
@[simp] theorem State.actAll_staggerPast : (s.actAll a chs).staggerPast = s.staggerPast := by rw [State.actAll_frame]
@[simp] theorem State.actAll_mail : (s.actAll a chs).mail = s.mail := by rw [State.actAll_frame]

@[simp] theorem State.actAll_chan (ch : Chan) : (s.actAll a chs).chan ch = s.chan ch := by
  rw [State.chan, State.actAll_ret, State.chan]

@[simp] theorem State.actAll_allOff : (s.actAll a chs).allOff = s.allOff := by
  rw [State.allOff, State.actAll_ret, State.actAll_pinTaken, State.allOff]

theorem State.actAll_sw (c : Chan) : (s.actAll a chs).sw[c] = if c ∈ chs then (a c).sw else s.sw[c] := by
  induction chs generalizing s with
  | nil => rfl
  | cons ch chs ih =>
    refine (ih _).trans ?_
    rw [State.act_sw]
    by_cases here : c = ch
    · subst here
      simp
    · simp [here]

theorem State.actAll_faults (c : Chan) : (s.actAll a chs).faults[c] = if c ∈ chs then (a c).fault else s.faults[c] := by
  induction chs generalizing s with
  | nil => rfl
  | cons ch chs ih =>
    refine (ih _).trans ?_
    rw [State.act_faults]
    by_cases here : c = ch
    · subst here
      simp
    · simp [here]

theorem State.actAll_gaps (g : Group) : (s.actAll a chs).gapStamps[g.idx] =
    if ∃ ch ∈ chs, (a ch).stamps = true ∧ (s.chan ch).group = some g then ⟨s.runCount, false⟩
    else s.gapStamps[g.idx] := by
  induction chs generalizing s with
  | nil => simp [-Fin.getElem_fin, State.actAll]
  | cons ch chs ih =>
    have chan (c : Chan) : (s.act ch (a ch)).chan c = s.chan c := rfl
    refine (ih _).trans ?_
    simp only [chan, State.act_gaps, List.exists_mem_cons_iff]
    by_cases later : ∃ c ∈ chs, (a c).stamps = true ∧ (s.chan c).group = some g
    · rw [if_pos later, if_pos (.inr later)]
      rfl
    · rw [if_neg later]
      exact if_congr (or_iff_left later).symm rfl rfl

/-- The CHANNEL flags: those of the channels whose switching state changed (R116). -/
theorem State.actAll_flags (c : Chan) : (s.actAll a chs).att.channel.getLsbD c.val =
    (s.att.channel.getLsbD c.val || decide ((s.actAll a chs).sw[c].state ≠ s.sw[c].state)) := by
  induction chs generalizing s with
  | nil => simp [-Fin.getElem_fin, State.actAll]
  | cons ch chs ih =>
    have later := (s.act ch (a ch)).actAll_sw a chs c
    have whole : s.actAll a (ch :: chs) = (s.act ch (a ch)).actAll a chs := rfl
    rw [whole, ih, State.act_flags, Bool.or_assoc, later, State.act_sw]
    congr 1
    by_cases here : c = ch
    · subst here
      by_cases again : c ∈ chs <;> simp [-Fin.getElem_fin, again]
    · by_cases again : c ∈ chs <;> simp [-Fin.getElem_fin, here, again]

theorem State.actAll_queue : (s.actAll a chs).queue = chs.foldl (fun q ch => (a ch).move.apply ch q) s.queue := by
  induction chs generalizing s with
  | nil => rfl
  | cons ch chs ih => exact ih _

end Frame

/-- Operations on the channels of a list are acts, where each finds of its own channel what stood before the first and leaves the
others: `done` are the channels that come before one in the list. -/
theorem State.foldl_eq_actAll {op : State → Chan → State} {a : Chan → Act} {s : State} {chs : List Chan} (once : chs.Nodup)
    (step : ∀ (done : List Chan) (ch : Chan), ch ∈ chs → ch ∉ done → done ⊆ chs →
      op (s.actAll a done) ch = (s.actAll a done).act ch (a ch)) : chs.foldl op s = s.actAll a chs := by
  induction chs using List.reverseRecOn with
  | nil => rfl
  | append_singleton chs ch ih =>
    rw [List.nodup_append] at once
    obtain ⟨before, -, apart⟩ := once
    have fresh : ch ∉ chs := fun h => apart ch h ch List.mem_cons_self rfl
    rw [List.foldl_append, ih before fun done c hc new sub =>
      step done c (List.mem_append_left _ hc) new (List.subset_append_of_subset_left _ sub)]
    rw [State.actAll_append]
    exact step chs ch (List.mem_append_right _ List.mem_cons_self) fresh (List.subset_append_left ..)

end Sys2Proof.Machine
end

section
/-! The sequencer's operations on one channel, each as the act it is (R102, R103, R111 to R114, R119, R132). -/

namespace Sys2Proof.Machine

/-! ### The eligibility tests (R103) -/

/-- What the eligibility tests make of a channel (R103, R107). -/
def State.testAct (s : State) (ch : Chan) : Act :=
  { s.moveAct ch (s.eligibility ch) with
    move := if s.eligibility ch = SwState.queued then .enter (s.chan ch).queueClass s.sw[ch].target else .stay }

theorem State.testEligible_act (ch : Chan) (s : State) : s.testEligible ch = s.act ch (s.testAct ch) := by
  rw [State.testEligible_eligibility, State.testAct, ← State.goTo_moved_act]
  split <;> rfl

/-- The tests in their order, as propositions. -/
theorem State.eligibility_cases (s : State) (ch : Chan) :
    (s.allOff = true → s.eligibility ch = .hold .allOff) ∧
    (s.allOff = false → ¬s.minOffOver ch → s.eligibility ch = .hold .dwell) ∧
    (s.allOff = false → s.minOffOver ch → s.busyFor ch → s.eligibility ch = .hold .group) ∧
    (s.allOff = false → s.minOffOver ch → ¬s.busyFor ch → s.eligibility ch = .queued) := by
  rw [← State.minOffElapsed_iff, ← State.blockedByGroup_iff]
  unfold State.eligibility
  refine ⟨fun a => ?_, fun a b => ?_, fun a b c => ?_, fun a b c => ?_⟩
  · rw [if_pos a]
  · simp [a, b]
  · simp [a, b, c]
  · simp [a, b, c]

theorem State.eligibility_queued_iff (s : State) (ch : Chan) :
    s.eligibility ch = .queued ↔ s.allOff = false ∧ s.minOffOver ch ∧ ¬s.busyFor ch := by
  rw [← State.minOffElapsed_iff, ← State.blockedByGroup_iff]
  unfold State.eligibility
  split_ifs <;> simp_all

/-- The tests take a channel to HOLD or to QUEUED. -/
theorem State.eligibility_waits (s : State) (ch : Chan) : (∃ r, s.eligibility ch = .hold r) ∨ s.eligibility ch = .queued := by
  unfold State.eligibility
  split_ifs <;> simp

/-- The tests see which channels are driven, the channel's own off stamp, and what stands beside the switching. -/
theorem State.eligibility_of_driven {s t : State} (ret : t.ret = s.ret) (run : t.runCount = s.runCount)
    (pin : t.pinTaken = s.pinTaken) (gaps : ∀ g : Group, t.gapStamps[g.idx] = s.gapStamps[g.idx])
    (driven : ∀ c : Chan, t.sw[c].applied = 0 ↔ s.sw[c].applied = 0) {ch : Chan}
    (stamp : t.sw[ch].offStamp = s.sw[ch].offStamp) (past : t.sw[ch].minOffPast = s.sw[ch].minOffPast) :
    t.eligibility ch = s.eligibility ch := by
  have allOff : t.allOff = s.allOff := by rw [State.allOff, ret, pin, State.allOff]
  have minOff : t.minOffElapsed ch = s.minOffElapsed ch := by simp only [State.minOffElapsed, State.chan, ret, run, stamp, past]
  have blocked : t.blockedByGroup ch = s.blockedByGroup ch := by
    rw [Bool.eq_iff_iff, State.blockedByGroup_iff, State.blockedByGroup_iff, State.busyFor, State.busyFor, ret, run]
    simp only [ne_eq, driven, gaps]
  simp only [State.eligibility, allOff, minOff, blocked]

/-! ### Targets (R101, R102) -/

/-- The end of a channel's drive (R102, R111). -/
def State.endAct (s : State) (ch : Chan) : Act :=
  if ramps (s.chan ch) then
    { s.stillAct ch with sw := { s.sw[ch] with state := .fading, rampStamp := s.runCount, ramping := false } }
  else s.dropAct ch .off

theorem State.endDrive_act (ch : Chan) (s : State) : s.endDrive ch = s.act ch (s.endAct ch) := by
  unfold State.endDrive State.endAct
  split
  · exact State.setSw_goTo_act (by rfl) .fading
  · exact State.drop_goTo_act

/-- What a new target of 0 makes of a channel (R101, R102). -/
def State.lowerAct (s : State) (ch : Chan) : Act :=
  match s.sw[ch].state with
  | .off | .ending | .fading | .faulted | .locked => s.stillAct ch
  | .hold _ => s.moveAct ch .off
  | .queued => { s.moveAct ch .off with move := .leave }
  | .on =>
    if s.minOnElapsed ch then s.endAct ch
    else { s.stillAct ch with sw := { s.sw[ch] with state := .ending, ramping := false } }

theorem State.targetZero_act (ch : Chan) (s : State) : s.targetZero ch = s.act ch (s.lowerAct ch) := by
  unfold State.targetZero State.lowerAct
  cases s.sw[ch].state with
  | off | ending | fading | faulted | locked => exact (s.act_still ch).symm
  | hold _ => exact s.goTo_act ch .off
  | queued => exact s.goTo_moved_act ch .off .leave
  | on =>
    dsimp only
    split
    · exact s.endDrive_act ch
    · exact State.setSw_goTo_act (by rfl) .ending

theorem State.headFor_setSw (ch : Chan) (l : Level) (s : State) :
    s.headFor ch l = s.setSw ch (headed (s.chan ch) s.runCount s.sw[ch] l) := by
  unfold State.headFor headed
  have rampsIff : ramps (s.chan ch) = true ↔ (s.chan ch).kind = .dimmed ∧ (s.chan ch).ramp ≠ 0 := decide_eq_true_iff
  by_cases ramping : (s.chan ch).kind = .dimmed ∧ (s.chan ch).ramp ≠ 0
  · rw [if_pos (rampsIff.mpr ramping), if_pos ramping]
    have same : s.setSw ch s.sw[ch] = s := by rw [State.setSw, vector_set_self]
    split_ifs
    · rfl
    · exact same.symm
    · rfl
  · rw [if_neg (rampsIff.not.mpr ramping), if_neg ramping]
    simp only [State.apply, State.stopRamp, State.setSw, set_getElem_self, Vector.set_set]

theorem headed_state (r : ChanRec) (now : RunCount) (w : Switching) (l : Level) : (headed r now w l).state = w.state := by
  unfold headed
  split_ifs <;> rfl

/-- A change of switching state, and then of the record in that state. -/
theorem State.goTo_setSw_act {ch : Chan} {st : SwState} {w : Switching} {s : State} (state : w.state = st) :
    (s.goTo ch st).setSw ch w = s.act ch { s.stillAct ch with sw := w } := by
  rw [State.goTo_act]
  simp only [State.act, State.moveAct, State.stillAct, State.setSw, vector_set_self, Vector.set_set, state]
  rfl

/-- What a new non-zero target makes of a channel (R101, R102). -/
def State.raiseAct (s : State) (ch : Chan) (l : Level) : Act :=
  match s.sw[ch].state with
  | .off => s.testAct ch
  | .hold _ | .faulted | .locked => s.stillAct ch
  | .queued => { s.stillAct ch with move := .relevel l }
  | .on | .ending | .fading =>
    { s.stillAct ch with sw := { headed (s.chan ch) s.runCount s.sw[ch] l with state := .on } }

theorem State.targetNonZero_act (ch : Chan) (l : Level) (s : State) :
    s.targetNonZero ch l = s.act ch (s.raiseAct ch l) := by
  have returns : (s.goTo ch .on).headFor ch l =
      s.act ch { s.stillAct ch with sw := { headed (s.chan ch) s.runCount s.sw[ch] l with state := .on } } := by
    rw [State.headFor_setSw, State.goTo_setSw_act (by rw [headed_state, State.goTo_sw, if_pos rfl])]
    congr 2
    rw [State.goTo_sw, if_pos rfl, State.goTo_frame]
    unfold headed State.chan
    split_ifs <;> rfl
  unfold State.targetNonZero State.raiseAct
  cases state : s.sw[ch].state with
  | off => exact s.testEligible_act ch
  | hold _ | faulted | locked => exact (s.act_still ch).symm
  | queued =>
    have still := { s with queue := (QueueMove.relevel l).apply ch s.queue }.act_still ch
    exact still.symm
  | ending | fading => exact returns
  | on =>
    have here : s.goTo ch .on = s := if_pos state
    rw [here] at returns
    exact returns

/-! ### Expiries (R104, R111, R113, R114) -/

/-- What the end of a min-on wait makes of a channel (R111). -/
def State.minOnAct (s : State) (ch : Chan) : Act :=
  if s.sw[ch].state = .ending ∧ s.minOnElapsed ch then s.endAct ch else s.stillAct ch

theorem State.endMinOn_act (ch : Chan) (s : State) : s.endMinOn ch = s.act ch (s.minOnAct ch) := by
  unfold State.endMinOn State.minOnAct
  split
  · exact s.endDrive_act ch
  · exact (s.act_still ch).symm

/-- What the end of a min-off wait makes of a channel (R104). -/
def State.minOffAct (s : State) (ch : Chan) : Act :=
  if s.sw[ch].state = .hold .dwell ∧ s.minOffElapsed ch then s.testAct ch else s.stillAct ch

theorem State.endMinOff_act (ch : Chan) (s : State) : s.endMinOff ch = s.act ch (s.minOffAct ch) := by
  unfold State.endMinOff State.minOffAct
  split
  · exact s.testEligible_act ch
  · exact (s.act_still ch).symm

/-- The record of a channel in ON after one level of its ramp (R113). -/
def rampedRecord (now : RunCount) (w : Switching) : Switching :=
  if towards w.applied w.target = w.target then { w with applied := w.target, ramping := false }
  else { w with applied := towards w.applied w.target, rampStamp := now, ramping := true }

theorem State.rampStep_setSw (ch : Chan) (s : State) : s.rampStep ch = s.setSw ch (rampedRecord s.runCount s.sw[ch]) := by
  unfold State.rampStep rampedRecord
  simp only [State.apply, State.setSw_sw, set_getElem_self]
  split
  · rename_i reached
    simp only [State.stopRamp, State.setSw, set_getElem_self, Vector.set_set, reached]
  · simp only [State.beginRampStep, State.setSw, set_getElem_self, Vector.set_set]

/-- What one step of a fade makes of a channel (R114). -/
def State.fadeAct (s : State) (ch : Chan) : Act :=
  if s.sw[ch].applied ≤ 1 then s.dropAct ch .off
  else { s.stillAct ch with
    sw := { s.sw[ch] with applied := s.sw[ch].applied - 1, rampStamp := s.runCount, ramping := false } }

theorem State.fadeStep_act (ch : Chan) (s : State) : s.fadeStep ch = s.act ch (s.fadeAct ch) := by
  unfold State.fadeStep State.fadeAct
  split
  · exact State.drop_goTo_act
  · have record : (s.apply ch (s.sw[ch].applied - 1)).beginRampStep ch false = s.setSw ch
        { s.sw[ch] with applied := s.sw[ch].applied - 1, rampStamp := s.runCount, ramping := false } := by
      simp only [State.apply, State.beginRampStep, State.setSw, set_getElem_self, Vector.set_set]
    rw [record]
    exact State.setSw_act rfl

/-- What the end of a ramp step makes of a channel (R113, R114). -/
def State.rampAct (s : State) (ch : Chan) : Act :=
  if s.rampElapsed ch then
    match s.sw[ch].state with
    | .on => if s.sw[ch].ramping then { s.stillAct ch with sw := rampedRecord s.runCount s.sw[ch] } else s.stillAct ch
    | .fading => s.fadeAct ch
    | .off | .hold _ | .queued | .ending | .faulted | .locked => s.stillAct ch
  else s.stillAct ch

theorem State.endRampStep_act (ch : Chan) (s : State) : s.endRampStep ch = s.act ch (s.rampAct ch) := by
  unfold State.endRampStep State.rampAct
  split
  · cases s.sw[ch].state with
    | off | hold _ | queued | ending | faulted | locked => exact (s.act_still ch).symm
    | fading => exact s.fadeStep_act ch
    | on =>
      dsimp only
      split
      · rw [State.rampStep_setSw]
        refine State.setSw_act ?_
        unfold rampedRecord
        split <;> rfl
      · exact (s.act_still ch).symm
  · exact (s.act_still ch).symm

/-- What a ramp step of 0 makes of a channel (R113, R114). -/
def State.completeAct (s : State) (ch : Chan) : Act :=
  match s.sw[ch].state with
  | .on =>
    if s.sw[ch].ramping then { s.stillAct ch with sw := { s.sw[ch] with applied := s.sw[ch].target, ramping := false } }
    else s.stillAct ch
  | .fading => s.dropAct ch .off
  | .off | .hold _ | .queued | .ending | .faulted | .locked => s.stillAct ch

theorem State.completeRamp_act (ch : Chan) (s : State) : s.completeRamp ch = s.act ch (s.completeAct ch) := by
  unfold State.completeRamp State.completeAct
  cases s.sw[ch].state with
  | off | hold _ | queued | ending | faulted | locked => exact (s.act_still ch).symm
  | fading => exact State.drop_goTo_act
  | on =>
    dsimp only
    split
    · have record : (s.apply ch s.sw[ch].target).stopRamp ch = s.setSw ch
          { s.sw[ch] with applied := s.sw[ch].target, ramping := false } := by
        simp only [State.apply, State.stopRamp, State.setSw, set_getElem_self, Vector.set_set]
      rw [record]
      exact State.setSw_act rfl
    · exact (s.act_still ch).symm

/-! ### The ALL-OFF condition and the hand-back (R119, R132, R134) -/

/-- What the entry of the ALL-OFF condition makes of a channel (R119). -/
def State.forceAct (s : State) (ch : Chan) : Act :=
  match s.sw[ch].state with
  | .on | .ending | .fading => s.dropAct ch (if s.sw[ch].target = 0 then .off else .hold .allOff)
  | .queued | .hold _ => s.moveAct ch (.hold .allOff)
  | .off | .faulted | .locked => s.stillAct ch

theorem State.forceOff_act (ch : Chan) (s : State) : s.forceOff ch = s.act ch (s.forceAct ch) := by
  unfold State.forceOff State.forceAct
  cases s.sw[ch].state with
  | on | ending | fading => exact State.drop_goTo_act
  | queued | hold _ => exact s.goTo_act ch _
  | off | faulted | locked => exact (s.act_still ch).symm

/-- A channel that moves twice, each time out of the switching state it had, is acted on once. -/
theorem State.moveAct_act {ch : Chan} {st : SwState} {b : Act} {s : State} (leaves : s.sw[ch].state ≠ st)
    (arrives : b.sw.state ≠ s.sw[ch].state) : (s.act ch (s.moveAct ch st)).act ch b = s.act ch b := by
  have gaps (u : State) (ret : u.ret = s.ret) (run : u.runCount = s.runCount) (stamps : u.gapStamps = s.gapStamps) :
      (u.stampGroup ch).gapStamps = (s.stampGroup ch).gapStamps := by
    simp only [State.stampGroup_eq, State.chan, ret, run, stamps]
  have flags (x : BitVec 16) : (if b.sw.state = st then x ||| BitVec.twoPow 16 ch.val
      else x ||| BitVec.twoPow 16 ch.val ||| BitVec.twoPow 16 ch.val) = x ||| BitVec.twoPow 16 ch.val := by
    rw [BitVec.or_assoc, BitVec.or_self, ite_self]
  rw [State.act]
  simp only [gaps (s.act ch (s.moveAct ch st)) rfl rfl rfl]
  simp only [State.act, State.moveAct, State.stillAct, vector_set_self, set_getElem_self, Vector.set_set, Ne.symm leaves,
    arrives, Bool.false_eq_true, if_false, flags, QueueMove.apply]

/-- What the hand-back of a FAULTED or LOCKED channel makes of it (R132, R134). -/
def State.backAct (s : State) (ch : Chan) : Act := if s.sw[ch].target = 0 then s.moveAct ch .off else s.testAct ch

theorem State.handBack_act {ch : Chan} {s : State} (rests : s.sw[ch].state = .faulted ∨ s.sw[ch].state = .locked) :
    s.handBack ch = s.act ch (s.backAct ch) := by
  have leaves : s.sw[ch].state ≠ .off := by
    obtain faulted | locked := rests
    · rw [faulted]; nofun
    · rw [locked]; nofun
  have arrives : (s.testAct ch).sw.state ≠ s.sw[ch].state := by
    have state : (s.testAct ch).sw.state = s.eligibility ch := rfl
    rw [state]
    obtain faulted | locked := rests
    · rw [faulted]; obtain ⟨r, h⟩ | h := s.eligibility_waits ch <;> rw [h] <;> nofun
    · rw [locked]; obtain ⟨r, h⟩ | h := s.eligibility_waits ch <;> rw [h] <;> nofun
  have record (c : Chan) : (s.act ch (s.moveAct ch .off)).sw[c] =
      if c = ch then { s.sw[ch] with state := .off } else s.sw[c] := State.act_sw ..
  have tests : (s.act ch (s.moveAct ch .off)).eligibility ch = s.eligibility ch :=
    State.eligibility_of_driven (s := s) (t := s.act ch (s.moveAct ch .off)) rfl rfl rfl (fun _ => rfl)
      (fun c => by
        rw [record]
        split
        · rename_i here
          rw [here]
        · rfl)
      (by rw [record, if_pos rfl]) (by rw [record, if_pos rfl])
  have same : (s.act ch (s.moveAct ch .off)).testAct ch = s.testAct ch := by
    have fault : (s.act ch (s.moveAct ch .off)).faults[ch] = s.faults[ch] := by rw [State.act_faults, if_pos rfl]; rfl
    rw [State.testAct, State.testAct, tests, State.moveAct, State.stillAct, record, if_pos rfl, fault]
    rfl
  unfold State.handBack State.backAct
  rw [State.goTo_act]
  dsimp only
  rw [record, if_pos rfl]
  split
  · rfl
  · rw [State.testEligible_act, same, State.moveAct_act leaves arrives]

/-! ### Admissions (R109) -/

/-- What the admission of an entry makes of its channel (R109, R113, R131). -/
def State.admitAct (s : State) (ch : Chan) (l : Level) : Act :=
  { s.stillAct ch with
    sw := admittedRecord (s.chan ch) s.runCount s.sw[ch] l
    fault := { s.faults[ch] with cleanRunning := true } }

theorem State.admitEntry_act (e : QueueEntry) (s : State) : s.admitEntry e =
    { s.act e.chan (s.admitAct e.chan e.level) with lastAdm := s.runCount, staggerPast := false } := by
  have record := State.admitEntry_sw e s e.chan
  rw [if_pos rfl] at record
  unfold State.admitEntry at record ⊢
  dsimp only at record ⊢
  rw [State.goTo_sw, if_pos rfl] at record
  rw [State.goTo_act]
  simp only [State.act, State.moveAct, State.stillAct, State.setSw_sw, State.setFault_sw, vector_set_self, set_getElem_self, Vector.set_set,
    QueueMove.apply, Bool.false_eq_true, if_false, State.admitAct] at record ⊢
  rw [record]
  rfl

end Sys2Proof.Machine
end

section
/-! The agreement of the switching records, the Switching Queue, the locks and the ALL-OFF condition (R98, R106, R113, R119, R128),
taken apart channel by channel, and what an act keeps of it. -/

namespace Sys2Proof.Machine

/-! ### One record -/

/-- A switching record that is sound by itself: what its state says of the target, the applied level and the ramp (R98, R113). -/
def Switching.Sound (w : Switching) : Prop :=
  match w.state with
  | .off => w.applied = 0 ∧ w.target = 0 ∧ w.ramping = false
  | .hold _ | .queued => w.applied = 0 ∧ w.target ≠ 0 ∧ w.ramping = false
  | .on => w.applied ≠ 0 ∧ w.target ≠ 0 ∧ (w.ramping = true ↔ w.applied ≠ w.target)
  | .ending | .fading => w.applied ≠ 0 ∧ w.target = 0 ∧ w.ramping = false
  | .faulted | .locked => w.applied = 0 ∧ w.ramping = false

/-- The same, as the invariant's clauses put it. -/
theorem Switching.sound_iff (w : Switching) : w.Sound ↔
    (w.applied ≠ 0 ↔ w.state.driven = true) ∧
    (w.state = .off ∨ w.state = .ending ∨ w.state = .fading → w.target = 0) ∧
    ((∃ r, w.state = .hold r) ∨ w.state = .queued ∨ w.state = .on → w.target ≠ 0) ∧
    (w.ramping = true ↔ w.state = .on ∧ w.applied ≠ w.target) := by
  unfold Switching.Sound
  cases w.state <;> simp [SwState.driven]

theorem Switching.Sound.driven_iff {w : Switching} (sound : w.Sound) : w.applied ≠ 0 ↔ w.state.driven = true :=
  (w.sound_iff.mp sound).1

theorem Switching.Sound.applied_iff {w : Switching} (sound : w.Sound) : w.applied = 0 ↔ w.state.driven = false := by
  rw [← not_iff_not, Bool.not_eq_false]
  exact sound.driven_iff

theorem Switching.sound_of_on {w : Switching} (on : w.state = .on) :
    w.Sound ↔ w.applied ≠ 0 ∧ w.target ≠ 0 ∧ (w.ramping = true ↔ w.applied ≠ w.target) := by
  rw [Switching.Sound, on]

/-! ### The queue -/

/-- The Switching Queue agrees with the switching records (R106, R107). -/
structure QueueAgrees (q : List QueueEntry) (sw : Vector Switching 16) : Prop where
  queued : ∀ ch : Chan, ch ∈ q.map (·.chan) ↔ sw[ch].state = .queued
  once : (q.map (·.chan)).Nodup
  levels : ∀ e ∈ q, e.level = sw[e.chan].target
  classes : q.Pairwise fun a b => a.queueClass = .normal → b.queueClass = .normal

theorem QueueAgrees.state {q : List QueueEntry} {sw : Vector Switching 16} (agree : QueueAgrees q sw) {e : QueueEntry}
    (waits : e ∈ q) : sw[e.chan].state = .queued := (agree.queued e.chan).mp (List.mem_map_of_mem waits)

theorem QueueAgrees.eq_nil_iff {q : List QueueEntry} {sw : Vector Switching 16} (agree : QueueAgrees q sw) :
    q = [] ↔ ∀ ch : Chan, sw[ch].state ≠ .queued := by
  rw [← List.map_eq_nil_iff (f := (·.chan)), List.eq_nil_iff_forall_not_mem]
  exact forall_congr' fun ch => (agree.queued ch).not

/-- A move of a channel's entry that goes with what becomes of the channel's record. -/
def QueueMove.Fits (m : QueueMove) (before after : Switching) : Prop :=
  match m with
  | .stay => (after.state = .queued ↔ before.state = .queued) ∧ (before.state = .queued → after.target = before.target)
  | .leave => after.state ≠ .queued
  | .relevel l => before.state = .queued ∧ after.state = .queued ∧ after.target = l
  | .enter _ l => before.state ≠ .queued ∧ after.state = .queued ∧ after.target = l

theorem placeEntry_perm (q : List QueueEntry) (e : QueueEntry) : (placeEntry q e).Perm (e :: q) := by
  unfold placeEntry
  cases e.queueClass with
  | normal => exact List.perm_append_singleton e q
  | first =>
    refine List.perm_middle.trans (List.Perm.cons e ?_)
    have others : q.filter (fun x => decide (x.queueClass ≠ .first)) = q.filter fun x => !decide (x.queueClass = .first) :=
      List.filter_congr fun x _ => decide_not
    rw [others]
    exact List.filter_append_perm ..

theorem placeEntry_classes {q : List QueueEntry} (e : QueueEntry)
    (classes : q.Pairwise fun a b => a.queueClass = .normal → b.queueClass = .normal) :
    (placeEntry q e).Pairwise fun a b => a.queueClass = .normal → b.queueClass = .normal := by
  unfold placeEntry
  cases cls : e.queueClass with
  | normal => exact List.pairwise_append.mpr ⟨classes, List.pairwise_singleton .., by simp [cls]⟩
  | first =>
    refine List.pairwise_append.mpr ⟨classes.filter _, List.pairwise_cons.mpr ⟨by simp [cls], classes.filter _⟩, ?_⟩
    simp +contextual

theorem QueueAgrees.move {q : List QueueEntry} {sw : Vector Switching 16} (agree : QueueAgrees q sw) {ch : Chan}
    {m : QueueMove} {w : Switching} (fits : m.Fits sw[ch] w) : QueueAgrees (m.apply ch q) (sw.set ch w) := by
  obtain ⟨queued, once, levels, classes⟩ := agree
  cases m with
  | stay =>
    obtain ⟨state, target⟩ := fits
    refine ⟨fun c => ?_, once, fun e waits => ?_, classes⟩
    · rw [set_getElem]
      split
      · rename_i here
        rw [state, ← here]
        exact queued c
      · exact queued c
    · rw [set_getElem]
      split
      · rename_i here
        rw [target (here ▸ (queued e.chan).mp (List.mem_map_of_mem waits)), ← here]
        exact levels e waits
      · exact levels e waits
  | leave =>
    have leaves : w.state ≠ .queued := fits
    have chans : ((QueueMove.leave.apply ch q).map (·.chan)) = (q.map (·.chan)).filter fun c => decide (c ≠ ch) := by
      rw [List.filter_map]
      rfl
    refine ⟨fun c => ?_, ?_, fun e waits => ?_, classes.filter _⟩
    · rw [chans, set_getElem, List.mem_filter, decide_eq_true_iff, queued]
      split
      · rename_i here
        simp [here, leaves]
      · rename_i other
        simp [-Fin.getElem_fin, other]
    · rw [chans]
      exact once.filter _
    · obtain ⟨waits, other⟩ := List.mem_filter.mp waits
      rw [set_getElem_ne _ _ (of_decide_eq_true other)]
      exact levels e waits
  | relevel l =>
    obtain ⟨before, after, target⟩ := fits
    have chans : ((QueueMove.relevel l).apply ch q).map (·.chan) = q.map (·.chan) := by
      refine List.map_map.trans (List.map_congr_left fun e _ => ?_)
      simp only [Function.comp_apply]
      split <;> rfl
    refine ⟨fun c => ?_, ?_, fun e waits => ?_, ?_⟩
    · rw [chans, queued, set_getElem]
      split
      · rename_i here
        rw [here, before, after]
      · rfl
    · rwa [chans]
    · obtain ⟨x, held, rfl⟩ := List.mem_map.mp waits
      rw [set_getElem]
      by_cases here : x.chan = ch
      · simp [here, target]
      · simpa [-Fin.getElem_fin, here] using levels x held
    · refine List.pairwise_map.mpr (classes.imp fun {a b} sorted => ?_)
      have cls (x : QueueEntry) : (if x.chan = ch then { x with level := l } else x).queueClass = x.queueClass := by
        split <;> rfl
      rwa [cls, cls]
  | enter cls l =>
    obtain ⟨before, after, target⟩ := fits
    have perm := placeEntry_perm q ⟨ch, cls, l⟩
    have fresh : ch ∉ q.map (·.chan) := fun waits => before ((queued ch).mp waits)
    refine ⟨fun c => ?_, ?_, fun e waits => ?_, placeEntry_classes _ classes⟩
    · rw [QueueMove.apply, (perm.map _).mem_iff, List.map_cons, List.mem_cons, queued, set_getElem]
      by_cases here : c = ch
      · simp [here, after]
      · simp [-Fin.getElem_fin, here]
    · rw [QueueMove.apply, (perm.map _).nodup_iff]
      exact List.nodup_cons.mpr ⟨fresh, once⟩
    · obtain rfl | waits := List.mem_cons.mp (perm.mem_iff.mp waits)
      · rw [set_getElem_self]
        exact target.symm
      · have other : e.chan ≠ ch := fun here => fresh (List.mem_map.mpr ⟨e, waits, here⟩)
        rw [set_getElem_ne _ _ other]
        exact levels e waits

/-! ### The state -/

/-- The agreement but for the locks. -/
structure State.ChannelsAgree (s : State) : Prop where
  sound : ∀ ch : Chan, s.sw[ch].Sound
  queue : QueueAgrees s.queue s.sw
  counts : ∀ ch : Chan, s.faults[ch].count ≤ (s.chan ch).retry.val + 1
  allOff : s.allOff = true → ∀ ch : Chan, s.sw[ch].applied = 0 ∧ s.sw[ch].state ≠ .queued
  handOffs : ∀ ts ∈ s.mail.handOffs, (ts.map (·.1)).Nodup

/-- The lock is set exactly while the state is LOCKED (R128). -/
def State.LocksAgree (s : State) : Prop := ∀ ch : Chan, s.ret.locks[ch] = true ↔ s.sw[ch].state = .locked

theorem State.switchingAgrees_iff (s : State) : s.SwitchingAgrees ↔ s.ChannelsAgree ∧ s.LocksAgree := by
  constructor
  · intro agree
    refine ⟨⟨fun ch => ?_, ⟨agree.queued, agree.once, agree.levels, agree.classes⟩, agree.counts, fun off ch => ?_,
      agree.handOffs⟩, agree.locks⟩
    · exact (Switching.sound_iff _).mpr ⟨agree.applied ch, agree.wishOff ch, agree.wishOn ch, agree.ramp ch⟩
    · obtain ⟨empty, undriven⟩ := agree.allOff off
      refine ⟨undriven ch, fun queued => ?_⟩
      have waits := (agree.queued ch).mpr queued
      rw [empty] at waits
      cases waits
  · rintro ⟨⟨sound, queue, counts, allOff, handOffs⟩, locks⟩
    have record (ch : Chan) := (Switching.sound_iff _).mp (sound ch)
    exact ⟨queue.queued, queue.once, queue.levels, queue.classes, fun ch => (record ch).1, fun ch => (record ch).2.1,
      fun ch => (record ch).2.2.1, fun ch => (record ch).2.2.2, locks, counts,
      fun off => ⟨queue.eq_nil_iff.mpr fun ch => (allOff off ch).2, fun ch => (allOff off ch).1⟩, handOffs⟩

theorem State.SwitchingAgrees.channels {s : State} (agree : s.SwitchingAgrees) : s.ChannelsAgree :=
  (s.switchingAgrees_iff.mp agree).1

/-- An act that keeps the channels in agreement: the record it leaves is sound, and its entry's move fits it. -/
structure Act.Fits (a : Act) (s : State) (ch : Chan) : Prop where
  sound : a.sw.Sound
  count : a.fault.count ≤ (s.chan ch).retry.val + 1
  allOff : s.allOff = true → a.sw.applied = 0 ∧ a.sw.state ≠ .queued
  move : a.move.Fits s.sw[ch] a.sw

/-- An act that keeps the whole agreement neither locks nor unlocks the channel. -/
structure Act.Keeps (a : Act) (s : State) (ch : Chan) : Prop extends Act.Fits a s ch where
  locked : a.sw.state = .locked ↔ s.sw[ch].state = .locked

theorem State.ChannelsAgree.act {s : State} (agree : s.ChannelsAgree) {ch : Chan} {a : Act} (fits : a.Fits s ch) :
    (s.act ch a).ChannelsAgree where
  sound c := by
    rw [State.act_sw]
    split
    · exact fits.sound
    · exact agree.sound c
  queue := agree.queue.move fits.move
  counts c := by
    rw [State.act_faults]
    split
    · rename_i here
      rw [here]
      exact fits.count
    · exact agree.counts c
  allOff off c := by
    rw [State.act_sw]
    split
    · exact fits.allOff off
    · exact agree.allOff off c
  handOffs := agree.handOffs

theorem State.LocksAgree.act {s : State} (agree : s.LocksAgree) {ch : Chan} {a : Act}
    (locked : a.sw.state = .locked ↔ s.sw[ch].state = .locked) : (s.act ch a).LocksAgree := by
  intro c
  rw [State.act_sw]
  refine (agree c).trans ?_
  split
  · rename_i here
    rw [here, locked]
  · rfl

theorem State.SwitchingAgrees.act {s : State} (agree : s.SwitchingAgrees) {ch : Chan} {a : Act} (keeps : a.Keeps s ch) :
    (s.act ch a).SwitchingAgrees := by
  obtain ⟨channels, locks⟩ := s.switchingAgrees_iff.mp agree
  exact (State.switchingAgrees_iff _).mpr ⟨channels.act keeps.toFits, locks.act keeps.locked⟩

/-- Several channels acted on keep the agreement where each act does. -/
theorem State.SwitchingAgrees.actAll {s : State} (agree : s.SwitchingAgrees) {a : Chan → Act} {chs : List Chan}
    (once : chs.Nodup) (keeps : ∀ ch ∈ chs, (a ch).Keeps s ch) : (s.actAll a chs).SwitchingAgrees := by
  induction chs generalizing s with
  | nil => exact agree
  | cons ch chs ih =>
    obtain ⟨fresh, once⟩ := List.nodup_cons.mp once
    refine ih (agree.act (keeps ch List.mem_cons_self)) once fun c hc => ?_
    have other : c ≠ ch := fun same => fresh (same ▸ hc)
    obtain ⟨⟨sound, count, allOff, move⟩, locked⟩ := keeps c (List.mem_cons_of_mem _ hc)
    have record : (s.act ch (a ch)).sw[c] = s.sw[c] := by rw [State.act_sw, if_neg other]
    refine ⟨⟨sound, count, allOff, ?_⟩, ?_⟩ <;> rw [record]
    · exact move
    · exact locked

/-- What the agreement of the channels reads. -/
theorem State.ChannelsAgree.of_eq {s t : State} (agree : s.ChannelsAgree) (sw : t.sw = s.sw) (queue : t.queue = s.queue)
    (counts : ∀ ch : Chan, t.faults[ch].count ≤ (t.chan ch).retry.val + 1) (allOff : t.allOff = true → s.allOff = true)
    (handOffs : ∀ ts ∈ t.mail.handOffs, (ts.map (·.1)).Nodup) : t.ChannelsAgree := by
  refine ⟨?_, ?_, counts, fun off => ?_, handOffs⟩
  · rw [sw]; exact agree.sound
  · rw [sw, queue]; exact agree.queue
  · rw [sw]; exact agree.allOff (allOff off)

/-- The agreement reads the sequencer's tables, the retry limits, the locks, the ALL-OFF condition and the hand-offs. -/
theorem State.SwitchingAgrees.of_eq {s t : State} (agree : s.SwitchingAgrees) (sw : t.sw = s.sw) (queue : t.queue = s.queue)
    (counts : ∀ ch : Chan, t.faults[ch].count ≤ (t.chan ch).retry.val + 1) (locks : t.ret.locks = s.ret.locks)
    (allOff : t.allOff = true → s.allOff = true) (handOffs : ∀ ts ∈ t.mail.handOffs, (ts.map (·.1)).Nodup) :
    t.SwitchingAgrees := by
  obtain ⟨channels, locked⟩ := s.switchingAgrees_iff.mp agree
  refine (State.switchingAgrees_iff _).mpr ⟨channels.of_eq sw queue counts allOff handOffs, ?_⟩
  rw [State.LocksAgree, sw, locks]
  exact locked

end Sys2Proof.Machine
end

section
/-! Admissions and events keep the agreement of the switching (R106, R109, R115), and so does every act of the sequencer's
operations. -/

namespace Sys2Proof.Machine

/-! ### Admissions and events -/

theorem risesTo_iff (r : ChanRec) (l : Level) : risesTo r l = true ↔ (r.kind = .dimmed ∧ r.ramp ≠ 0) ∧ 1 < l := by
  rw [risesTo, decide_eq_true_iff, and_assoc]

/-- An admitted channel is driven, and ramps exactly while it is below the level it was admitted at (R109, R113). -/
theorem admittedRecord_sound (r : ChanRec) (now : RunCount) (w : Switching) {l : Level} (wanted : l ≠ 0)
    (target : w.target = l) : (admittedRecord r now w l).Sound := by
  unfold Switching.Sound admittedRecord
  simp only [target]
  cases rises : risesTo r l with
  | true =>
    have above : 1 < l := ((risesTo_iff r l).mp rises).2
    simp [wanted, above.ne]
  | false => simp [wanted]

/-- The head of the queue admitted, as one act on the part before it (R108, R109). -/
theorem State.admitHead_act {s : State} {e : QueueEntry} {rest : List QueueEntry} (queue : s.queue = e :: rest)
    (once : (s.queue.map (·.chan)).Nodup) : { s with queue := rest }.admitEntry e =
      { s.act e.chan { s.admitAct e.chan e.level with move := .leave } with
        lastAdm := s.runCount, staggerPast := false } := by
  rw [queue, List.map_cons, List.nodup_cons] at once
  have left : QueueMove.leave.apply e.chan s.queue = rest := by
    rw [queue, QueueMove.apply, List.filter_cons_of_neg (by simp), List.filter_eq_self]
    exact fun x hx => decide_eq_true fun same => once.1 (same ▸ List.mem_map_of_mem hx)
  rw [State.admitEntry_act]
  unfold State.act
  simp only [left]
  rfl

theorem State.SwitchingAgrees.admitHead {s : State} (agree : s.SwitchingAgrees) {e : QueueEntry} {rest : List QueueEntry}
    (queue : s.queue = e :: rest) : ({ s with queue := rest }.admitEntry e).SwitchingAgrees := by
  have waits : e ∈ s.queue := queue ▸ List.mem_cons_self
  have state : s.sw[e.chan].state = .queued := agree.channels.queue.state waits
  have level := agree.levels e waits
  rw [State.admitHead_act queue agree.once]
  have keeps : ({ s.admitAct e.chan e.level with move := .leave } : Act).Keeps s e.chan := by
    refine ⟨⟨?_, agree.counts e.chan, fun off => absurd state (agree.channels.allOff off e.chan).2, by nofun⟩, ?_⟩
    · exact admittedRecord_sound _ _ _ (level ▸ agree.wishOn e.chan (.inr (.inl state))) level.symm
    · rw [state]
      exact iff_of_false nofun nofun
  have acted := agree.act keeps
  exact acted.of_eq rfl rfl acted.counts rfl id acted.handOffs

theorem State.SwitchingAgrees.admitDue {s : State} (agree : s.SwitchingAgrees) : s.admitDue.SwitchingAgrees := by
  unfold State.admitDue
  generalize s.queue.length = n
  induction n generalizing s with
  | zero => exact agree
  | succ n ih =>
    unfold State.admitUpTo
    split
    · exact agree
    · rename_i e rest queue
      split
      · exact ih (agree.admitHead queue)
      · exact agree

/-- An event of the sequencer keeps the agreement where its change does. -/
theorem State.SwitchingAgrees.sequencerEvent {f : State → State} {s : State} (change : (f s).SwitchingAgrees) :
    (sequencerEvent f s).SwitchingAgrees := by
  unfold Machine.sequencerEvent
  rw [State.postLevels_eq]
  dsimp only
  split
  · exact change.admitDue.of_eq rfl rfl change.admitDue.counts rfl id change.admitDue.handOffs
  · exact change.of_eq rfl rfl change.counts rfl id change.handOffs

/-! ### Acts -/

section Acts

variable {s u : State} {ch : Chan}

theorem State.SwitchingAgrees.stillAct (agree : s.SwitchingAgrees) (ch : Chan) : (s.stillAct ch).Keeps s ch :=
  ⟨⟨agree.channels.sound ch, agree.counts ch, fun off => agree.channels.allOff off ch, Iff.rfl, fun _ => rfl⟩, Iff.rfl⟩

/-- The tests keep the channels in agreement, on a channel that is not driven and has a target that is not 0. -/
theorem State.testAct_fits (undriven : u.sw[ch].applied = 0) (steady : u.sw[ch].ramping = false)
    (wanted : u.sw[ch].target ≠ 0) (new : s.sw[ch].state ≠ .queued)
    (count : u.faults[ch].count ≤ (s.chan ch).retry.val + 1) (allOff : u.allOff = s.allOff) :
    (u.testAct ch).Fits s ch := by
  have state : (u.testAct ch).sw = { u.sw[ch] with state := u.eligibility ch } := rfl
  refine ⟨?_, count, fun off => ⟨undriven, ?_⟩, ?_⟩
  · obtain ⟨r, held⟩ | queued := u.eligibility_waits ch
    · rw [state, held]
      exact ⟨undriven, wanted, steady⟩
    · rw [state, queued]
      exact ⟨undriven, wanted, steady⟩
  · have held := (u.eligibility_cases ch).1 (allOff.trans off)
    rw [state, held]
    nofun
  · unfold State.testAct
    dsimp only
    split
    · rename_i queued
      exact ⟨new, queued, rfl⟩
    · rename_i waits
      exact ⟨iff_of_false waits new, fun queued => absurd queued new⟩

/-- The tests lock and unlock no channel. -/
theorem State.testAct_locked (unlocked : s.sw[ch].state ≠ .locked) :
    (u.testAct ch).sw.state = .locked ↔ s.sw[ch].state = .locked := by
  have state : (u.testAct ch).sw.state = u.eligibility ch := rfl
  rw [state]
  refine iff_of_false ?_ unlocked
  obtain ⟨r, held⟩ | queued := u.eligibility_waits ch
  · rw [held]; nofun
  · rw [queued]; nofun

/-- A channel of the queue is driven by nothing, and a driven one waits for nothing. -/
theorem State.SwitchingAgrees.not_allOff (agree : s.SwitchingAgrees) (driven : s.sw[ch].state.driven = true) :
    s.allOff = false :=
  Bool.eq_false_iff.mpr fun off => (agree.applied ch).mpr driven ((agree.allOff off).2 ch)

/-- An act on a driven channel that leaves its entry and its lock alone keeps the agreement where it leaves a sound record. -/
theorem State.SwitchingAgrees.keeps_of_driven (agree : s.SwitchingAgrees) {a : Act} (driven : s.sw[ch].state.driven = true)
    (sound : a.sw.Sound) (count : a.fault.count ≤ (s.chan ch).retry.val + 1) (move : a.move = .stay)
    (unqueued : a.sw.state ≠ .queued) (unlocked : a.sw.state ≠ .locked) : a.Keeps s ch := by
  have before : s.sw[ch].state ≠ .queued ∧ s.sw[ch].state ≠ .locked := by
    constructor <;> intro state <;> rw [state] at driven <;> cases driven
  refine ⟨⟨sound, count, fun off => ?_, ?_⟩, iff_of_false unlocked before.2⟩
  · rw [agree.not_allOff driven] at off
    cases off
  · rw [move]
    exact ⟨iff_of_false unqueued before.1, fun queued => absurd queued before.1⟩

/-- The end of the drive of a channel whose target is 0 (R102, R111). -/
theorem State.SwitchingAgrees.endAct (agree : s.SwitchingAgrees) (driven : s.sw[ch].state.driven = true)
    (applied : u.sw[ch].applied = s.sw[ch].applied) (zero : u.sw[ch].target = 0) (faults : u.faults[ch] = s.faults[ch]) :
    (u.endAct ch).Keeps s ch := by
  have count : u.faults[ch].count ≤ (s.chan ch).retry.val + 1 := faults ▸ agree.counts ch
  have level : u.sw[ch].applied ≠ 0 := applied ▸ (agree.applied ch).mpr driven
  unfold State.endAct
  split
  · exact agree.keeps_of_driven driven ⟨level, zero, rfl⟩ count rfl nofun nofun
  · exact agree.keeps_of_driven driven ⟨rfl, zero, rfl⟩ count rfl nofun nofun

/-- A new target of 0 (R101, R102), `u` being the part with it recorded. -/
theorem State.SwitchingAgrees.lowerAct (agree : s.SwitchingAgrees) (record : u.sw[ch] = { s.sw[ch] with target := 0 })
    (faults : u.faults[ch] = s.faults[ch]) : (u.lowerAct ch).Keeps s ch := by
  have sound := agree.channels.sound ch
  have count : u.faults[ch].count ≤ (s.chan ch).retry.val + 1 := faults ▸ agree.counts ch
  have rest := agree.channels.allOff
  have still (unqueued : s.sw[ch].state ≠ .queued) (lowered : ({ s.sw[ch] with target := 0 } : Switching).Sound) :
      (u.stillAct ch).Keeps s ch := by
    have sw : (u.stillAct ch).sw = { s.sw[ch] with target := 0 } := record
    refine ⟨⟨?_, count, fun off => ?_, ?_⟩, ?_⟩ <;> rw [sw]
    · exact lowered
    · exact rest off ch
    · exact ⟨Iff.rfl, fun queued => absurd queued unqueued⟩
  have goes {m : QueueMove} (undriven : s.sw[ch].applied = 0) (steady : s.sw[ch].ramping = false)
      (unlocked : s.sw[ch].state ≠ .locked) (move : m.Fits s.sw[ch] { s.sw[ch] with state := .off, target := 0 }) :
      ({ u.moveAct ch .off with move := m } : Act).Keeps s ch := by
    have sw : (u.moveAct ch .off).sw = { s.sw[ch] with state := .off, target := 0 } := by
      rw [State.moveAct, record]
    refine ⟨⟨?_, count, fun off => ?_, ?_⟩, iff_of_false nofun unlocked⟩ <;> dsimp only <;> rw [sw]
    · exact ⟨undriven, rfl, steady⟩
    · exact ⟨undriven, nofun⟩
    · exact move
  unfold State.lowerAct
  cases state : s.sw[ch].state with
  | off | ending | fading | faulted | locked =>
    rw [Switching.Sound, state] at sound
    simp only [record, state]
    refine still (by rw [state]; nofun) ?_
    simp [-Fin.getElem_fin, Switching.Sound, state, sound]
  | hold r =>
    rw [Switching.Sound, state] at sound
    simp only [record, state]
    refine goes sound.1 sound.2.2 (by rw [state]; nofun) ?_
    simp [-Fin.getElem_fin, QueueMove.Fits, State.stillAct, state]
  | queued =>
    rw [Switching.Sound, state] at sound
    simp only [record, state]
    exact goes sound.1 sound.2.2 (by rw [state]; nofun) nofun
  | on =>
    have driven : s.sw[ch].state.driven = true := by rw [state]; rfl
    rw [Switching.Sound, state] at sound
    have recorded : u.sw[ch].state = .on := by rw [record]; exact state
    rw [recorded]
    dsimp only
    split
    · exact agree.endAct driven (by rw [record]) (by rw [record]) faults
    · refine agree.keeps_of_driven driven ?_ count rfl nofun nofun
      rw [record]
      exact ⟨sound.1, rfl, rfl⟩

/-- A driven channel that heads for a non-zero level in ON is sound (R102, R113). -/
theorem headed_sound (r : ChanRec) (now : RunCount) {w : Switching} {l : Level} (wanted : l ≠ 0) (driven : w.applied ≠ 0)
    (target : w.target = l) :
    ({ headed r now w l with state := .on } : Switching).Sound := by
  unfold headed Switching.Sound
  split_ifs with dimmed reached running
  · simp [reached, target, wanted]
  · simp [reached, target, wanted, driven, running]
  · simp [reached, target, wanted, driven]
  · simp [target, wanted]

/-- A new non-zero target (R101, R102), `u` being the part with it recorded. -/
theorem State.SwitchingAgrees.raiseAct (agree : s.SwitchingAgrees) {l : Level} (wanted : l ≠ 0)
    (record : u.sw[ch] = { s.sw[ch] with target := l }) (faults : u.faults[ch] = s.faults[ch])
    (allOff : u.allOff = s.allOff) : (u.raiseAct ch l).Keeps s ch := by
  have sound := agree.channels.sound ch
  have count : u.faults[ch].count ≤ (s.chan ch).retry.val + 1 := faults ▸ agree.counts ch
  have rest := agree.channels.allOff
  have still {m : QueueMove} (raised : ({ s.sw[ch] with target := l } : Switching).Sound)
      (move : m.Fits s.sw[ch] { s.sw[ch] with target := l }) : ({ u.stillAct ch with move := m } : Act).Keeps s ch := by
    have sw : (u.stillAct ch).sw = { s.sw[ch] with target := l } := record
    refine ⟨⟨?_, count, fun off => ?_, ?_⟩, ?_⟩ <;> dsimp only <;> rw [sw]
    · exact raised
    · exact rest off ch
    · exact move
  unfold State.raiseAct
  cases state : s.sw[ch].state with
  | off =>
    rw [Switching.Sound, state] at sound
    simp only [record, state]
    refine ⟨State.testAct_fits ?_ ?_ ?_ ?_ count allOff, State.testAct_locked ?_⟩
    · rw [record]; exact sound.1
    · rw [record]; exact sound.2.2
    · rw [record]; exact wanted
    · rw [state]; nofun
    · rw [state]; nofun
  | hold _ | faulted | locked =>
    rw [Switching.Sound, state] at sound
    simp only [record, state]
    refine still (m := .stay) ?_ ⟨Iff.rfl, fun queued => ?_⟩
    · simp [-Fin.getElem_fin, Switching.Sound, state, sound, wanted]
    · rw [state] at queued
      cases queued
  | queued =>
    rw [Switching.Sound, state] at sound
    simp only [record, state]
    refine still ?_ ⟨state, state, rfl⟩
    simp [-Fin.getElem_fin, Switching.Sound, state, sound, wanted]
  | on | ending | fading =>
    rw [Switching.Sound, state] at sound
    have driven : s.sw[ch].state.driven = true := by rw [state]; rfl
    simp only [record, state]
    exact agree.keeps_of_driven driven (headed_sound _ _ wanted sound.1 rfl) count rfl nofun nofun

end Acts

end Sys2Proof.Machine
end

section
/-! The sequencer's and the output stage's changes keep the agreement of the switching: expiries, hand-offs, changed lengths, the
ALL-OFF condition, faults (R100, R104, R111 to R114, R118 to R120, R130 to R134). -/

namespace Sys2Proof.Machine

section Expiries

variable {s : State}

theorem State.SwitchingAgrees.endMinOn (agree : s.SwitchingAgrees) (ch : Chan) : (s.endMinOn ch).SwitchingAgrees := by
  rw [State.endMinOn_act]
  refine agree.act ?_
  unfold State.minOnAct
  split
  · rename_i due
    exact agree.endAct (by rw [due.1]; rfl) rfl (agree.wishOff ch (.inr (.inl due.1))) rfl
  · exact agree.stillAct ch

/-- A channel in HOLD makes the tests. -/
theorem State.SwitchingAgrees.testAct (agree : s.SwitchingAgrees) {ch : Chan} {r : HoldReason}
    (held : s.sw[ch].state = .hold r) : (s.testAct ch).Keeps s ch := by
  have sound := agree.channels.sound ch
  rw [Switching.Sound, held] at sound
  obtain ⟨undriven, wanted, steady⟩ := sound
  exact ⟨State.testAct_fits undriven steady wanted (by rw [held]; nofun) (agree.counts ch) rfl,
    State.testAct_locked (by rw [held]; nofun)⟩

theorem State.SwitchingAgrees.endMinOff (agree : s.SwitchingAgrees) (ch : Chan) : (s.endMinOff ch).SwitchingAgrees := by
  rw [State.endMinOff_act]
  refine agree.act ?_
  unfold State.minOffAct
  split
  · rename_i due
    exact agree.testAct due.1
  · exact agree.stillAct ch

/-- Channels in HOLD make the tests one after another. -/
theorem State.SwitchingAgrees.retest (agree : s.SwitchingAgrees) {test : State → Chan → Bool}
    (held : ∀ (u : State) (ch : Chan), test u ch = true → ∃ r, u.sw[ch].state = .hold r) (chs : List Chan) :
    (s.retest test chs).SwitchingAgrees := by
  induction chs generalizing s with
  | nil => exact agree
  | cons ch chs ih =>
    refine ih ?_
    dsimp only
    split
    · rename_i tested
      obtain ⟨r, state⟩ := held s ch tested
      rw [State.testEligible_act]
      exact agree.act (agree.testAct state)
    · exact agree

theorem State.SwitchingAgrees.endGap (agree : s.SwitchingAgrees) (g : Group) : (s.endGap g).SwitchingAgrees := by
  unfold State.endGap
  split
  · exact agree.retest (fun u ch tested => ⟨.group, of_decide_eq_true (Bool.and_eq_true_iff.mp tested).2⟩) _
  · exact agree

/-- One level up. -/
theorem towards_up {l target : Level} (below : l < target) : (towards l target).val = l.val + 1 := by
  rw [towards, if_pos below]
  exact Fin.val_add_one_of_lt' (Nat.lt_of_le_of_lt (Nat.succ_le_of_lt below) target.isLt)

/-- One level down from a level that is not 0. -/
theorem level_down {l : Level} (some : l ≠ 0) : (l - 1).val + 1 = l.val := by
  have pos : 0 < l.val := Nat.pos_of_ne_zero fun zero => some (Fin.ext zero)
  rw [Fin.sub_val_of_le (show (1 : Level) ≤ l from pos)]
  exact Nat.sub_add_cancel pos

theorem towards_down {l target : Level} (above : target < l) : (towards l target).val + 1 = l.val := by
  rw [towards, if_neg above.asymm, if_pos above]
  exact level_down (Fin.ne_zero_of_lt above)

/-- One level toward a target that is not 0, from a level that is not 0, is not 0. -/
theorem towards_ne_zero {l target : Level} (some : l ≠ 0) (wanted : target ≠ 0) : towards l target ≠ 0 := by
  intro zero
  have val : (towards l target).val = 0 := congrArg Fin.val zero
  obtain below | same | above := lt_trichotomy l target
  · have up := towards_up below
    omega
  · subst same
    rw [towards, if_neg (lt_irrefl l), if_neg (lt_irrefl l)] at zero
    exact some zero
  · have down := towards_down above
    have low : 0 < target.val := Nat.pos_of_ne_zero fun zero => wanted (Fin.ext zero)
    have under : target.val < l.val := above
    omega

theorem rampedRecord_state (now : RunCount) (w : Switching) : (rampedRecord now w).state = w.state := by
  unfold rampedRecord
  split <;> rfl

theorem rampedRecord_sound (now : RunCount) {w : Switching} (on : w.state = .on) (driven : w.applied ≠ 0)
    (wanted : w.target ≠ 0) : (rampedRecord now w).Sound := by
  rw [Switching.sound_of_on ((rampedRecord_state now w).trans on)]
  unfold rampedRecord
  split
  · exact ⟨wanted, wanted, by simp⟩
  · rename_i off
    exact ⟨towards_ne_zero driven wanted, wanted, by simp [off]⟩

theorem State.SwitchingAgrees.fadeAct (agree : s.SwitchingAgrees) {ch : Chan} (fading : s.sw[ch].state = .fading) :
    (s.fadeAct ch).Keeps s ch := by
  have driven : s.sw[ch].state.driven = true := by rw [fading]; rfl
  have zero := agree.wishOff ch (.inr (.inr fading))
  unfold State.fadeAct
  split
  · exact agree.keeps_of_driven driven ⟨rfl, zero, rfl⟩ (agree.counts ch) rfl nofun nofun
  · rename_i above
    refine agree.keeps_of_driven driven ?_ (agree.counts ch) rfl ?_ ?_
    · rw [Switching.Sound, fading]
      refine ⟨fun last => above ?_, zero, rfl⟩
      exact (sub_eq_zero.mp last).le
    · dsimp only
      rw [fading]
      nofun
    · dsimp only
      rw [fading]
      nofun

theorem State.SwitchingAgrees.endRampStep (agree : s.SwitchingAgrees) (ch : Chan) :
    (s.endRampStep ch).SwitchingAgrees := by
  rw [State.endRampStep_act]
  refine agree.act ?_
  unfold State.rampAct
  split
  · cases state : s.sw[ch].state with
    | off | hold _ | queued | ending | faulted | locked => exact agree.stillAct ch
    | fading => exact agree.fadeAct state
    | on =>
      dsimp only
      split
      · have sound := agree.channels.sound ch
        rw [Switching.Sound, state] at sound
        obtain ⟨driven, wanted, -⟩ := sound
        have ramped : (rampedRecord s.runCount s.sw[ch]).state = .on := (rampedRecord_state ..).trans state
        refine agree.keeps_of_driven (by rw [state]; rfl) (rampedRecord_sound _ state driven wanted) (agree.counts ch) rfl
          ?_ ?_
        · rw [ramped]; nofun
        · rw [ramped]; nofun
      · exact agree.stillAct ch
  · exact agree.stillAct ch

theorem State.SwitchingAgrees.completeRamp (agree : s.SwitchingAgrees) (ch : Chan) :
    (s.completeRamp ch).SwitchingAgrees := by
  rw [State.completeRamp_act]
  refine agree.act ?_
  unfold State.completeAct
  cases state : s.sw[ch].state with
  | off | hold _ | queued | ending | faulted | locked => exact agree.stillAct ch
  | fading =>
    exact agree.keeps_of_driven (by rw [state]; rfl) ⟨rfl, agree.wishOff ch (.inr (.inr state)), rfl⟩ (agree.counts ch) rfl
      nofun nofun
  | on =>
    dsimp only
    split
    · have wanted := agree.wishOn ch (.inr (.inr state))
      refine agree.keeps_of_driven (by rw [state]; rfl) ?_ (agree.counts ch) rfl ?_ ?_
      · simp [-Fin.getElem_fin, Switching.Sound, state, wanted]
      · rw [state]; nofun
      · rw [state]; nofun
    · exact agree.stillAct ch

/-- A mark is no part of the agreement. -/
theorem State.SwitchingAgrees.markLongPast (agree : s.SwitchingAgrees) (t : LongPastTimer) :
    (s.markLongPast t).SwitchingAgrees := by
  have marked {ch : Chan} {w : Switching} (same : w = { s.sw[ch] with minOnPast := w.minOnPast, minOffPast := w.minOffPast }) :
      (s.setSw ch w).SwitchingAgrees := by
    have still := agree.stillAct ch
    have state : w.state = s.sw[ch].state := by rw [same]
    rw [State.setSw_act state]
    refine agree.act ⟨⟨?_, still.count, fun off => ?_, ?_⟩, ?_⟩ <;> dsimp only <;> rw [same]
    · exact still.sound
    · exact still.allOff off
    · exact still.move
  unfold State.markLongPast
  cases t with
  | minOn ch | minOff ch =>
    dsimp only
    split
    · exact marked rfl
    · exact agree
  | gap g | stagger =>
    dsimp only
    split
    · exact agree.of_eq rfl rfl agree.counts rfl id agree.handOffs
    · exact agree

end Expiries

/-! ### Hand-offs (R100) -/

/-- The targets after a hand-off that names no channel twice: those named, and the others as they were. -/
def State.targetsWith (s : State) (ts : List (Chan × Level)) (ch : Chan) : Level :=
  ((ts.find? fun p => decide (p.1 = ch)).map fun p => p.2).getD s.sw[ch].target

section HandOff

variable {s : State} {ts : List (Chan × Level)} (once : (ts.map (·.1)).Nodup)

include once in
theorem State.targetsWith_mem {p : Chan × Level} (named : p ∈ ts) : s.targetsWith ts p.1 = p.2 := by
  have found : ts.find? (fun q => decide (q.1 = p.1)) = some p := by
    induction ts with
    | nil => cases named
    | cons q ts ih =>
      rw [List.map_cons, List.nodup_cons] at once
      rw [List.find?_cons]
      obtain rfl | later := List.mem_cons.mp named
      · simp
      · have other : q.1 ≠ p.1 := fun same => once.1 (same ▸ List.mem_map_of_mem later)
        simp [other, ih once.2 later]
  rw [State.targetsWith, found]
  rfl

theorem State.targetsWith_other {ch : Chan} (other : ch ∉ ts.map (·.1)) : s.targetsWith ts ch = s.sw[ch].target := by
  have none : ts.find? (fun q => decide (q.1 = ch)) = none :=
    List.find?_eq_none.mpr fun q hq => by simpa using fun same : q.1 = ch => other (same ▸ List.mem_map_of_mem hq)
  rw [State.targetsWith, none]
  rfl

include once in
/-- The hand-off, as its channels with their targets. -/
theorem State.handOff_eq_map (s : State) : ts = (ts.map (·.1)).map fun ch => (ch, s.targetsWith ts ch) := by
  rw [List.map_map]
  refine (List.map_id ts).symm.trans (List.map_congr_left fun p named => ?_)
  exact Prod.ext rfl (State.targetsWith_mem once named).symm

/-- The channels of a hand-off that go to 0. -/
def State.lowered (s : State) (ts : List (Chan × Level)) : List Chan :=
  (ts.map (·.1)).filter fun ch => decide (s.targetsWith ts ch = 0)

/-- The channels of a hand-off that rise or change level. -/
def State.raised (s : State) (ts : List (Chan × Level)) : List Chan :=
  (ts.map (·.1)).filter fun ch => decide (s.targetsWith ts ch ≠ 0)

theorem State.mem_lowered {ch : Chan} : ch ∈ s.lowered ts ↔ ch ∈ ts.map (·.1) ∧ s.targetsWith ts ch = 0 := by
  rw [State.lowered, List.mem_filter, decide_eq_true_iff]

theorem State.mem_raised {ch : Chan} : ch ∈ s.raised ts ↔ ch ∈ ts.map (·.1) ∧ s.targetsWith ts ch ≠ 0 := by
  rw [State.raised, List.mem_filter, decide_eq_true_iff]

/-- The part once the targets are recorded (R100). -/
structure State.Records (s : State) (ts : List (Chan × Level)) (r : State) : Prop where
  frame : r = { s with sw := r.sw }
  sw : ∀ ch : Chan, r.sw[ch] = { s.sw[ch] with target := s.targetsWith ts ch }

include once in
theorem State.recordTargets_records (s : State) : s.Records ts (s.recordTargets ts) := by
  refine ⟨State.recordTargets_eq ts s, fun ch => ?_⟩
  have recorded := State.recordTargets_sw (s.targetsWith ts) (ts.map (·.1)) s ch
  rw [← State.handOff_eq_map once s] at recorded
  rw [recorded]
  split
  · rfl
  · rename_i other
    rw [State.targetsWith_other other]

include once in
theorem State.passZero_eq (s r : State) : r.passZero ts = (s.lowered ts).foldl (fun r ch => r.targetZero ch) r := by
  have fold (chs : List Chan) (r : State) (target : Chan → Level) :
      r.passZero (chs.map fun ch => (ch, target ch)) =
        (chs.filter fun ch => decide (target ch = 0)).foldl (fun r ch => r.targetZero ch) r := by
    unfold State.passZero
    rw [List.foldl_map, List.foldl_filter]
    simp only [decide_eq_true_eq]
  rw [State.lowered, ← fold, ← State.handOff_eq_map once s]

include once in
theorem State.passNonZero_eq (s r : State) :
    r.passNonZero ts = (s.raised ts).foldl (fun r ch => r.targetNonZero ch (s.targetsWith ts ch)) r := by
  have fold (chs : List Chan) (r : State) (target : Chan → Level) :
      r.passNonZero (chs.map fun ch => (ch, target ch)) =
        (chs.filter fun ch => decide (target ch ≠ 0)).foldl (fun r ch => r.targetNonZero ch (target ch)) r := by
    unfold State.passNonZero
    rw [List.foldl_map, List.foldl_filter]
    simp only [decide_eq_true_eq, ite_not]
  rw [State.raised, ← fold, ← State.handOff_eq_map once s]

end HandOff

end Sys2Proof.Machine
end

section
/-! A hand-off as the acts of its channels (R100): first those that go to 0, then the others. -/

namespace Sys2Proof.Machine

/-! ### What an act reads -/

theorem State.lowerAct_congr {s t : State} {ch : Chan} (ret : t.ret = s.ret) (run : t.runCount = s.runCount)
    (sw : t.sw[ch] = s.sw[ch]) (faults : t.faults[ch] = s.faults[ch]) : t.lowerAct ch = s.lowerAct ch := by
  unfold State.lowerAct State.endAct State.dropAct State.moveAct State.stillAct State.minOnElapsed State.chan
  rw [ret, run, sw, faults]

/-- A new non-zero target drives no channel and stops the drive of none. -/
theorem State.raiseAct_driven {u : State} {ch : Chan} {l : Level} (wanted : l ≠ 0)
    (driven : u.sw[ch].applied ≠ 0 ↔ u.sw[ch].state.driven = true) :
    (u.raiseAct ch l).sw.applied = 0 ↔ u.sw[ch].applied = 0 := by
  unfold State.raiseAct
  cases state : u.sw[ch].state with
  | off | hold _ | faulted | locked | queued => exact Iff.rfl
  | on | ending | fading =>
    have level : u.sw[ch].applied ≠ 0 := driven.mpr (by rw [state]; rfl)
    dsimp only
    unfold headed
    split_ifs <;> simp [-Fin.getElem_fin, level, wanted]

theorem State.raiseAct_stamps (u : State) (ch : Chan) (l : Level) : (u.raiseAct ch l).stamps = false := by
  unfold State.raiseAct
  cases u.sw[ch].state <;> rfl

theorem State.testAct_congr {s t : State} {ch : Chan} (ret : t.ret = s.ret) (sw : t.sw[ch] = s.sw[ch])
    (faults : t.faults[ch] = s.faults[ch]) (tests : t.eligibility ch = s.eligibility ch) : t.testAct ch = s.testAct ch := by
  simp only [State.testAct, State.moveAct, State.stillAct, State.chan, ret, sw, faults, tests]

theorem State.raiseAct_congr {s t : State} {ch : Chan} {l : Level} (ret : t.ret = s.ret) (run : t.runCount = s.runCount)
    (sw : t.sw[ch] = s.sw[ch]) (faults : t.faults[ch] = s.faults[ch]) (tests : t.eligibility ch = s.eligibility ch) :
    t.raiseAct ch l = s.raiseAct ch l := by
  simp only [State.raiseAct, State.testAct_congr ret sw faults tests, State.stillAct, State.chan, ret, run, sw, faults]

/-- Acts that drive no channel, stop the drive of none and make no changeover stamp leave the tests of the other channels. -/
theorem State.eligibility_actAll {s : State} {a : Chan → Act} {done : List Chan}
    (driven : ∀ c ∈ done, (a c).sw.applied = 0 ↔ s.sw[c].applied = 0) (stamps : ∀ c ∈ done, (a c).stamps = false)
    {ch : Chan} (fresh : ch ∉ done) : (s.actAll a done).eligibility ch = s.eligibility ch := by
  have record : (s.actAll a done).sw[ch] = s.sw[ch] := by rw [State.actAll_sw, if_neg fresh]
  refine State.eligibility_of_driven (s.actAll_ret ..) (s.actAll_runCount ..) (s.actAll_pinTaken ..) (fun g => ?_)
    (fun c => ?_) (by rw [record]) (by rw [record])
  · rw [State.actAll_gaps, if_neg]
    rintro ⟨c, hc, stamped, -⟩
    rw [stamps c hc] at stamped
    cases stamped
  · rw [State.actAll_sw]
    split
    · exact driven c ‹_›
    · rfl

/-! ### The hand-off -/

section HandOff

variable {s : State} {ts : List (Chan × Level)}

/-- What a hand-off makes of each of its channels, its targets recorded: those that go to 0 first, and the others as they then find
the part (R100). -/
def State.handAct (s : State) (ts : List (Chan × Level)) (ch : Chan) : Act :=
  if s.targetsWith ts ch = 0 then (s.recordTargets ts).lowerAct ch
  else ((s.recordTargets ts).passZero ts).raiseAct ch (s.targetsWith ts ch)

theorem State.handAct_lowered {ch : Chan} (h : ch ∈ s.lowered ts) :
    s.handAct ts ch = (s.recordTargets ts).lowerAct ch := if_pos (State.mem_lowered.mp h).2

theorem State.handAct_raised {ch : Chan} (h : ch ∈ s.raised ts) :
    s.handAct ts ch = ((s.recordTargets ts).passZero ts).raiseAct ch (s.targetsWith ts ch) :=
  if_neg (State.mem_raised.mp h).2

theorem State.passZero_acts (once : (ts.map (·.1)).Nodup) (s : State) : (s.recordTargets ts).passZero ts =
    (s.recordTargets ts).actAll (s.handAct ts) (s.lowered ts) := by
  rw [State.passZero_eq once s]
  refine State.foldl_eq_actAll (once.filter _) fun done ch hch fresh _ => ?_
  rw [State.targetZero_act, State.handAct_lowered hch]
  congr 1
  refine State.lowerAct_congr (State.actAll_ret ..) (State.actAll_runCount ..) ?_ ?_
  · rw [State.actAll_sw, if_neg fresh]
  · rw [State.actAll_faults, if_neg fresh]

/-- After the first pass, a channel that rises has its record with its target recorded. -/
theorem State.passZero_raised (once : (ts.map (·.1)).Nodup) {ch : Chan} (h : ch ∉ s.lowered ts) :
    ((s.recordTargets ts).passZero ts).sw[ch] = { s.sw[ch] with target := s.targetsWith ts ch } ∧
      ((s.recordTargets ts).passZero ts).faults[ch] = s.faults[ch] := by
  have faults : (s.recordTargets ts).faults = s.faults := by rw [(s.recordTargets_records once).frame]
  rw [State.passZero_acts once, State.actAll_sw, State.actAll_faults, if_neg h, if_neg h, faults]
  exact ⟨(s.recordTargets_records once).sw ch, rfl⟩

theorem State.not_lowered_of_raised {ch : Chan} (h : ch ∈ s.raised ts) : ch ∉ s.lowered ts := fun lowered =>
  (State.mem_raised.mp h).2 (State.mem_lowered.mp lowered).2

/-- A hand-off that names no channel twice is the acts of its channels. -/
theorem State.handOff_acts (once : (ts.map (·.1)).Nodup)
    (driven : ∀ ch : Chan, s.sw[ch].applied ≠ 0 ↔ s.sw[ch].state.driven = true) :
    ((s.recordTargets ts).passZero ts).passNonZero ts =
      (s.recordTargets ts).actAll (s.handAct ts) (s.lowered ts ++ s.raised ts) := by
  rw [State.actAll_append, ← State.passZero_acts once, State.passNonZero_eq once s]
  refine State.foldl_eq_actAll (once.filter _) fun done ch hch fresh before => ?_
  rw [State.targetNonZero_act, State.handAct_raised hch]
  congr 1
  have tests : (((s.recordTargets ts).passZero ts).actAll (s.handAct ts) done).eligibility ch =
      ((s.recordTargets ts).passZero ts).eligibility ch := by
    refine State.eligibility_actAll (fun c hc => ?_) (fun c hc => ?_) fresh
    · rw [State.handAct_raised (before hc)]
      refine State.raiseAct_driven (State.mem_raised.mp (before hc)).2 ?_
      rw [(State.passZero_raised once (State.not_lowered_of_raised (before hc))).1]
      exact driven c
    · rw [State.handAct_raised (before hc)]
      exact State.raiseAct_stamps ..
  refine State.raiseAct_congr (State.actAll_ret ..) (State.actAll_runCount ..) ?_ ?_ tests
  · rw [State.actAll_sw, if_neg fresh]
  · rw [State.actAll_faults, if_neg fresh]

theorem State.mem_lowered_append_raised {ch : Chan} : ch ∈ s.lowered ts ++ s.raised ts ↔ ch ∈ ts.map (·.1) := by
  rw [List.mem_append, State.mem_lowered, State.mem_raised]
  tauto

theorem State.lowered_append_raised_nodup (once : (ts.map (·.1)).Nodup) : (s.lowered ts ++ s.raised ts).Nodup :=
  List.nodup_append.mpr ⟨once.filter _, once.filter _, fun _ low _ high same =>
    State.not_lowered_of_raised high (same ▸ low)⟩

/-- Each act of a hand-off keeps the agreement. -/
theorem State.SwitchingAgrees.handAct (agree : s.SwitchingAgrees) (once : (ts.map (·.1)).Nodup) (ch : Chan) :
    (s.handAct ts ch).Keeps s ch := by
  have records := s.recordTargets_records once
  have faults : (s.recordTargets ts).faults = s.faults := by rw [records.frame]
  unfold State.handAct
  split
  · rename_i zero
    exact agree.lowerAct (by rw [records.sw, zero]) (by rw [faults])
  · rename_i wanted
    obtain ⟨record, fault⟩ := State.passZero_raised (s := s) once fun low => wanted (State.mem_lowered.mp low).2
    refine agree.raiseAct wanted record fault ?_
    rw [State.passZero_acts once, State.actAll_allOff, records.frame]
    rfl

/-- The passes of a hand-off keep the agreement. -/
theorem State.SwitchingAgrees.handOff (agree : s.SwitchingAgrees) (once : (ts.map (·.1)).Nodup) :
    (((s.recordTargets ts).passZero ts).passNonZero ts).SwitchingAgrees := by
  have records := s.recordTargets_records once
  have kept := agree.actAll (State.lowered_append_raised_nodup (s := s) once) fun ch _ => agree.handAct once ch
  have faults : (s.recordTargets ts).faults = s.faults := by rw [records.frame]
  have chan (ch : Chan) : (s.recordTargets ts).chan ch = s.chan ch := by rw [records.frame]; rfl
  rw [State.handOff_acts once agree.applied]
  refine kept.of_eq ?_ ?_ (fun ch => ?_) ?_ ?_ ?_
  · refine Vector.ext fun i hi => ?_
    have record (x : State) := x.actAll_sw (s.handAct ts) (s.lowered ts ++ s.raised ts) ⟨i, hi⟩
    refine (record _).trans (Eq.trans ?_ (record s).symm)
    split
    · rfl
    · rename_i other
      rw [records.sw, State.targetsWith_other fun named => other (State.mem_lowered_append_raised.mpr named)]
  · rw [State.actAll_queue, State.actAll_queue, records.frame]
  · have counts := kept.counts ch
    rw [State.actAll_chan, State.actAll_faults] at counts ⊢
    rwa [chan, faults]
  · rw [State.actAll_ret, State.actAll_ret, records.frame]
  · rw [State.actAll_allOff, State.actAll_allOff, records.frame]
    exact id
  · rw [State.actAll_mail, records.frame]
    exact agree.handOffs

theorem State.SwitchingAgrees.takeHandOff (agree : s.SwitchingAgrees) (once : (ts.map (·.1)).Nodup) :
    (s.takeHandOff ts).SwitchingAgrees := State.SwitchingAgrees.sequencerEvent (agree.handOff once)

end HandOff

end Sys2Proof.Machine
end

section
/-! The ALL-OFF condition, faults and changed lengths keep the agreement of the switching (R79, R81, R110, R118 to R120, R130 to
R134). -/

namespace Sys2Proof.Machine

/-! ### The ALL-OFF condition -/

/-- The part as the entry of the ALL-OFF condition begins: the queue empties and ALL-OFF is raised (R118, R119). -/
def State.forcing (s : State) : State := { s with queue := [] }.raiseAllOff

/-- What the entry makes of a channel reads its records and the run count. -/
theorem State.forceAct_congr {s t : State} {ch : Chan} (run : t.runCount = s.runCount) (sw : t.sw[ch] = s.sw[ch])
    (faults : t.faults[ch] = s.faults[ch]) : t.forceAct ch = s.forceAct ch := by
  unfold State.forceAct State.dropAct State.moveAct State.stillAct
  rw [run, sw, faults]

theorem State.enterAllOff_acts (s : State) : s.enterAllOff = s.forcing.actAll s.forceAct (List.finRange 16) := by
  refine State.foldl_eq_actAll (s := s.forcing) (List.nodup_finRange 16) fun done ch _ fresh _ => ?_
  rw [State.forceOff_act]
  congr 1
  refine State.forceAct_congr (State.actAll_runCount ..) ?_ ?_
  · rw [State.actAll_sw, if_neg fresh]
    rfl
  · rw [State.actAll_faults, if_neg fresh]
    rfl

theorem State.enterAllOff_sw (s : State) (ch : Chan) : s.enterAllOff.sw[ch] = (s.forceAct ch).sw := by
  rw [State.enterAllOff_acts, State.actAll_sw, if_pos (List.mem_finRange ch)]

theorem State.enterAllOff_faults (s : State) (ch : Chan) : s.enterAllOff.faults[ch] = (s.forceAct ch).fault := by
  rw [State.enterAllOff_acts, State.actAll_faults, if_pos (List.mem_finRange ch)]

theorem State.forceAct_stays (s : State) (ch : Chan) : (s.forceAct ch).move = .stay := by
  unfold State.forceAct
  cases s.sw[ch].state <;> rfl

theorem State.enterAllOff_queue (s : State) : s.enterAllOff.queue = [] := by
  rw [State.enterAllOff_acts, State.actAll_queue]
  refine List.foldlRecOn (motive := fun q => q = []) _ _ rfl fun q empty ch _ => ?_
  rw [State.forceAct_stays, empty]
  rfl

/-- What the entry makes of a channel is sound, and neither driven nor QUEUED; it locks and unlocks none (R119). -/
theorem State.forceAct_rests {s : State} {ch : Chan} (sound : s.sw[ch].Sound) :
    (s.forceAct ch).sw.Sound ∧ (s.forceAct ch).sw.applied = 0 ∧ (s.forceAct ch).sw.state ≠ .queued ∧
      ((s.forceAct ch).sw.state = .locked ↔ s.sw[ch].state = .locked) := by
  unfold State.forceAct
  cases state : s.sw[ch].state with
  | on | ending | fading =>
    dsimp only [State.dropAct]
    split
    · rename_i zero
      exact ⟨⟨rfl, zero, rfl⟩, rfl, nofun, iff_of_false nofun nofun⟩
    · rename_i wanted
      exact ⟨⟨rfl, wanted, rfl⟩, rfl, nofun, iff_of_false nofun nofun⟩
  | queued | hold _ =>
    rw [Switching.Sound, state] at sound
    exact ⟨sound, sound.1, nofun, iff_of_false nofun nofun⟩
  | off | faulted | locked =>
    have record : (s.stillAct ch).sw = s.sw[ch] := rfl
    dsimp only
    rw [record, state]
    refine ⟨sound, ?_, nofun, Iff.rfl⟩
    rw [Switching.Sound, state] at sound
    exact sound.1

theorem State.forceAct_count (s : State) (ch : Chan) : (s.forceAct ch).fault.count = s.faults[ch].count := by
  unfold State.forceAct
  cases s.sw[ch].state <;> rfl

section AllOff

variable {s t : State} (agree : s.SwitchingAgrees) (sw : t.sw = s.sw) (faults : t.faults = s.faults)
  (ret : ∃ latch, t.ret = { s.ret with hostLatch := latch }) (mail : t.mail = s.mail)
include agree sw faults ret mail

/-- The entry of the ALL-OFF condition, `t` being the part with the input that brings it (R118, R119). -/
theorem State.SwitchingAgrees.enterAllOff : t.enterAllOff.SwitchingAgrees := by
  obtain ⟨channels, locks⟩ := s.switchingAgrees_iff.mp agree
  obtain ⟨latch, ret⟩ := ret
  have before : t.forcing.ret = t.ret := rfl
  have store : t.enterAllOff.ret = { s.ret with hostLatch := latch } := by
    rw [State.enterAllOff_acts, State.actAll_ret, before, ret]
  have rests (ch : Chan) := State.forceAct_rests (s := t) (ch := ch) (by rw [sw]; exact channels.sound ch)
  refine (State.switchingAgrees_iff _).mpr ⟨⟨fun ch => ?_, ⟨fun ch => ?_, ?_, ?_, ?_⟩, fun ch => ?_, fun _ ch => ?_, ?_⟩,
    fun ch => ?_⟩
  · rw [State.enterAllOff_sw]
    exact (rests ch).1
  · rw [State.enterAllOff_queue, State.enterAllOff_sw]
    exact iff_of_false List.not_mem_nil (rests ch).2.2.1
  · rw [State.enterAllOff_queue]
    exact List.nodup_nil
  · rw [State.enterAllOff_queue]
    exact fun e waits => absurd waits List.not_mem_nil
  · rw [State.enterAllOff_queue]
    exact List.Pairwise.nil
  · rw [State.enterAllOff_faults, State.forceAct_count, faults, State.chan, store]
    exact agree.counts ch
  · rw [State.enterAllOff_sw]
    exact ⟨(rests ch).2.1, (rests ch).2.2.1⟩
  · have handed : t.enterAllOff.mail = t.mail := by rw [State.enterAllOff_acts, State.actAll_mail]; rfl
    rw [handed, mail]
    exact agree.handOffs
  · rw [State.enterAllOff_sw, (rests ch).2.2.2, sw, store]
    exact locks ch

/-- An input that changes, with the entry or the release it brings (R118 to R120). -/
theorem State.SwitchingAgrees.moveAllOff (queue : t.queue = s.queue) :
    (if s.allOff = t.allOff then t else if t.allOff then t.enterAllOff else t.leaveAllOff).SwitchingAgrees := by
  have kept (allOff : t.allOff = true → s.allOff = true) : t.SwitchingAgrees := by
    obtain ⟨latch, ret⟩ := ret
    refine agree.of_eq sw queue (fun ch => ?_) (by rw [ret]) allOff (by rw [mail]; exact agree.handOffs)
    rw [faults, State.chan, ret]
    exact agree.counts ch
  split
  · rename_i same
    exact kept fun off => same.trans off
  · split
    · exact agree.enterAllOff sw faults ret mail
    · rename_i released
      have released := kept fun off => absurd off released
      have raised : t.raiseAllOff.SwitchingAgrees :=
        released.of_eq rfl rfl released.counts rfl id released.handOffs
      exact raised.retest (fun u ch tested => ⟨.allOff, of_decide_eq_true tested⟩) _

end AllOff

section Faults

variable {s : State}

theorem State.SwitchingAgrees.takePin (agree : s.SwitchingAgrees) (b : Bool) : (s.takePin b).SwitchingAgrees :=
  State.SwitchingAgrees.sequencerEvent (f := fun s =>
    let t : State := { s with pinTaken := b }
    if s.allOff = t.allOff then t else if t.allOff then t.enterAllOff else t.leaveAllOff)
    (agree.moveAllOff (t := { s with pinTaken := b }) rfl rfl ⟨_, rfl⟩ rfl rfl)

theorem State.SwitchingAgrees.setLatch (agree : s.SwitchingAgrees) (b : Bool) : (s.setLatch b).SwitchingAgrees :=
  State.SwitchingAgrees.sequencerEvent (f := fun s =>
    let t : State := s.setRet { s.ret with hostLatch := b }
    if s.allOff = t.allOff then t else if t.allOff then t.enterAllOff else t.leaveAllOff)
    (agree.moveAllOff (t := s.setRet { s.ret with hostLatch := b }) rfl rfl ⟨_, rfl⟩ rfl rfl)

/-! ### Faults (R130 to R134) -/

/-- A fault record replaced by one whose count stays within its limit. -/
theorem State.SwitchingAgrees.setFault (agree : s.SwitchingAgrees) {ch : Chan} {f : FaultRec}
    (within : f.count ≤ (s.chan ch).retry.val + 1) : (s.setFault ch f).SwitchingAgrees := by
  refine agree.of_eq rfl rfl (fun c => ?_) rfl id agree.handOffs
  have record : (s.setFault ch f).faults[c] = if c = ch then f else s.faults[c] := set_getElem ..
  rw [record]
  split
  · rename_i here
    rw [here]
    exact within
  · exact agree.counts c

/-- A channel locked or unlocked together with its switching state (R128). -/
theorem State.SwitchingAgrees.lock {t : State} (agree : s.SwitchingAgrees) (channels : t.ChannelsAgree) {ch : Chan} {b : Bool}
    (locks : t.ret.locks = s.ret.locks.set ch b) (others : ∀ c : Chan, c ≠ ch → t.sw[c] = s.sw[c])
    (own : b = true ↔ t.sw[ch].state = .locked) : t.SwitchingAgrees := by
  refine (State.switchingAgrees_iff _).mpr ⟨channels, fun c => ?_⟩
  rw [locks, set_getElem]
  split
  · rename_i here
    rw [here]
    exact own
  · rename_i other
    rw [others c other]
    exact agree.locks c

theorem State.goTo_setLock (ch : Chan) (st : SwState) (b : Bool) (s : State) :
    (s.setLock ch b).goTo ch st = (s.goTo ch st).setLock ch b := by
  unfold State.goTo
  by_cases same : s.sw[ch].state = st
  · rw [if_pos same]
    exact if_pos same
  · rw [if_neg same]
    exact if_neg same

/-- The drop of a driven channel to a state in which it rests and waits for no entry (R130). -/
theorem State.SwitchingAgrees.dropAct_fits (agree : s.SwitchingAgrees) {ch : Chan} (driven : s.sw[ch].state.driven = true)
    {st : SwState} (rests : st = .faulted ∨ st = .locked) : (s.dropAct ch st).Fits s ch := by
  refine ⟨?_, agree.counts ch, fun _ => ⟨rfl, ?_⟩, ?_, fun queued => ?_⟩
  · obtain rfl | rfl := rests <;> exact ⟨rfl, rfl⟩
  · obtain rfl | rfl := rests <;> nofun
  · refine iff_of_false ?_ fun queued => ?_
    · obtain rfl | rfl := rests <;> nofun
    · rw [queued] at driven
      cases driven
  · rw [queued] at driven
    cases driven

theorem State.SwitchingAgrees.restOrLock (agree : s.SwitchingAgrees) {ch : Chan} (driven : s.sw[ch].state.driven = true) :
    ((s.drop ch).restOrLock ch).SwitchingAgrees := by
  have unlocked : s.sw[ch].state ≠ .locked := fun locked => by rw [locked] at driven; cases driven
  unfold State.restOrLock
  split
  · rw [State.goTo_setLock, State.drop_goTo_act]
    have channels := agree.channels.act (agree.dropAct_fits driven (.inr rfl))
    refine agree.lock (b := true) (channels.of_eq rfl rfl channels.counts id channels.handOffs) rfl
      (fun c other => ?_) ?_
    · have record := State.act_sw ch (s.dropAct ch .locked) s c
      rwa [if_neg other] at record
    · have record := State.act_sw ch (s.dropAct ch .locked) s ch
      rw [if_pos rfl] at record
      exact iff_of_true rfl (congrArg Switching.state record)
  · rw [State.drop_goTo_act]
    exact agree.act ⟨agree.dropAct_fits driven (.inl rfl), iff_of_false nofun unlocked⟩

theorem State.SwitchingAgrees.raiseFault (agree : s.SwitchingAgrees) (ch : Chan) : (s.raiseFault ch).SwitchingAgrees :=
  agree.of_eq rfl rfl agree.counts rfl id agree.handOffs

theorem State.SwitchingAgrees.takeOvercurrent (agree : s.SwitchingAgrees) (ch : Chan) :
    (s.takeOvercurrent ch).SwitchingAgrees := by
  unfold State.takeOvercurrent
  split
  · rename_i driven
    refine State.SwitchingAgrees.sequencerEvent ?_
    have rests := State.SwitchingAgrees.restOrLock (ch := ch) (agree.setFault (ch := ch)
      (f := { s.faults[ch] with
        count := raisedCount s.faults[ch].count (s.chan ch).retry, stamp := some s.runCount }) (Nat.min_le_right ..)) driven
    exact rests.raiseFault ch
  · exact agree

/-- A FAULTED or LOCKED channel handed back fits, whether it goes to OFF or makes the tests (R132, R134). -/
theorem State.ChannelsAgree.backAct_fits (agree : s.ChannelsAgree) {ch : Chan}
    (rests : s.sw[ch].state = .faulted ∨ s.sw[ch].state = .locked) : (s.backAct ch).Fits s ch := by
  have sound := agree.sound ch
  obtain ⟨undriven, steady⟩ : s.sw[ch].applied = 0 ∧ s.sw[ch].ramping = false := by
    obtain state | state := rests <;> rwa [Switching.Sound, state] at sound
  have new : s.sw[ch].state ≠ .queued := by obtain state | state := rests <;> rw [state] <;> nofun
  unfold State.backAct
  split
  · rename_i zero
    exact ⟨⟨undriven, zero, steady⟩, agree.counts ch, fun _ => ⟨undriven, nofun⟩, iff_of_false nofun new,
      fun queued => absurd queued new⟩
  · rename_i wanted
    exact State.testAct_fits undriven steady wanted new (agree.counts ch) rfl

theorem State.backAct_unlocked (s : State) (ch : Chan) : (s.backAct ch).sw.state ≠ .locked := by
  unfold State.backAct
  split
  · nofun
  · have state : (s.testAct ch).sw.state = s.eligibility ch := rfl
    rw [state]
    obtain ⟨r, held⟩ | queued := s.eligibility_waits ch
    · rw [held]; nofun
    · rw [queued]; nofun

theorem State.SwitchingAgrees.retryExpiry (agree : s.SwitchingAgrees) (ch : Chan) :
    (s.retryExpiry ch).SwitchingAgrees := by
  unfold State.retryExpiry
  split
  · rename_i due
    have faulted : s.sw[ch].state = .faulted := of_decide_eq_true (Bool.and_eq_true_iff.mp due).1
    refine State.SwitchingAgrees.sequencerEvent ?_
    rw [State.handBack_act (.inl faulted)]
    exact agree.act ⟨agree.channels.backAct_fits (.inl faulted),
      iff_of_false (s.backAct_unlocked ch) (by rw [faulted]; nofun)⟩
  · exact agree

theorem State.SwitchingAgrees.cleanExpiry (agree : s.SwitchingAgrees) (ch : Chan) :
    (s.cleanExpiry ch).SwitchingAgrees := by
  unfold State.cleanExpiry
  split
  · exact agree.setFault (Nat.zero_le _)
  · exact agree

theorem State.SwitchingAgrees.clearFault (agree : s.SwitchingAgrees) (ch : Chan) : (s.clearFault ch).SwitchingAgrees := by
  have cleared := agree.setFault (ch := ch) (f := { s.faults[ch] with count := 0 }) (Nat.zero_le _)
  unfold State.clearFault
  dsimp only
  split
  · rename_i locked
    refine State.SwitchingAgrees.sequencerEvent ?_
    have unlocked : State.ChannelsAgree ((s.setFault ch { s.faults[ch] with count := 0 }).setLock ch false) :=
      cleared.channels.of_eq rfl rfl cleared.counts id cleared.handOffs
    rw [State.handBack_act (s := (s.setFault ch { s.faults[ch] with count := 0 }).setLock ch false) (.inr locked)]
    refine cleared.lock (b := false) (unlocked.act (unlocked.backAct_fits (.inr locked))) rfl (fun c other => ?_) ?_
    · rw [State.act_sw, if_neg other]
      rfl
    · rw [State.act_sw, if_pos rfl]
      exact iff_of_false nofun (State.backAct_unlocked _ ch)
  · exact cleared

/-! ### Changed lengths -/

theorem State.SwitchingAgrees.staggerExpiry (agree : s.SwitchingAgrees) : s.staggerExpiry.SwitchingAgrees :=
  State.SwitchingAgrees.sequencerEvent agree.admitDue

theorem State.SwitchingAgrees.setStagger (agree : s.SwitchingAgrees) (b : Byte) : (s.setStagger b).SwitchingAgrees :=
  State.SwitchingAgrees.staggerExpiry (agree.of_eq rfl rfl agree.counts rfl id agree.handOffs)

theorem State.SwitchingAgrees.configureGroup (agree : s.SwitchingAgrees) (g : Group) (gap : Byte) :
    (s.configureGroup g gap).SwitchingAgrees := by
  have configured : (s.withGap g gap).SwitchingAgrees := agree.of_eq rfl rfl agree.counts rfl id agree.handOffs
  rw [State.configureGroup_eq]
  split
  · exact configured
  · exact State.SwitchingAgrees.sequencerEvent (configured.endGap g)

theorem State.SwitchingAgrees.retime (agree : s.SwitchingAgrees) (ch : Chan) (old : ChanRec) :
    (s.retime ch old).SwitchingAgrees := by
  have minOn : (if (s.chan ch).minOn < old.minOn then s.endMinOn ch else s).SwitchingAgrees := by
    split
    · exact agree.endMinOn ch
    · exact agree
  have minOff {u : State} (agree : u.SwitchingAgrees) :
      (if (s.chan ch).minOff < old.minOff then u.endMinOff ch else u).SwitchingAgrees := by
    split
    · exact agree.endMinOff ch
    · exact agree
  have ramp {u : State} (agree : u.SwitchingAgrees) : (u.retimeRamp ch (s.chan ch) old).SwitchingAgrees := by
    unfold State.retimeRamp
    split_ifs
    · exact agree.completeRamp ch
    · exact agree.endRampStep ch
    · exact agree
  exact ramp (minOff minOn)

/-- A channel record replaced by one whose retry limit is within what the fault count allows (R77, R79, R80, R128). -/
theorem State.SwitchingAgrees.setChanRec (agree : s.SwitchingAgrees) {ch : Chan} {r : ChanRec}
    (within : s.faults[ch].count ≤ r.retry.val + 1) : (s.setChanRec ch r).SwitchingAgrees := by
  refine agree.of_eq rfl rfl (fun c => ?_) rfl id agree.handOffs
  rw [State.setChanRec_chan]
  split
  · rename_i here
    rw [here]
    exact within
  · exact agree.counts c

theorem State.SwitchingAgrees.setChannelTiming (agree : s.SwitchingAgrees) {ch : Chan} {retry : Fin 4}
    (within : s.faults[ch].count ≤ retry.val + 1) (minOn minOff : Byte) (ramp : Fin 16) :
    (s.setChannelTiming ch minOn minOff ramp retry).SwitchingAgrees :=
  State.SwitchingAgrees.sequencerEvent
    (State.SwitchingAgrees.retime (agree.setChanRec (r := { s.chan ch with
      minOn := minOn, minOff := minOff, ramp := ramp, retry := retry }) within) ch (s.chan ch))

end Faults

end Sys2Proof.Machine
end

section
/-! The agreement of the switching through every row and every step (R98, R106, R113, R119, R128): the resolver's and the
sequencer's own rows, the rows that leave what drives the channels, and the starts. -/

namespace Sys2Proof.Machine

section Rows

variable {s : State}

/-- The agreement is of what drives the channels. -/
theorem State.SwitchingAgrees.of_driving {t : State} (agree : s.SwitchingAgrees) (view : t.driving = s.driving) :
    t.SwitchingAgrees := by
  have faults : t.faults = s.faults := show t.driving.faults = s.driving.faults by rw [view]
  have chans : t.ret.channels = s.ret.channels := show t.driving.ret.channels = s.driving.ret.channels by rw [view]
  have handOffs : t.mail.handOffs = s.mail.handOffs := show t.driving.mail.handOffs = s.driving.mail.handOffs by rw [view]
  refine agree.of_eq (show t.driving.sw = s.driving.sw by rw [view]) (show t.driving.queue = s.driving.queue by rw [view])
    (fun ch => ?_) (show t.driving.ret.locks = s.driving.ret.locks by rw [view])
    (show t.driving.allOff = true → s.driving.allOff = true by rw [view]; exact id) ?_
  · rw [faults, State.chan, chans]
    exact agree.counts ch
  · rw [handOffs]
    exact agree.handOffs

theorem State.SwitchingAgrees.whileRunning {f : State → State} (agree : s.SwitchingAgrees) (taken : (f s).SwitchingAgrees) :
    (whileRunning f s).SwitchingAgrees := by
  unfold Machine.whileRunning
  split <;> assumption

theorem State.SwitchingAgrees.complete {code : Byte} {owner : List Byte → State → Answer} (agree : s.SwitchingAgrees)
    (answers : ∀ ps, (owner ps s).state.SwitchingAgrees) : (complete code owner s).SwitchingAgrees := by
  unfold Machine.complete
  split
  · exact (answers _).of_driving rfl
  · exact agree

theorem State.SwitchingAgrees.checked {α : Type} {read : Except Nat α} {f : α → Answer} (agree : s.SwitchingAgrees)
    (answers : ∀ a, (f a).state.SwitchingAgrees) : (checked read s f).state.SwitchingAgrees := by
  cases read with
  | ok a => exact answers a
  | error index => exact agree

/-! ### The resolver's rows -/

/-- A hand-off names its channels in order (R90). -/
theorem handOffOf_nodup (before after : Vector Resolution 16) : ((handOffOf before after).map (·.1)).Nodup :=
  (changedChannels_ascending _ _).imp fun before => Fin.ne_of_lt before

theorem State.SwitchingAgrees.resolve (agree : s.SwitchingAgrees) (sc : Scope) : (s.resolve sc).SwitchingAgrees := by
  rw [State.resolve_eq]
  refine agree.of_eq rfl rfl agree.counts rfl id fun ts handed => ?_
  obtain old | new := List.mem_append.mp handed
  · exact agree.handOffs ts old
  · split at new
    · cases new
    · rw [List.mem_singleton.mp new]
      exact handOffOf_nodup ..

theorem State.SwitchingAgrees.takeRequestAt (agree : s.SwitchingAgrees) (place : Nat) :
    (s.takeRequestAt place).SwitchingAgrees := by
  unfold State.takeRequestAt
  split
  · exact agree
  · rw [State.takeRequest]
    refine State.SwitchingAgrees.resolve ?_ _
    exact agree.of_driving rfl

theorem State.SwitchingAgrees.takeLevelsAt (agree : s.SwitchingAgrees) (place : Nat) :
    (s.takeLevelsAt place).SwitchingAgrees := by
  unfold State.takeLevelsAt
  split
  · exact agree
  · rw [State.takeLevelReport]
    refine State.SwitchingAgrees.resolve ?_ _
    exact agree.of_eq rfl rfl agree.counts rfl id agree.handOffs

theorem State.SwitchingAgrees.setFallback (agree : s.SwitchingAgrees) (ch : Chan) (l : Level) :
    (s.setFallback ch l).SwitchingAgrees :=
  State.SwitchingAgrees.resolve (agree.setChanRec (r := { s.chan ch with fallback := l }) (agree.counts ch)) _

theorem State.SwitchingAgrees.configureChannel (agree : s.SwitchingAgrees) (ch : Chan) (kind : ChanKind)
    (group : Option Group) (cls : QueueClass) : (s.configureChannel ch kind group cls).SwitchingAgrees := by
  have configured := agree.setChanRec (ch := ch) (r := { s.chan ch with kind := kind, group := group, queueClass := cls })
    (agree.counts ch)
  unfold State.configureChannel
  dsimp only
  split
  · exact configured
  · exact configured.resolve _

theorem exec_switchingAgrees_of_resolves {c : Instr} {t : State} (hd : resolvesTargets c = true) (agree : s.SwitchingAgrees)
    (h : exec c s = .next t) : t.SwitchingAgrees := by
  cases c with
  | reResolutionRequest place =>
    rw [← Host.Outcome.next.inj h]
    exact agree.whileRunning (agree.takeRequestAt place)
  | appliedLevelReport place =>
    rw [← Host.Outcome.next.inj h]
    exact agree.whileRunning (agree.takeLevelsAt place)
  | setFallback =>
    rw [← Host.Outcome.next.inj h]
    exact agree.complete fun _ => agree.checked fun x => agree.setFallback x.1 x.2
  | configureChannel =>
    rw [← Host.Outcome.next.inj h]
    refine agree.complete fun _ => agree.checked fun c => ?_
    split
    · exact agree.configureChannel c.chan c.kind c.group c.queueClass
    · exact agree
  | _ => cases hd

/-! ### The rows of the sequencer and the output stage -/

theorem State.SwitchingAgrees.takeOldestHandOff (agree : s.SwitchingAgrees) : s.takeOldestHandOff.SwitchingAgrees := by
  unfold State.takeOldestHandOff
  split
  · exact agree
  · rename_i ts rest handed
    have left (us) (later : us ∈ rest) : (us.map (·.1)).Nodup :=
      agree.handOffs us (handed ▸ List.mem_cons_of_mem _ later)
    exact State.SwitchingAgrees.takeHandOff
      (s := { s with mail := { s.mail with handOffs := rest } })
      (agree.of_eq rfl rfl agree.counts rfl id left) (agree.handOffs ts (handed ▸ List.mem_cons_self))

theorem exec_switchingAgrees_of_switches {c : Instr} {t : State} (hw : switchesChannels c = true) (agree : s.SwitchingAgrees)
    (h : exec c s = .next t) : t.SwitchingAgrees := by
  have event {f : State → State} (change : (f s).SwitchingAgrees)
      (h : (Host.Outcome.next (whileRunning (sequencerEvent f) s) : Host.Outcome State Fault Refusal) = .next t) :
      t.SwitchingAgrees :=
    Host.Outcome.next.inj h ▸ agree.whileRunning (State.SwitchingAgrees.sequencerEvent change)
  have row {f : State → State} (taken : (f s).SwitchingAgrees)
      (h : (Host.Outcome.next (whileRunning f s) : Host.Outcome State Fault Refusal) = .next t) : t.SwitchingAgrees :=
    Host.Outcome.next.inj h ▸ agree.whileRunning taken
  have command {code : Byte} {owner : List Byte → State → Answer} (answers : ∀ ps, (owner ps s).state.SwitchingAgrees)
      (h : (Host.Outcome.next (complete code owner s) : Host.Outcome State Fault Refusal) = .next t) : t.SwitchingAgrees :=
    Host.Outcome.next.inj h ▸ agree.complete answers
  cases c with
  | setChannelTiming =>
    refine command (fun _ => agree.checked fun c => ?_) h
    split
    · exact agree
    · rename_i within
      exact agree.setChannelTiming (Nat.le_of_not_lt within) c.minOn c.minOff c.ramp
  | configureGroup => exact command (fun _ => agree.checked fun c => agree.configureGroup c.1 c.2) h
  | handOff => exact row agree.takeOldestHandOff h
  | staggerExpiry => exact row agree.staggerExpiry h
  | minOnExpiry ch => exact event (agree.endMinOn ch) h
  | minOffExpiry ch => exact event (agree.endMinOff ch) h
  | changeoverGapExpiry g => exact event (agree.endGap g) h
  | rampTimerExpiry ch => exact event (agree.endRampStep ch) h
  | longPastMark m => exact row (agree.markLongPast m) h
  | allOffPinChange asserted => exact row (agree.takePin asserted) h
  | forceAllOff => exact command (fun _ => agree.checked fun _ => agree.setLatch true) h
  | releaseAllOff => exact command (fun _ => agree.checked fun _ => agree.setLatch false) h
  | setStagger => exact command (fun _ => agree.checked fun b => agree.setStagger b) h
  | overcurrentReport ch => exact row (agree.takeOvercurrent ch) h
  | retryTimerExpiry ch => exact row (agree.retryExpiry ch) h
  | cleanRunExpiry ch => exact row (agree.cleanExpiry ch) h
  | clearFault => exact command (fun _ => agree.checked fun ch => agree.clearFault ch) h
  | _ => cases hw

/-! ### Starts (R121, R126) -/

theorem State.coldStart_switchingAgrees (pin : Bool) (s : State) : (s.coldStart pin).SwitchingAgrees := by
  have record (ch : Chan) : (s.coldStart pin).sw[ch] = .cold := tabConst_getElem 16 _ ch
  have fault (ch : Chan) : (s.coldStart pin).faults[ch] = .cold := tabConst_getElem 16 _ ch
  have lock (ch : Chan) : (s.coldStart pin).ret.locks[ch] = false := tabConst_getElem 16 _ ch
  refine (State.switchingAgrees_iff _).mpr ⟨⟨fun ch => ?_, ⟨fun ch => ?_, List.nodup_nil, nofun, List.Pairwise.nil⟩,
    fun ch => ?_, fun _ ch => ?_, nofun⟩, fun ch => ?_⟩
  · rw [record]
    exact ⟨rfl, rfl, rfl⟩
  · rw [record]
    exact iff_of_false List.not_mem_nil nofun
  · rw [fault]
    exact Nat.zero_le _
  · rw [record]
    exact ⟨rfl, nofun⟩
  · rw [record, lock]
    exact iff_of_false nofun nofun

/-- At the resumption instant every channel is OFF or LOCKED, as its lock stands (R126). -/
theorem State.resumed_switchingAgrees (pin : Bool) (s : State) : (s.resumed pin).resolveAfresh.SwitchingAgrees := by
  have record (ch : Chan) : (s.resumed pin).resolveAfresh.sw[ch] = s.sw[ch].warm s.ret.locks[ch] s.runCount :=
    tab_getElem _ ch
  have fault (ch : Chan) : (s.resumed pin).resolveAfresh.faults[ch] = .cold := tabConst_getElem 16 _ ch
  have state (ch : Chan) : (s.sw[ch].warm s.ret.locks[ch] s.runCount).state = if s.ret.locks[ch] then .locked else .off := rfl
  have rests (ch : Chan) : (s.sw[ch].warm s.ret.locks[ch] s.runCount).state ≠ .queued := by
    rw [state]
    split <;> nofun
  refine (State.switchingAgrees_iff _).mpr ⟨⟨fun ch => ?_, ⟨fun ch => ?_, List.nodup_nil, nofun, List.Pairwise.nil⟩,
    fun ch => ?_, fun _ ch => ?_, nofun⟩, fun ch => ?_⟩
  · rw [record, Switching.Sound, state]
    cases s.ret.locks[ch]
    · exact ⟨rfl, rfl, rfl⟩
    · exact ⟨rfl, rfl⟩
  · rw [record]
    exact iff_of_false List.not_mem_nil (rests ch)
  · rw [fault]
    exact Nat.zero_le _
  · rw [record]
    exact ⟨rfl, rests ch⟩
  · rw [record, state]
    change s.ret.locks[ch] = true ↔ _
    cases s.ret.locks[ch]
    · exact iff_of_false nofun nofun
    · exact iff_of_true rfl rfl

/-- The start's hand-off is taken from the resumption instant; the comparison of the baselines drives no channel (R62, R164). -/
theorem State.warmStart_switchingAgrees (pin : Bool) (s : State) : (s.warmStart pin).SwitchingAgrees := by
  have once : ((warmHandOff (s.resumed pin).resolveAfresh.results).map (·.1)).Nodup :=
    (changedChannels_ascending _ _).imp fun before => Fin.ne_of_lt before
  have taken := (s.resumed_switchingAgrees pin).takeHandOff once
  have handed : (s.resumed pin).resolveAfresh.warmTargets.SwitchingAgrees := taken.of_driving rfl
  have compared (t : State) : t.compareBaselines.driving = t.driving := by
    unfold State.compareBaselines
    cases t.ret.resume with
    | keep => exact State.endOverrides_driving ..
    | drop => rfl
  rw [State.warmStart, State.resumed_eq, State.reportClock_eq]
  generalize (s.resumed pin).resolveAfresh.warmTargets = v at handed ⊢
  exact (handed.of_driving (compared v)).of_driving rfl

end Rows

/-! ### Every row and every step -/

theorem State.SwitchingSound.of_dark {s : State} (dark : s.sup.state ≠ .running) : s.SwitchingSound :=
  fun running => absurd running dark

theorem State.SwitchingSound.of_driving {s t : State} (sound : s.SwitchingSound) (view : t.driving = s.driving) :
    t.SwitchingSound := by
  intro running
  have sup : t.sup.state = s.sup.state := show t.driving.sup.state = s.driving.sup.state by rw [view]
  exact State.SwitchingAgrees.of_driving (sound (sup.symm.trans running)) view

/-- What a RUNNING part keeps of its switching where only its supervisor's record moves. -/
theorem State.SwitchingSound.of_sup {s t : State} (sound : s.SwitchingSound) (running : t.sup.state = s.sup.state)
    (kept : t = { s with sup := t.sup }) : t.SwitchingSound := by
  intro now
  have agree := sound (running.symm.trans now)
  rw [kept]
  exact agree.of_eq rfl rfl agree.counts rfl id agree.handOffs

/-- Supply levels leave a RUNNING part as it was, or take it out of RUNNING. -/
theorem State.SwitchingSound.takeLevels {s : State} (sound : s.SwitchingSound) (vdd vbat : Nat) :
    (s.takeLevels vdd vbat).SwitchingSound := by
  unfold State.takeLevels
  cases hs : s.sup.state with
  | running | starting =>
    simp only [hs]
    split
    · exact .of_dark (State.judgeLevels_dark (by simp [State.enterRetention]))
    · exact sound.of_sup hs.symm rfl
  | retention =>
    simp only [hs]
    exact .of_dark (State.judgeLevels_dark (by simp))
  | off =>
    simp only [hs]
    split
    · exact .of_dark (by simp)
    · exact .of_dark (by simp [State.powerUp])

theorem exec_switchingSound_of_movesSupervisor {c : Instr} {s t : State} (hm : movesSupervisor c = true)
    (sound : s.SwitchingSound) (h : exec c s = .next t) : t.SwitchingSound := by
  have started (code : Byte) (cold : Bool) : (takeStart code cold s).SwitchingSound := by
    unfold takeStart
    split
    · split
      · exact .of_dark (by simp [State.beginStart, State.enterStarting])
      · exact sound.of_driving rfl
    · exact sound
  cases c with
  | rstAssert =>
    obtain rfl := Host.Outcome.next.inj h
    unfold State.assertReset
    cases hs : s.sup.state with
    | running | starting => simp only [hs]; exact .of_dark (by simp [State.enterRetention])
    | retention | off => simp only [hs]; exact .of_dark (by simp)
  | rstRelease =>
    obtain rfl := Host.Outcome.next.inj h
    unfold State.releaseReset
    cases hs : s.sup.state with
    | running => simp only [hs]; exact sound.of_sup hs.symm rfl
    | retention | starting | off => simp only [hs]; exact .of_dark (by simp)
  | supplyQualified =>
    obtain rfl := Host.Outcome.next.inj h
    unfold State.qualified
    split
    · exact .of_dark (by simp [State.enterStarting])
    · exact sound
  | restart => obtain rfl := Host.Outcome.next.inj h; exact started 0x5E false
  | factoryClear => obtain rfl := Host.Outcome.next.inj h; exact started 0x5F true
  | _ => cases hm

theorem State.SwitchingSound.endStarting {s : State} (sound : s.SwitchingSound) (pin : Bool) :
    (s.endStarting pin).SwitchingSound := by
  unfold State.endStarting
  split
  · split
    · exact fun _ => s.coldStart_switchingAgrees pin
    · exact fun _ => s.warmStart_switchingAgrees pin
  · exact sound

/-- The sequencer's rows leave the supervisor. -/
theorem exec_sup_of_switchesChannels {c : Instr} {s t : State} (hw : switchesChannels c = true) (h : exec c s = .next t) :
    t.sup = s.sup := by
  have beside : writesTime c = false ∧ movesSupervisor c = false := by
    cases c with
    | setChannelTiming | configureGroup | handOff | staggerExpiry | minOnExpiry _ | minOffExpiry _ | changeoverGapExpiry _
    | rampTimerExpiry _ | longPastMark _ | allOffPinChange _ | forceAllOff | releaseAllOff | setStagger
    | overcurrentReport _ | retryTimerExpiry _ | cleanRunExpiry _ | clearFault => exact ⟨rfl, rfl⟩
    | _ => cases hw
  exact State.sup_of_timeView (exec_timeView beside.1 beside.2 h)

theorem exec_switchingSound {c : Instr} {s t : State} (sound : s.SwitchingSound) (h : exec c s = .next t) :
    t.SwitchingSound := by
  cases hd : resolvesTargets c with
  | true =>
    have sup := exec_sup_of_resolvesTargets hd h
    exact fun running => exec_switchingAgrees_of_resolves hd (sound (sup ▸ running)) h
  | false =>
    cases hw : switchesChannels c with
    | true =>
      have sup := exec_sup_of_switchesChannels hw h
      exact fun running => exec_switchingAgrees_of_switches hw (sound (sup ▸ running)) h
    | false =>
      cases hm : movesSupervisor c with
      | true => exact exec_switchingSound_of_movesSupervisor hm sound h
      | false =>
        cases hr : remakesStore c with
        | false => exact sound.of_driving (exec_driving hd hw hm hr h)
        | true =>
          obtain supply | ends := (Bool.or_eq_true ..).mp hr
          · obtain ⟨vdd, vbat, rfl⟩ := exec_supplyLevels supply h
            exact sound.takeLevels vdd vbat
          · obtain ⟨pin, rfl⟩ := endsStart_iff.mp ends
            rw [← Host.Outcome.next.inj h]
            exact sound.endStarting pin

/-- Settles O10: a step is a row on the queue's rest, which the agreement does not speak of. -/
theorem everyStepKeepsSwitchingSound : Obligations.EveryStepKeepsSwitchingSound := by
  intro s t sound h
  unfold step at h
  split at h
  · rwa [← Host.Outcome.next.inj h]
  · rename_i c rest _
    exact exec_switchingSound (s := { s with pending := rest }) (fun running =>
      (sound running).of_eq rfl rfl (sound running).counts rfl id (sound running).handOffs) h

end Sys2Proof.Machine
end

section
/-! Ramps and fades (R113, R114): one level at each expiry of the ramp timer. -/

namespace Sys2Proof.Machine

/-- One channel's ramp timer, as a proposition (R99). -/
theorem State.rampElapsed_iff (s : State) (ch : Chan) :
    s.rampElapsed ch = true ↔ s.ret.channels[ch].ramp.val ≤ (s.runCount - s.sw[ch].rampStamp).toNat := elapsed_iff ..

theorem exec_rampTimerExpiry {s : State} (running : s.sup.state = .running) (ch : Chan) :
    exec (.rampTimerExpiry ch) s = .next (sequencerEvent (State.endRampStep ch) s) := next_whileRunning running rfl

/-- A step of a ramp in ON. -/
theorem State.endRampStep_on {s : State} {ch : Chan} (due : s.rampElapsed ch = true) (on : s.sw[ch].state = .on)
    (ramping : s.sw[ch].ramping = true) :
    s.endRampStep ch = { s with sw := s.sw.set ch (rampedRecord s.runCount s.sw[ch]) } := by
  rw [State.endRampStep, if_pos due, on]
  dsimp only
  rw [if_pos ramping, State.rampStep_setSw]
  rfl

/-- A step of a fade above level 1. -/
theorem State.endRampStep_fading {s : State} {ch : Chan} (due : s.rampElapsed ch = true) (fading : s.sw[ch].state = .fading)
    (above : 1 < s.sw[ch].applied) : s.endRampStep ch = s.setSw ch
      { s.sw[ch] with applied := s.sw[ch].applied - 1, rampStamp := s.runCount, ramping := false } := by
  rw [State.endRampStep, if_pos due, fading]
  dsimp only
  rw [State.fadeStep, if_neg (not_le.mpr above)]
  simp only [State.apply, State.beginRampStep, State.setSw, set_getElem_self, Vector.set_set]

/-- The last step of a fade. -/
theorem State.endRampStep_last {s : State} {ch : Chan} (due : s.rampElapsed ch = true) (fading : s.sw[ch].state = .fading)
    (last : s.sw[ch].applied = 1) : s.endRampStep ch = s.switchOff ch := by
  rw [State.endRampStep, if_pos due, fading]
  exact if_pos last.le

/-- Where no ramp step is due. -/
theorem State.endRampStep_undue {s : State} {ch : Chan} (undue : ¬(s.rampElapsed ch = true ∧
    (s.sw[ch].state = .on ∧ s.sw[ch].ramping = true ∨ s.sw[ch].state = .fading))) : s.endRampStep ch = s := by
  by_cases due : s.rampElapsed ch = true
  · obtain ⟨steady, unfading⟩ := not_or.mp fun ramps => undue ⟨due, ramps⟩
    exact State.endRampStep_still ⟨unfading, fun on => Bool.eq_false_iff.mpr fun ramping => steady ⟨on, ramping⟩⟩
  · exact if_neg due

theorem rampedRecord_applied_ne_zero {now : RunCount} {w : Switching} (driven : w.applied ≠ 0) (wanted : w.target ≠ 0) :
    (rampedRecord now w).applied ≠ 0 := by
  unfold rampedRecord
  split
  · exact wanted
  · exact towards_ne_zero driven wanted

/-- Settles O45, by the two kinds of ramp step and the end of a fade. -/
theorem rampsMoveOneLevelAStep : Obligations.RampsMoveOneLevelAStep := by
  intro s ch running driven _ w due
  rw [exec_rampTimerExpiry running]
  refine ⟨fun due on ramping wanted => ?_, fun due fading above => ?_, fun due fading last => ?_, fun undue => ?_⟩
  · have step := State.endRampStep_on ((s.rampElapsed_iff ch).mpr due) on ramping
    refine ⟨towards w.applied w.target, towards_up, towards_down, ?_⟩
    rw [sequencerEvent_unreported step driven (rampedRecord_applied_ne_zero driven wanted), rampedRecord]
    split
    · rename_i reached
      rw [reached]
    · rfl
  · have step := State.endRampStep_fading ((s.rampElapsed_iff ch).mpr due) fading above
    refine ⟨w.applied - 1, level_down driven, ?_⟩
    rw [sequencerEvent_unreported step driven fun zero => above.ne' (sub_eq_zero.mp zero)]
  · have step := State.endRampStep_last ((s.rampElapsed_iff ch).mpr due) fading last
    rw [sequencerEvent_dropped step (by rw [fading]; nofun) driven]
  · rw [sequencerEvent_still _ (State.endRampStep_undue fun late => undue ⟨(s.rampElapsed_iff ch).mp late.1, late.2⟩)]

end Sys2Proof.Machine
end

section
/-! The long-past marks (R99): a timer that does not start keeps its start stamp and its mark, through every operation of the
sequencer and every row. -/

namespace Sys2Proof.Machine

/-! ### One timer -/

/-- A timer from one step to another: it starts at `now`, or it goes on from its start stamp and keeps its mark. -/
def TimerGoesOn (now stamp stamp' : RunCount) (past past' : Bool) : Prop :=
  stamp' = now ∨ stamp' = stamp ∧ (past = true → past' = true)

theorem TimerGoesOn.still (now stamp : RunCount) (past : Bool) : TimerGoesOn now stamp stamp past past := .inr ⟨rfl, id⟩

theorem TimerGoesOn.trans {now a b c : RunCount} {p q r : Bool} (first : TimerGoesOn now a b p q)
    (second : TimerGoesOn now b c q r) : TimerGoesOn now a c p r := by
  obtain started | ⟨rfl, marked⟩ := second
  · exact .inl started
  · exact first.imp_right fun ⟨same, before⟩ => ⟨same, marked ∘ before⟩

/-- A mark that goes out goes out at the timer's start. -/
theorem TimerGoesOn.starts {now a b : RunCount} {p q : Bool} (h : TimerGoesOn now a b p q) (past : p = true)
    (cleared : q = false) : b = now := h.resolve_right fun ⟨_, marked⟩ => by rw [marked past] at cleared; cases cleared

/-- Both dwell timers of a switching record. -/
structure Switching.GoesOn (now : RunCount) (w w' : Switching) : Prop where
  minOn : TimerGoesOn now w.admStamp w'.admStamp w.minOnPast w'.minOnPast
  minOff : TimerGoesOn now w.offStamp w'.offStamp w.minOffPast w'.minOffPast

theorem Switching.GoesOn.still (now : RunCount) (w : Switching) : w.GoesOn now w := ⟨.still .., .still ..⟩

/-- A record with its stamps and marks kept. -/
theorem Switching.GoesOn.kept {now : RunCount} {w w' : Switching} (adm : w'.admStamp = w.admStamp)
    (minOn : w'.minOnPast = w.minOnPast) (off : w'.offStamp = w.offStamp) (minOff : w'.minOffPast = w.minOffPast) :
    w.GoesOn now w' := ⟨.inr ⟨adm, minOn ▸ id⟩, .inr ⟨off, minOff ▸ id⟩⟩

theorem headed_goesOn (r : ChanRec) (now : RunCount) (w : Switching) (l : Level) (st : SwState) :
    w.GoesOn now { headed r now w l with state := st } := by
  unfold headed
  split_ifs <;> exact .kept rfl rfl rfl rfl

theorem rampedRecord_goesOn (now : RunCount) (w : Switching) : w.GoesOn now (rampedRecord now w) := by
  unfold rampedRecord
  split <;> exact .kept rfl rfl rfl rfl

theorem admittedRecord_goesOn (r : ChanRec) (now : RunCount) (w : Switching) (l : Level) :
    w.GoesOn now (admittedRecord r now w l) := ⟨.inl rfl, .still ..⟩

/-! ### The part -/

/-- Every timer with a mark goes on or starts at the run count, which stands. -/
structure State.TimersGoOn (s t : State) : Prop where
  runCount : t.runCount = s.runCount
  dwells : ∀ ch : Chan, s.sw[ch].GoesOn s.runCount t.sw[ch]
  gaps : ∀ g : Group, TimerGoesOn s.runCount s.gapStamps[g.idx].stamp t.gapStamps[g.idx].stamp s.gapStamps[g.idx].past
    t.gapStamps[g.idx].past
  stagger : TimerGoesOn s.runCount s.lastAdm t.lastAdm s.staggerPast t.staggerPast

theorem State.TimersGoOn.trans {s t u : State} (first : s.TimersGoOn t) (second : t.TimersGoOn u) : s.TimersGoOn u := by
  obtain ⟨run, dwells, gaps, stagger⟩ := second
  rw [first.runCount] at run dwells gaps stagger
  exact ⟨run, fun ch => ⟨(first.dwells ch).minOn.trans (dwells ch).minOn, (first.dwells ch).minOff.trans (dwells ch).minOff⟩,
    fun g => (first.gaps g).trans (gaps g), first.stagger.trans stagger⟩

/-- The tables of the timers with a mark, and the run count. -/
def State.timers (s : State) : RunCount × Vector Switching 16 × Vector GapStamp 4 × RunCount × Bool :=
  (s.runCount, s.sw, s.gapStamps, s.lastAdm, s.staggerPast)

theorem State.TimersGoOn.of_timers {s t : State} (same : t.timers = s.timers) : s.TimersGoOn t := by
  have run : t.runCount = s.runCount := congrArg (·.1) same
  have sw : t.sw = s.sw := congrArg (·.2.1) same
  have gaps : t.gapStamps = s.gapStamps := congrArg (·.2.2.1) same
  have adm : t.lastAdm = s.lastAdm := congrArg (·.2.2.2.1) same
  have past : t.staggerPast = s.staggerPast := congrArg (·.2.2.2.2) same
  refine ⟨run, fun ch => ?_, fun g => ?_, ?_⟩
  · rw [sw]; exact .still ..
  · rw [gaps]; exact .still ..
  · rw [adm, past]; exact .still ..

theorem State.TimersGoOn.refl (s : State) : s.TimersGoOn s := .of_timers rfl

/-- Timers that go on from a part with the same timers. -/
theorem State.TimersGoOn.after {s t u : State} (later : u.TimersGoOn t) (same : u.timers = s.timers) : s.TimersGoOn t :=
  (State.TimersGoOn.of_timers same).trans later

/-- Timers that go on to a part with the same timers. -/
theorem State.TimersGoOn.upTo {s t u : State} (first : s.TimersGoOn u) (same : t.timers = u.timers) : s.TimersGoOn t :=
  first.trans (.of_timers same)

theorem State.TimersGoOn.ite {s t u : State} {p : Prop} [Decidable p] (pos : s.TimersGoOn t) (neg : s.TimersGoOn u) :
    s.TimersGoOn (if p then t else u) := by
  split <;> assumption

theorem State.TimersGoOn.foldl {α : Type} {f : State → α → State} (step : ∀ (s : State) (a : α), s.TimersGoOn (f s a)) (l : List α)
    (s : State) : s.TimersGoOn (l.foldl f s) := by
  induction l generalizing s with
  | nil => exact .refl s
  | cons a l ih => exact (step s a).trans (ih _)

/-- A group's changeover timer starts where an act makes its stamp. -/
theorem State.TimersGoOn.act {s : State} {ch : Chan} {a : Act} (goes : s.sw[ch].GoesOn s.runCount a.sw) :
    s.TimersGoOn (s.act ch a) := by
  refine ⟨rfl, fun c => ?_, fun g => ?_, .still ..⟩
  · rw [State.act_sw]
    split
    · rename_i here
      exact here ▸ goes
    · exact .still ..
  · rw [State.act_gaps]
    split
    · exact .inl rfl
    · exact .still ..

theorem State.TimersGoOn.setSw {s : State} {ch : Chan} {w : Switching} (goes : s.sw[ch].GoesOn s.runCount w) :
    s.TimersGoOn (s.setSw ch w) := by
  refine ⟨rfl, fun c => ?_, fun _ => .still .., .still ..⟩
  rw [State.setSw_sw, set_getElem]
  split
  · rename_i here
    exact here ▸ goes
  · exact .still ..

/-! ### Acts -/

section Acts

variable (s : State) (ch : Chan)

theorem State.stillAct_goesOn : s.sw[ch].GoesOn s.runCount (s.stillAct ch).sw := .still ..

theorem State.moveAct_goesOn (st : SwState) : s.sw[ch].GoesOn s.runCount (s.moveAct ch st).sw := .kept rfl rfl rfl rfl

theorem State.dropAct_goesOn (st : SwState) : s.sw[ch].GoesOn s.runCount (s.dropAct ch st).sw := ⟨.still .., .inl rfl⟩

theorem State.testAct_goesOn : s.sw[ch].GoesOn s.runCount (s.testAct ch).sw := .kept rfl rfl rfl rfl

theorem State.endAct_goesOn : s.sw[ch].GoesOn s.runCount (s.endAct ch).sw := by
  unfold State.endAct
  split
  · exact .kept rfl rfl rfl rfl
  · exact s.dropAct_goesOn ch .off

theorem State.lowerAct_goesOn : s.sw[ch].GoesOn s.runCount (s.lowerAct ch).sw := by
  unfold State.lowerAct
  cases s.sw[ch].state with
  | off | ending | fading | faulted | locked => exact s.stillAct_goesOn ch
  | hold _ | queued => exact s.moveAct_goesOn ch .off
  | on =>
    dsimp only
    split
    · exact s.endAct_goesOn ch
    · exact .kept rfl rfl rfl rfl

theorem State.raiseAct_goesOn (l : Level) : s.sw[ch].GoesOn s.runCount (s.raiseAct ch l).sw := by
  unfold State.raiseAct
  cases s.sw[ch].state with
  | off => exact s.testAct_goesOn ch
  | hold _ | faulted | locked | queued => exact s.stillAct_goesOn ch
  | on | ending | fading => exact headed_goesOn ..

theorem State.minOnAct_goesOn : s.sw[ch].GoesOn s.runCount (s.minOnAct ch).sw := by
  unfold State.minOnAct
  split
  · exact s.endAct_goesOn ch
  · exact s.stillAct_goesOn ch

theorem State.minOffAct_goesOn : s.sw[ch].GoesOn s.runCount (s.minOffAct ch).sw := by
  unfold State.minOffAct
  split
  · exact s.testAct_goesOn ch
  · exact s.stillAct_goesOn ch

theorem State.fadeAct_goesOn : s.sw[ch].GoesOn s.runCount (s.fadeAct ch).sw := by
  unfold State.fadeAct
  split
  · exact s.dropAct_goesOn ch .off
  · exact .kept rfl rfl rfl rfl

theorem State.rampAct_goesOn : s.sw[ch].GoesOn s.runCount (s.rampAct ch).sw := by
  unfold State.rampAct
  split
  · cases s.sw[ch].state with
    | off | hold _ | queued | ending | faulted | locked => exact s.stillAct_goesOn ch
    | fading => exact s.fadeAct_goesOn ch
    | on =>
      dsimp only
      split
      · exact rampedRecord_goesOn ..
      · exact s.stillAct_goesOn ch
  · exact s.stillAct_goesOn ch

theorem State.completeAct_goesOn : s.sw[ch].GoesOn s.runCount (s.completeAct ch).sw := by
  unfold State.completeAct
  cases s.sw[ch].state with
  | off | hold _ | queued | ending | faulted | locked => exact s.stillAct_goesOn ch
  | fading => exact s.dropAct_goesOn ch .off
  | on =>
    dsimp only
    split
    · exact .kept rfl rfl rfl rfl
    · exact s.stillAct_goesOn ch

theorem State.forceAct_goesOn : s.sw[ch].GoesOn s.runCount (s.forceAct ch).sw := by
  unfold State.forceAct
  cases s.sw[ch].state with
  | on | ending | fading => exact s.dropAct_goesOn ch _
  | queued | hold _ => exact s.moveAct_goesOn ch _
  | off | faulted | locked => exact s.stillAct_goesOn ch

end Acts

/-! ### Operations -/

section Operations

variable (s : State) (ch : Chan)

theorem State.TimersGoOn.goTo (st : SwState) : s.TimersGoOn (s.goTo ch st) :=
  s.goTo_act ch st ▸ .act (s.moveAct_goesOn ch st)

theorem State.TimersGoOn.testEligible : s.TimersGoOn (s.testEligible ch) := s.testEligible_act ch ▸ .act (s.testAct_goesOn ch)

theorem State.TimersGoOn.retest (test : State → Chan → Bool) (chs : List Chan) : s.TimersGoOn (s.retest test chs) :=
  .foldl (fun s ch => .ite (.testEligible s ch) (.refl s)) chs s

theorem State.TimersGoOn.admitEntry (e : QueueEntry) : s.TimersGoOn (s.admitEntry e) := by
  rw [State.admitEntry_act]
  obtain ⟨run, dwells, gaps, -⟩ := State.TimersGoOn.act (s := s) (a := s.admitAct e.chan e.level) (admittedRecord_goesOn ..)
  exact ⟨run, dwells, gaps, .inl rfl⟩

theorem State.TimersGoOn.admitUpTo (n : Nat) : s.TimersGoOn (s.admitUpTo n) := by
  induction n generalizing s with
  | zero => exact .refl s
  | succ n ih =>
    unfold State.admitUpTo
    split
    · exact .refl s
    · rename_i e rest _
      refine .ite ?_ (.refl s)
      exact ((State.TimersGoOn.admitEntry { s with queue := rest } e).trans (ih _)).after rfl

theorem State.TimersGoOn.admitDue : s.TimersGoOn s.admitDue := .admitUpTo ..

/-- An event's test for admission and its report start no timer but at an admission. -/
theorem State.TimersGoOn.sequencerEvent {f : State → State} (change : s.TimersGoOn (f s)) :
    s.TimersGoOn (sequencerEvent f s) := by
  unfold Machine.sequencerEvent
  rw [State.postLevels_eq]
  exact (change.trans (.ite (.admitDue _) (.refl _))).upTo rfl

theorem State.TimersGoOn.targetZero : s.TimersGoOn (s.targetZero ch) := s.targetZero_act ch ▸ .act (s.lowerAct_goesOn ch)

theorem State.TimersGoOn.targetNonZero (l : Level) : s.TimersGoOn (s.targetNonZero ch l) :=
  s.targetNonZero_act ch l ▸ .act (s.raiseAct_goesOn ch l)

theorem State.TimersGoOn.takeHandOff (ts : List (Chan × Level)) : s.TimersGoOn (s.takeHandOff ts) := by
  refine .sequencerEvent s ?_
  have recorded : s.TimersGoOn (s.recordTargets ts) := by
    refine .foldl (fun s p => ?_) ts s
    exact .setSw (.kept rfl rfl rfl rfl)
  exact (recorded.trans (.foldl (fun s p => .ite (.targetZero s p.1) (.refl s)) ts _)).trans
    (.foldl (fun s p => .ite (.refl s) (.targetNonZero s p.1 p.2)) ts _)

theorem State.TimersGoOn.takeOldestHandOff : s.TimersGoOn s.takeOldestHandOff := by
  unfold State.takeOldestHandOff
  split
  · exact .refl s
  · rename_i ts rest _
    exact (State.TimersGoOn.takeHandOff { s with mail := { s.mail with handOffs := rest } } ts).after rfl

theorem State.TimersGoOn.endMinOn : s.TimersGoOn (s.endMinOn ch) := s.endMinOn_act ch ▸ .act (s.minOnAct_goesOn ch)

theorem State.TimersGoOn.endMinOff : s.TimersGoOn (s.endMinOff ch) := s.endMinOff_act ch ▸ .act (s.minOffAct_goesOn ch)

theorem State.TimersGoOn.endGap (g : Group) : s.TimersGoOn (s.endGap g) := .ite (.retest ..) (.refl s)

theorem State.TimersGoOn.endRampStep : s.TimersGoOn (s.endRampStep ch) := s.endRampStep_act ch ▸ .act (s.rampAct_goesOn ch)

theorem State.TimersGoOn.completeRamp : s.TimersGoOn (s.completeRamp ch) :=
  s.completeRamp_act ch ▸ .act (s.completeAct_goesOn ch)

theorem State.TimersGoOn.markLongPast (m : LongPastTimer) : s.TimersGoOn (s.markLongPast m) := by
  cases m with
  | minOn ch =>
    refine .ite ?_ (.refl s)
    exact .setSw ⟨.inr ⟨rfl, fun _ => rfl⟩, .still ..⟩
  | minOff ch =>
    refine .ite ?_ (.refl s)
    exact .setSw ⟨.still .., .inr ⟨rfl, fun _ => rfl⟩⟩
  | gap g =>
    refine .ite ⟨rfl, fun _ => .still .., fun h => ?_, .still ..⟩ (.refl s)
    have record : (s.setGap g { s.gapStamps[g.idx] with past := true }).gapStamps[h.idx] =
      if h.idx = g.idx then { s.gapStamps[g.idx] with past := true } else s.gapStamps[h.idx] := set_getElem ..
    rw [record]
    split
    · rename_i here
      obtain rfl := Group.idx_injective here
      exact .inr ⟨rfl, fun _ => rfl⟩
    · exact .still ..
  | stagger => exact .ite ⟨rfl, fun _ => .still .., fun _ => .still .., .inr ⟨rfl, fun _ => rfl⟩⟩ (.refl s)

theorem State.TimersGoOn.staggerExpiry : s.TimersGoOn s.staggerExpiry := .sequencerEvent s (.admitDue s)

theorem State.TimersGoOn.setStagger (b : Byte) : s.TimersGoOn (s.setStagger b) :=
  (State.TimersGoOn.staggerExpiry (s.setRet { s.ret with stagger := b })).after rfl

theorem State.TimersGoOn.configureGroup (g : Group) (gap : Byte) : s.TimersGoOn (s.configureGroup g gap) := by
  have replaced : s.TimersGoOn (s.withGap g gap) := .of_timers rfl
  rw [State.configureGroup_eq]
  exact .ite replaced (replaced.trans (.sequencerEvent _ (.endGap _ g)))

theorem State.TimersGoOn.retime (old : ChanRec) : s.TimersGoOn (s.retime ch old) := by
  have minOn : s.TimersGoOn (if (s.chan ch).minOn < old.minOn then s.endMinOn ch else s) := .ite (.endMinOn s ch) (.refl s)
  have minOff (u : State) : u.TimersGoOn (if (s.chan ch).minOff < old.minOff then u.endMinOff ch else u) :=
    .ite (.endMinOff u ch) (.refl u)
  have ramp (u : State) : u.TimersGoOn (u.retimeRamp ch (s.chan ch) old) :=
    .ite (.completeRamp u ch) (.ite (.endRampStep u ch) (.refl u))
  exact (minOn.trans (minOff _)).trans (ramp _)

theorem State.TimersGoOn.setChannelTiming (minOn minOff : Byte) (ramp : Fin 16) (retry : Fin 4) :
    s.TimersGoOn (s.setChannelTiming ch minOn minOff ramp retry) :=
  (State.TimersGoOn.sequencerEvent (s.setChanRec ch
    { s.chan ch with minOn := minOn, minOff := minOff, ramp := ramp, retry := retry }) (.retime _ ch _)).after rfl

/-! ### The ALL-OFF condition and faults -/

theorem State.TimersGoOn.enterAllOff : s.TimersGoOn s.enterAllOff := by
  have step (u : State) (c : Chan) : u.TimersGoOn (u.forceOff c) := u.forceOff_act c ▸ .act (u.forceAct_goesOn c)
  exact (State.TimersGoOn.foldl step (List.finRange 16) s.forcing).after rfl

theorem State.TimersGoOn.leaveAllOff : s.TimersGoOn s.leaveAllOff :=
  (State.TimersGoOn.retest s.raiseAllOff _ _).after rfl

theorem State.TimersGoOn.allOffInput {f : State → State} (input : s.TimersGoOn (f s)) : s.TimersGoOn (s.allOffInput f) :=
  .sequencerEvent s (.ite input (.ite (input.trans (.enterAllOff _)) (input.trans (.leaveAllOff _))))

theorem State.TimersGoOn.takePin (b : Bool) : s.TimersGoOn (s.takePin b) := .allOffInput s (.of_timers rfl)

theorem State.TimersGoOn.setLatch (b : Bool) : s.TimersGoOn (s.setLatch b) := .allOffInput s (.of_timers rfl)

theorem State.TimersGoOn.restOrLock : s.TimersGoOn ((s.drop ch).restOrLock ch) := by
  unfold State.restOrLock
  split
  · rw [State.goTo_setLock, State.drop_goTo_act]
    exact (State.TimersGoOn.act (s.dropAct_goesOn ch .locked)).upTo rfl
  · rw [State.drop_goTo_act]
    exact .act (s.dropAct_goesOn ch .faulted)

theorem State.TimersGoOn.raiseFault {s t : State} (ch : Chan) (goes : s.TimersGoOn t) : s.TimersGoOn (t.raiseFault ch) :=
  goes.upTo rfl

theorem State.TimersGoOn.takeOvercurrent : s.TimersGoOn (s.takeOvercurrent ch) := by
  refine .ite (.sequencerEvent s ?_) (.refl s)
  have rests := State.TimersGoOn.restOrLock (s.setFault ch { s.faults[ch] with
    count := raisedCount s.faults[ch].count (s.chan ch).retry, stamp := some s.runCount }) ch
  exact State.TimersGoOn.raiseFault ch (rests.after rfl)

theorem State.TimersGoOn.handBack : s.TimersGoOn (s.handBack ch) :=
  (State.TimersGoOn.goTo s ch .off).trans (.ite (.refl _) (.testEligible _ ch))

theorem State.TimersGoOn.retryExpiry : s.TimersGoOn (s.retryExpiry ch) :=
  .ite (.sequencerEvent s (.handBack s ch)) (.refl s)

theorem State.TimersGoOn.cleanExpiry : s.TimersGoOn (s.cleanExpiry ch) := .ite (.of_timers rfl) (.refl s)

theorem State.TimersGoOn.clearFault : s.TimersGoOn (s.clearFault ch) := by
  have cleared : s.TimersGoOn (s.setFault ch { s.faults[ch] with count := 0 }) := .of_timers rfl
  refine .ite (cleared.trans (.sequencerEvent _ ?_)) cleared
  exact (State.TimersGoOn.handBack ((s.setFault ch { s.faults[ch] with count := 0 }).setLock ch false) ch).after rfl

end Operations

end Sys2Proof.Machine
end

section
/-! LONG_PAST_MARK, and what every row leaves of the long-past marks (R99). -/

namespace Sys2Proof.Machine

section Rows

variable {s t : State}

theorem State.TimersGoOn.whileRunning {f : State → State} (taken : s.TimersGoOn (f s)) :
    s.TimersGoOn (whileRunning f s) := .ite taken (.refl s)

theorem State.TimersGoOn.complete {code : Byte} {owner : List Byte → State → Answer}
    (answers : ∀ ps, s.TimersGoOn (owner ps s).state) : s.TimersGoOn (complete code owner s) := by
  unfold Machine.complete
  split
  · exact (answers _).upTo rfl
  · exact .refl s

theorem State.TimersGoOn.checked {α : Type} {read : Except Nat α} {f : α → Answer} (answers : ∀ a, s.TimersGoOn (f a).state) :
    s.TimersGoOn (checked read s f).state := by
  cases read with
  | ok a => exact answers a
  | error index => exact .refl s

theorem exec_timersGoOn {c : Instr} (hw : switchesChannels c = true) (h : exec c s = .next t) : s.TimersGoOn t := by
  have row {f : State → State} (taken : s.TimersGoOn (f s))
      (h : (Host.Outcome.next (whileRunning f s) : Host.Outcome State Fault Refusal) = .next t) : s.TimersGoOn t :=
    Host.Outcome.next.inj h ▸ .whileRunning taken
  have command {code : Byte} {owner : List Byte → State → Answer} (answers : ∀ ps, s.TimersGoOn (owner ps s).state)
      (h : (Host.Outcome.next (complete code owner s) : Host.Outcome State Fault Refusal) = .next t) : s.TimersGoOn t :=
    Host.Outcome.next.inj h ▸ .complete answers
  cases c with
  | setChannelTiming =>
    refine command (fun _ => .checked fun c => ?_) h
    split
    · exact .refl s
    · exact .setChannelTiming s c.chan c.minOn c.minOff c.ramp c.retry
  | configureGroup => exact command (fun _ => .checked fun c => .configureGroup s c.1 c.2) h
  | handOff => exact row (.takeOldestHandOff s) h
  | staggerExpiry => exact row (.staggerExpiry s) h
  | minOnExpiry ch => exact row (.sequencerEvent s (.endMinOn s ch)) h
  | minOffExpiry ch => exact row (.sequencerEvent s (.endMinOff s ch)) h
  | changeoverGapExpiry g => exact row (.sequencerEvent s (.endGap s g)) h
  | rampTimerExpiry ch => exact row (.sequencerEvent s (.endRampStep s ch)) h
  | longPastMark m => exact row (.markLongPast s m) h
  | allOffPinChange asserted => exact row (.takePin s asserted) h
  | forceAllOff => exact command (fun _ => .checked fun _ => .setLatch s true) h
  | releaseAllOff => exact command (fun _ => .checked fun _ => .setLatch s false) h
  | setStagger => exact command (fun _ => .checked fun b => .setStagger s b) h
  | overcurrentReport ch => exact row (.takeOvercurrent s ch) h
  | retryTimerExpiry ch => exact row (.retryExpiry s ch) h
  | cleanRunExpiry ch => exact row (.cleanExpiry s ch) h
  | clearFault => exact command (fun _ => .checked fun ch => .clearFault s ch) h
  | _ => cases hw

/-! ### The rows that leave the timers with a mark -/

/-- The tables of the timers with a mark. -/
def State.marked (s : State) : Vector Switching 16 × Vector GapStamp 4 × RunCount × Bool :=
  (s.sw, s.gapStamps, s.lastAdm, s.staggerPast)

theorem State.marked_of_driving (view : t.driving = s.driving) : t.marked = s.marked :=
  calc t.marked
    _ = t.driving.marked := rfl
    _ = s.driving.marked := by rw [view]
    _ = s.marked := rfl

theorem State.resolve_marked (sc : Scope) (s : State) : (s.resolve sc).marked = s.marked := by
  rw [State.resolve_eq]
  rfl

theorem State.takeRequestAt_marked (place : Nat) (s : State) : (s.takeRequestAt place).marked = s.marked := by
  unfold State.takeRequestAt
  split
  · rfl
  · exact (State.resolve_marked ..).trans rfl

theorem State.takeLevelsAt_marked (place : Nat) (s : State) : (s.takeLevelsAt place).marked = s.marked := by
  unfold State.takeLevelsAt
  split
  · rfl
  · exact (State.resolve_marked ..).trans rfl

theorem State.setFallback_marked (ch : Chan) (l : Level) (s : State) : (s.setFallback ch l).marked = s.marked :=
  (State.resolve_marked ..).trans rfl

theorem State.configureChannel_marked (ch : Chan) (kind : ChanKind) (group : Option Group) (cls : QueueClass) (s : State) :
    (s.configureChannel ch kind group cls).marked = s.marked := ite_keepsView rfl ((State.resolve_marked ..).trans rfl)

theorem exec_marked_of_resolves {c : Instr} (hd : resolvesTargets c = true) (h : exec c s = .next t) :
    t.marked = s.marked := by
  have command {code : Byte} {owner : List Byte → State → Answer} (kept : ∀ ps, (owner ps s).state.marked = s.marked)
      (h : (Host.Outcome.next (complete code owner s) : Host.Outcome State Fault Refusal) = .next t) :
      t.marked = s.marked := completion_keepsView (fun _ _ => rfl) kept h
  cases c with
  | reResolutionRequest place => exact event_keepsView (s.takeRequestAt_marked place) h
  | appliedLevelReport place => exact event_keepsView (s.takeLevelsAt_marked place) h
  | setFallback => exact command (fun _ => checked_keepsView fun _ => State.setFallback_marked ..) h
  | configureChannel =>
    exact command (fun _ => checked_keepsView fun _ =>
      Answer.ite_keepsView (State.configureChannel_marked ..) rfl) h
  | _ => cases hd

theorem State.assertReset_marked (s : State) : s.assertReset.marked = s.marked := by
  unfold State.assertReset
  cases hs : s.sup.state <;> simp only [hs] <;> rfl

theorem State.releaseReset_marked (s : State) : s.releaseReset.marked = s.marked := by
  unfold State.releaseReset
  cases hs : s.sup.state <;> simp only [hs] <;> rfl

theorem takeStart_marked (code : Byte) (cold : Bool) (s : State) : (takeStart code cold s).marked = s.marked := by
  unfold takeStart
  split
  · split <;> rfl
  · rfl

theorem exec_marked_of_movesSupervisor {c : Instr} (hm : movesSupervisor c = true) (h : exec c s = .next t) :
    t.marked = s.marked := by
  cases c with
  | rstAssert => exact next_keepsView s.assertReset_marked h
  | rstRelease => exact next_keepsView s.releaseReset_marked h
  | supplyQualified => exact next_keepsView (ite_keepsView rfl rfl : s.qualified.marked = s.marked) h
  | restart => exact next_keepsView (takeStart_marked ..) h
  | factoryClear => exact next_keepsView (takeStart_marked ..) h
  | _ => cases hm

theorem State.judgeLevels_marked (s : State) : s.judgeLevels.marked = s.marked := ite_keepsView rfl rfl

/-- Supply levels leave the timers with a mark, in RETENTION and in OFF too. -/
theorem State.takeLevels_marked (vdd vbat : Nat) (s : State) : (s.takeLevels vdd vbat).marked = s.marked := by
  unfold State.takeLevels
  cases hs : s.sup.state with
  | running | starting =>
    simp only [hs]
    exact ite_keepsView ((State.judgeLevels_marked _).trans rfl) rfl
  | retention =>
    simp only [hs]
    exact (State.judgeLevels_marked _).trans rfl
  | off =>
    simp only [hs]
    exact ite_keepsView rfl rfl

/-! ### Every row -/

/-- No mark is cleared but where its timer starts at the run count (R99). -/
structure State.MarksStay (s t : State) : Prop where
  dwells : ∀ ch : Chan,
    (s.sw[ch].minOnPast = true → t.sw[ch].minOnPast = false → t.sw[ch].admStamp = t.runCount) ∧
    (s.sw[ch].minOffPast = true → t.sw[ch].minOffPast = false → t.sw[ch].offStamp = t.runCount)
  gaps : ∀ g : Group, s.gapStamps[g.idx].past = true → t.gapStamps[g.idx].past = false →
    t.gapStamps[g.idx].stamp = t.runCount
  stagger : s.staggerPast = true → t.staggerPast = false → t.lastAdm = t.runCount

theorem State.TimersGoOn.marksStay (goes : s.TimersGoOn t) : s.MarksStay t := by
  obtain ⟨run, dwells, gaps, stagger⟩ := goes
  refine ⟨fun ch => ⟨fun past cleared => ?_, fun past cleared => ?_⟩, fun g past cleared => ?_, fun past cleared => ?_⟩ <;>
    rw [run]
  · exact (dwells ch).minOn.starts past cleared
  · exact (dwells ch).minOff.starts past cleared
  · exact (gaps g).starts past cleared
  · exact stagger.starts past cleared

theorem State.MarksStay.of_marked (same : t.marked = s.marked) : s.MarksStay t := by
  have sw : t.sw = s.sw := congrArg (·.1) same
  have gaps : t.gapStamps = s.gapStamps := congrArg (·.2.1) same
  have past : t.staggerPast = s.staggerPast := congrArg (·.2.2.2) same
  have never {p : Bool} {q : Prop} (marked : p = true) (cleared : p = false) : q := by rw [marked] at cleared; cases cleared
  refine ⟨fun ch => ?_, fun g => ?_, ?_⟩
  · rw [sw]
    exact ⟨never, never⟩
  · rw [gaps]
    exact never
  · rw [past]
    exact never

/-- Every timer with a mark starts at the run count. -/
structure State.TimersStart (t : State) : Prop where
  dwells : ∀ ch : Chan, t.sw[ch].admStamp = t.runCount ∧ t.sw[ch].offStamp = t.runCount
  gaps : ∀ g : Group, t.gapStamps[g.idx].stamp = t.runCount
  stagger : t.lastAdm = t.runCount

theorem State.TimersStart.marksStay (started : t.TimersStart) (s : State) : s.MarksStay t :=
  ⟨fun ch => ⟨fun _ _ => (started.dwells ch).1, fun _ _ => (started.dwells ch).2⟩, fun g _ _ => started.gaps g,
    fun _ _ => started.stagger⟩

theorem State.coldStart_timersStart (pin : Bool) (s : State) : (s.coldStart pin).TimersStart := by
  have record (ch : Chan) : (s.coldStart pin).sw[ch] = .cold := tabConst_getElem 16 _ ch
  have stamp (g : Group) : (s.coldStart pin).gapStamps[g.idx] = .cold := tabConst_getElem 4 _ g.idx
  refine ⟨fun ch => ?_, fun g => ?_, rfl⟩
  · rw [record]
    exact ⟨rfl, rfl⟩
  · rw [stamp]
    rfl

/-- At a warm start every stamp stands at the resumption instant, an admission's too (R126). -/
theorem State.warmStart_timersStart (pin : Bool) (s : State) : (s.warmStart pin).TimersStart := by
  obtain ⟨v, woken, warmed⟩ := s.warmStart_eq pin
  have stamp (g : Group) : (s.warmed pin v).gapStamps[g.idx] = ⟨s.runCount, false⟩ := tabConst_getElem 4 _ g.idx
  rw [warmed]
  refine ⟨fun ch => ?_, fun g => ?_, rfl⟩
  · have record : (s.warmed pin v).sw[ch] = v.sw[ch] := rfl
    rw [record, woken.sw]
    split <;> exact ⟨rfl, rfl⟩
  · rw [stamp]
    rfl

theorem exec_marksStay {c : Instr} (h : exec c s = .next t) : s.MarksStay t := by
  cases hw : switchesChannels c with
  | true => exact (exec_timersGoOn hw h).marksStay
  | false =>
    cases hd : resolvesTargets c with
    | true => exact .of_marked (exec_marked_of_resolves hd h)
    | false =>
      cases hm : movesSupervisor c with
      | true => exact .of_marked (exec_marked_of_movesSupervisor hm h)
      | false =>
        cases hr : remakesStore c with
        | false => exact .of_marked (State.marked_of_driving (exec_driving hd hw hm hr h))
        | true =>
          obtain supply | ends := (Bool.or_eq_true ..).mp hr
          · obtain ⟨vdd, vbat, rfl⟩ := exec_supplyLevels supply h
            exact .of_marked (s.takeLevels_marked vdd vbat)
          · obtain ⟨pin, rfl⟩ := endsStart_iff.mp ends
            rw [← Host.Outcome.next.inj h, State.endStarting]
            split
            · split
              · exact (s.coldStart_timersStart pin).marksStay s
              · exact (s.warmStart_timersStart pin).marksStay s
            · exact .of_marked rfl

end Rows

theorem exec_longPastMark {s : State} (running : s.sup.state = .running) (m : LongPastTimer) :
    exec (.longPastMark m) s = .next (s.markLongPast m) := next_whileRunning running rfl

/-- Settles O46: the mark's own row timer by timer, and the marks through every row. -/
theorem longPastMarksStay : Obligations.LongPastMarksStay := by
  have due (now start : RunCount) (len : Nat) (t u : State) : (if elapsed now start len then t else u) =
      if len ≤ (now - start).toNat then t else u := if_congr (elapsed_iff now start len) rfl rfl
  refine ⟨fun s ch running => ⟨?_, ?_⟩, fun s g running => ?_, fun s running => ?_, fun c s t h => ?_⟩
  · rw [exec_longPastMark running, State.markLongPast, due]
    rfl
  · rw [exec_longPastMark running, State.markLongPast, due]
    rfl
  · rw [exec_longPastMark running, State.markLongPast, due]
    rfl
  · rw [exec_longPastMark running, State.markLongPast, due]
    rfl
  · obtain ⟨dwells, gaps, stagger⟩ := exec_marksStay h
    exact ⟨dwells, gaps, stagger⟩

end Sys2Proof.Machine
end

section
/-! Admissions from the head of the Switching Queue (R106 to R109): which entries the test for admission takes, and what their
admission leaves. -/

namespace Sys2Proof.Machine

/-! ### Entries admitted one after another -/

/-- The entries of a list admitted in its order. -/
def State.admitEach (es : List QueueEntry) (s : State) : State := es.foldl (fun s e => s.admitEntry e) s

theorem State.admitEntry_frame (e : QueueEntry) (s : State) : s.admitEntry e = { s with
    sw := (s.admitEntry e).sw
    faults := (s.admitEntry e).faults
    lastAdm := s.runCount
    staggerPast := false
    att := { s.att with channel := (s.admitEntry e).att.channel } } := by
  rw [State.admitEntry_act]
  rfl

theorem State.admitEach_frame (es : List QueueEntry) (s : State) : s.admitEach es = { s with
    sw := (s.admitEach es).sw
    faults := (s.admitEach es).faults
    lastAdm := if es = [] then s.lastAdm else s.runCount
    staggerPast := if es = [] then s.staggerPast else false
    att := { s.att with channel := (s.admitEach es).att.channel } } := by
  induction es generalizing s with
  | nil => rfl
  | cons e es ih =>
    have whole : s.admitEach (e :: es) = (s.admitEntry e).admitEach es := rfl
    rw [whole, ih (s.admitEntry e), State.admitEntry_frame e s]
    simp only [List.cons_ne_nil, if_false, ite_self]

section Admissions

variable (es : List QueueEntry) (s : State)

@[simp] theorem State.admitEach_ret : (s.admitEach es).ret = s.ret := by rw [State.admitEach_frame]
@[simp] theorem State.admitEach_runCount : (s.admitEach es).runCount = s.runCount := by rw [State.admitEach_frame]
@[simp] theorem State.admitEach_queue : (s.admitEach es).queue = s.queue := by rw [State.admitEach_frame]
@[simp] theorem State.admitEach_mail : (s.admitEach es).mail = s.mail := by rw [State.admitEach_frame]
@[simp] theorem State.admitEach_gapStamps : (s.admitEach es).gapStamps = s.gapStamps := by rw [State.admitEach_frame]

theorem State.admitEach_lastAdm : (s.admitEach es).lastAdm = if es = [] then s.lastAdm else s.runCount := by
  rw [State.admitEach_frame]

theorem State.admitEach_staggerPast : (s.admitEach es).staggerPast = if es = [] then s.staggerPast else false := by
  rw [State.admitEach_frame]

variable {es s}

/-- A channel that is not admitted keeps its records. -/
theorem State.admitEach_still {ch : Chan} (apart : ch ∉ es.map (·.chan)) :
    (s.admitEach es).sw[ch] = s.sw[ch] ∧ (s.admitEach es).faults[ch] = s.faults[ch] := by
  induction es generalizing s with
  | nil => exact ⟨rfl, rfl⟩
  | cons e es ih =>
    rw [List.map_cons, List.mem_cons, not_or] at apart
    obtain ⟨sw, faults⟩ := ih (s := s.admitEntry e) apart.2
    rw [State.admitEntry_sw, if_neg apart.1] at sw
    rw [State.admitEntry_faults, if_neg apart.1] at faults
    exact ⟨sw, faults⟩

/-- An admitted channel is ON with its admission stamp made. -/
theorem State.admitEach_on {ch : Chan} (admitted : ch ∈ es.map (·.chan)) :
    (s.admitEach es).sw[ch].state = .on ∧ (s.admitEach es).sw[ch].admStamp = s.runCount := by
  induction es generalizing s with
  | nil => cases admitted
  | cons e es ih =>
    by_cases later : ch ∈ es.map (·.chan)
    · have on := ih (s := s.admitEntry e) later
      have run : (s.admitEntry e).runCount = s.runCount := by rw [State.admitEntry_frame]
      rw [run] at on
      exact on
    · have here : ch = e.chan := (List.mem_cons.mp admitted).resolve_right later
      have record : (s.admitEach (e :: es)).sw[ch] = (s.admitEntry e).sw[ch] := (State.admitEach_still later).1
      rw [record, State.admitEntry_sw, if_pos here]
      exact ⟨rfl, rfl⟩

/-- The records of an admitted channel, where no channel is admitted twice (R109, R113, R131). -/
theorem State.admitEach_admitted (once : (es.map (·.chan)).Nodup) {e : QueueEntry} (he : e ∈ es) :
    (s.admitEach es).sw[e.chan] = admittedRecord s.ret.channels[e.chan] s.runCount s.sw[e.chan] e.level ∧
      (s.admitEach es).faults[e.chan] = { s.faults[e.chan] with cleanRunning := true } := by
  induction es generalizing s with
  | nil => cases he
  | cons x es ih =>
    rw [List.map_cons, List.nodup_cons] at once
    obtain ⟨fresh, once⟩ := once
    obtain rfl | later := List.mem_cons.mp he
    · obtain ⟨sw, faults⟩ := State.admitEach_still (s := s.admitEntry e) fresh
      rw [State.admitEntry_sw, if_pos rfl] at sw
      rw [State.admitEntry_faults, if_pos rfl] at faults
      exact ⟨sw, faults⟩
    · have other : e.chan ≠ x.chan := fun same => fresh (same ▸ List.mem_map_of_mem later)
      obtain ⟨sw, faults⟩ := ih (s := s.admitEntry x) once later
      have ret : (s.admitEntry x).ret = s.ret := by rw [State.admitEntry_frame]
      have run : (s.admitEntry x).runCount = s.runCount := by rw [State.admitEntry_frame]
      rw [State.admitEntry_sw, if_neg other, ret, run] at sw
      rw [State.admitEntry_faults, if_neg other] at faults
      exact ⟨sw, faults⟩

/-- The CHANNEL flags: those of the channels whose switching state changed (R116). -/
theorem State.admitEach_flags (c : Chan) : (s.admitEach es).att.channel.getLsbD c.val =
    (s.att.channel.getLsbD c.val || decide ((s.admitEach es).sw[c].state ≠ s.sw[c].state)) := by
  induction es generalizing s with
  | nil => simp [-Fin.getElem_fin, State.admitEach]
  | cons e es ih =>
    have whole : s.admitEach (e :: es) = (s.admitEntry e).admitEach es := rfl
    have first : (s.admitEntry e).att.channel.getLsbD c.val =
        (s.att.channel.getLsbD c.val || decide ((s.admitEntry e).sw[c].state ≠ s.sw[c].state)) := by
      rw [State.admitEntry_act]
      exact State.act_flags e.chan _ s c
    rw [whole, ih, first, Bool.or_assoc]
    congr 1
    have stays : ((s.admitEntry e).admitEach es).sw[c].state = (s.admitEntry e).sw[c].state ∨
        (s.admitEntry e).sw[c].state = s.sw[c].state := by
      by_cases here : c = e.chan
      · refine .inl ?_
        have on : (s.admitEntry e).sw[c].state = .on := by rw [State.admitEntry_sw, if_pos here]; rfl
        by_cases later : c ∈ es.map (·.chan)
        · rw [(State.admitEach_on later).1, on]
        · rw [(State.admitEach_still later).1]
      · exact .inr (by rw [State.admitEntry_sw, if_neg here])
    obtain same | same := stays
    · rw [same]
      simp
    · rw [same]
      simp

end Admissions

/-! ### The test for admission (R109) -/

/-- What the test takes from the head of a queue: nothing before the stagger timer has elapsed, one entry where there is a stagger
interval, and all of them where there is none. -/
structure State.TestAdmits (s : State) (gone rest : List QueueEntry) : Prop where
  queue : s.queue = gone ++ rest
  admits : s.admitDue = { s with queue := rest }.admitEach gone
  waits : ¬s.staggerOver → gone = []
  one : s.staggerOver → s.ret.stagger ≠ 0 → gone.length = min 1 s.queue.length
  all : s.ret.stagger = 0 → rest = []

theorem State.staggerOver_zero {s : State} (zero : s.ret.stagger = 0) : s.staggerOver :=
  s.staggerElapsed_iff.mp (State.staggerElapsed_zero zero)

/-- A stagger interval that is not 0 has not run at the admission that starts it. -/
theorem State.admitEach_staggerOver {es : List QueueEntry} {s : State} (some : es ≠ []) (interval : s.ret.stagger ≠ 0) :
    ¬(s.admitEach es).staggerOver := by
  have wait : 0 < s.ret.stagger.toNat := Nat.pos_of_ne_zero fun zero => interval (BitVec.eq_of_toNat_eq zero)
  rw [State.staggerOver, State.admitEach_lastAdm, State.admitEach_staggerPast, State.admitEach_ret, State.admitEach_runCount,
    if_neg some, if_neg some, BitVec.sub_self]
  simpa using wait.ne'

theorem State.admitDue_all {s : State} (zero : s.ret.stagger = 0) :
    s.admitDue = { s with queue := [] }.admitEach s.queue := by
  unfold State.admitDue
  generalize hq : s.queue = q
  induction q generalizing s with
  | nil =>
    have same : { s with queue := [] } = s := by rw [← hq]
    exact same.symm
  | cons e rest ih =>
    have step : s.admitUpTo (e :: rest).length = ({ s with queue := rest }.admitEntry e).admitUpTo rest.length := by
      simp only [List.length_cons, State.admitUpTo, hq, State.staggerElapsed_zero zero, if_true]
    have ret : ({ s with queue := rest }.admitEntry e).ret = s.ret := by rw [State.admitEntry_frame]
    have emptied : { { s with queue := rest }.admitEntry e with queue := [] } = { s with queue := [] }.admitEntry e := by
      rw [State.admitEntry_act, State.admitEntry_act]
      rfl
    rw [step, ih (by rw [ret, zero]) (State.admitEntry_queue ..), emptied]
    rfl

/-- With a stagger interval the head alone is admitted. -/
theorem State.admitDue_head {s : State} {e : QueueEntry} {rest : List QueueEntry} (queue : s.queue = e :: rest)
    (due : s.staggerOver) (interval : s.ret.stagger ≠ 0) : s.admitDue = { s with queue := rest }.admitEntry e := by
  have step : s.admitDue = ({ s with queue := rest }.admitEntry e).admitUpTo rest.length := by
    simp only [State.admitDue, queue, List.length_cons, State.admitUpTo, s.staggerElapsed_iff.mpr due, if_true]
  have left : ({ s with queue := rest }.admitEntry e).queue = rest := State.admitEntry_queue ..
  have again : ¬({ s with queue := rest }.admitEntry e).staggerOver :=
    State.admitEach_staggerOver (es := [e]) (s := { s with queue := rest }) nofun interval
  have waits := State.admitDue_wait again
  rw [State.admitDue, left] at waits
  rw [step, waits]

theorem State.admitDue_tested (s : State) : ∃ gone rest, s.TestAdmits gone rest := by
  by_cases due : s.staggerOver
  · by_cases zero : s.ret.stagger = 0
    · exact ⟨s.queue, [], (List.append_nil _).symm, State.admitDue_all zero, fun wait => absurd due wait,
        fun _ interval => absurd zero interval, fun _ => rfl⟩
    · cases queue : s.queue with
      | nil =>
        refine ⟨[], [], queue, ?_, fun _ => rfl, fun _ _ => by rw [queue]; rfl, fun _ => rfl⟩
        have same : { s with queue := [] } = s := by rw [← queue]
        exact (State.admitDue_nil queue).trans same.symm
      | cons e rest =>
        refine ⟨[e], rest, queue, State.admitDue_head queue due zero, fun wait => absurd due wait, fun _ _ => ?_,
          fun stagger => absurd stagger zero⟩
        rw [queue]
        simp
  · exact ⟨[], s.queue, rfl, State.admitDue_wait due, fun _ => rfl, fun elapsed => absurd elapsed due,
      fun zero => absurd (State.staggerOver_zero zero) due⟩

/-- The test takes all it can at once. -/
theorem State.admitDue_again (s : State) : s.admitDue.admitDue = s.admitDue := by
  obtain ⟨gone, rest, queue, admits, waits, -, all⟩ := s.admitDue_tested
  by_cases zero : s.ret.stagger = 0
  · refine State.admitDue_nil ?_
    rw [admits, State.admitEach_queue]
    exact all zero
  · by_cases none : gone = []
    · have same : s.admitDue = s := by
        rw [none] at admits queue
        rw [admits, ← List.nil_append rest, ← queue]
        rfl
      rw [same, same]
    · refine State.admitDue_wait ?_
      rw [admits]
      exact State.admitEach_staggerOver (s := { s with queue := rest }) none zero

/-! ### One admission in closed form -/

/-- An admission out of another state than ON, but for its report. -/
theorem State.admitEntry_admitted {e : QueueEntry} {s : State} (off : s.sw[e.chan].state ≠ .on) :
    s.admitEntry e = { s.admitted e.chan e.level with mail := s.mail } := by
  have moves : ¬(s.admitAct e.chan e.level).sw.state = s.sw[e.chan].state := fun same => off same.symm
  rw [State.admitEntry_act, State.act, if_neg moves]
  rfl

/-- The report of one admission (R115). -/
theorem State.admitEntry_reported {e : QueueEntry} {s : State} (off : s.sw[e.chan].state ≠ .on)
    (undriven : s.sw[e.chan].applied = 0) (some : e.level ≠ 0) :
    (s.admitEntry e).postLevels (levelChanges s (s.admitEntry e)) = s.admitted e.chan e.level := by
  have record : (s.admitEntry e).sw =
      s.sw.set e.chan (admittedRecord s.ret.channels[e.chan] s.runCount s.sw[e.chan] e.level) := by
    rw [State.admitEntry_admitted off]
    rfl
  have drives : (admittedRecord s.ret.channels[e.chan] s.runCount s.sw[e.chan] e.level).applied ≠ 0 := by
    unfold admittedRecord
    dsimp only
    split
    · exact one_ne_zero
    · exact some
  have changes : (s.sw[e.chan].applied = 0) ≠
      ((admittedRecord s.ret.channels[e.chan] s.runCount s.sw[e.chan] e.level).applied = 0) := by
    rw [eq_true undriven, eq_false drives]
    exact true_ne_false
  have reported : levelChanges s (s.admitEntry e) =
      if (s.chan e.chan).group.isSome then BitVec.twoPow 16 e.chan.val else 0 := by
    rw [levelChanges_one record]
    exact if_congr (and_iff_left changes) rfl rfl
  rw [reported, State.postLevels_eq, State.admitEntry_admitted off]
  unfold State.admitted State.chan
  cases s.ret.channels[e.chan].group with
  | none => simp [asRequest]
  | some g => simp [asRequest_chan]

end Sys2Proof.Machine
end

section
/-! STAGGER_EXPIRY and SET STAGGER (R109, R110): the admission of the head by the stagger timer. -/

namespace Sys2Proof.Machine

/-- The expiry is the test for admission with its report (R109, R115). -/
theorem State.staggerExpiry_eq (s : State) : s.staggerExpiry = s.admitDue.postLevels (levelChanges s s.admitDue) := by
  simp only [State.staggerExpiry, sequencerEvent, State.admitDue_again, ite_self]

theorem State.staggerExpiry_still {s : State} (waits : s.admitDue = s) : s.staggerExpiry = s := by
  rw [State.staggerExpiry_eq, waits, levelChanges_self]
  rfl

theorem exec_staggerExpiry {s : State} (running : s.sup.state = .running) :
    exec .staggerExpiry s = .next s.staggerExpiry := next_whileRunning running rfl

/-- An event that tests a queue with no stagger interval empties it, each of its channels admitted (R109). -/
theorem State.admitDue_empties {s : State} (zero : s.ret.stagger = 0) : s.admitDue.queue = [] ∧
    ∀ e ∈ s.queue, s.admitDue.sw[e.chan].state = .on ∧ s.admitDue.sw[e.chan].admStamp = s.runCount := by
  rw [State.admitDue_all zero]
  exact ⟨State.admitEach_queue .., fun e he => State.admitEach_on (List.mem_map_of_mem he)⟩

/-- Settles O43, by whether the stagger timer has elapsed and whether there is a stagger interval. -/
theorem theHeadIsAdmittedByTheStagger : Obligations.TheHeadIsAdmittedByTheStagger := by
  refine ⟨fun s e rest running queue queued undriven some => ⟨fun waits => ?_, fun due interval => ?_, fun zero => ?_⟩,
    fun s running empty => ?_, fun s b h => ?_⟩
  · rw [exec_staggerExpiry running, State.staggerExpiry_still (State.admitDue_wait waits)]
  · have off : s.sw[e.chan].state ≠ .on := by rw [queued]; nofun
    rw [exec_staggerExpiry running, State.staggerExpiry_eq, State.admitDue_head queue due interval]
    exact congrArg _ (State.admitEntry_reported (s := { s with queue := rest }) off undriven some)
  · obtain ⟨emptied, admitted⟩ := State.admitDue_empties zero
    refine ⟨_, exec_staggerExpiry running, ?_, ?_⟩ <;> rw [State.staggerExpiry_eq, State.postLevels_eq]
    · exact emptied
    · exact admitted
  · rw [exec_staggerExpiry running, State.staggerExpiry_still (State.admitDue_nil empty)]
  · exact ⟨s.setStagger b, exec_staggerExpiry h.1, next_complete h rfl⟩

end Sys2Proof.Machine
end

section
/-! Events of the sequencer, told by their change (R107 to R109, R115): those that leave the queue's channels and drive none, those
that have the head tested, and the eligibility tests of one channel. -/

namespace Sys2Proof.Machine

/-! ### What an event reads -/

section Reads

variable {s t u : State}

/-- The test and the report read the queue, which channels are driven, and the groups. -/
theorem sequencerEvent_shift {f g : State → State} (change : f s = g u) (queue : u.queue = s.queue)
    (channels : u.ret.channels = s.ret.channels) (driven : ∀ c : Chan, u.sw[c].applied = 0 ↔ s.sw[c].applied = 0) :
    sequencerEvent f s = sequencerEvent g u := by
  have tested (t : State) : admissionTested s t = admissionTested u t := by
    unfold admissionTested State.head
    rw [queue]
  have changes (t : State) : levelChanges s t = levelChanges u t := by
    refine chanSet_ext fun c => ?_
    simp only [levelChanges, chansWhere_getLsbD, State.chan, channels, driven]
  simp only [sequencerEvent, change, tested, changes]

theorem levelChanges_zero (driven : ∀ c : Chan, t.sw[c].applied = 0 ↔ s.sw[c].applied = 0) : levelChanges s t = 0 := by
  refine chanSet_ext fun c => ?_
  rw [levelChanges, chansWhere_getLsbD, chanSet_zero_getLsbD]
  simp only [driven, ne_eq, not_true_eq_false, decide_false, Bool.and_false]

/-- The queue's channels, in their order, bring no test where they stay. -/
theorem admissionTested_of_chans (chans : t.queue.map (·.chan) = s.queue.map (·.chan)) : admissionTested s t = false := by
  have head : t.head = s.head := by rw [State.head, State.head, ← List.head?_map, ← List.head?_map, chans]
  rw [admissionTested, decide_eq_false (not_not.mpr head), Bool.false_or, List.any_eq_false]
  intro e he
  obtain ⟨x, hx, same⟩ := List.mem_map.mp (chans ▸ List.mem_map_of_mem he : e.chan ∈ s.queue.map (·.chan))
  rw [Bool.not_eq_true, List.all_eq_false]
  exact ⟨x, hx, by simp [same]⟩

/-- A channel that enters has the head tested (R107). -/
theorem admissionTested_of_enters {e : QueueEntry} (enters : e ∈ t.queue) (fresh : e.chan ∉ s.queue.map (·.chan)) :
    admissionTested s t = true := by
  refine Bool.or_eq_true_iff.mpr (.inr (List.any_eq_true.mpr ⟨e, enters, List.all_eq_true.mpr fun x hx => ?_⟩))
  exact decide_eq_true fun same => fresh (List.mem_map.mpr ⟨x, hx, same⟩)

/-- Another head is tested (R108, R109). -/
theorem admissionTested_of_head (moves : t.head ≠ s.head) : admissionTested s t = true :=
  Bool.or_eq_true_iff.mpr (.inl (decide_eq_true moves))

/-- An event that leaves the queue's channels and which channels are driven is its change. -/
theorem sequencerEvent_quiet {f : State → State} (chans : (f s).queue.map (·.chan) = s.queue.map (·.chan))
    (driven : ∀ c : Chan, (f s).sw[c].applied = 0 ↔ s.sw[c].applied = 0) : sequencerEvent f s = f s := by
  simp only [sequencerEvent, admissionTested_of_chans chans, Bool.false_eq_true, if_false, levelChanges_zero driven]
  rfl

/-- Before the stagger timer has elapsed the test admits none (R109). -/
theorem sequencerEvent_wait {f : State → State} (wait : ¬(f s).staggerOver)
    (driven : ∀ c : Chan, (f s).sw[c].applied = 0 ↔ s.sw[c].applied = 0) : sequencerEvent f s = f s := by
  simp only [sequencerEvent, State.admitDue_wait wait, ite_self, levelChanges_zero driven]
  rfl

/-- An event that has the head tested, and of itself drives no channel and stops the drive of none, is its change and then the
expiry of the stagger timer. -/
theorem sequencerEvent_tested {f : State → State} (tested : admissionTested s (f s) = true)
    (channels : (f s).ret.channels = s.ret.channels)
    (driven : ∀ c : Chan, (f s).sw[c].applied = 0 ↔ s.sw[c].applied = 0) :
    sequencerEvent f s = (f s).staggerExpiry := by
  have changes (t : State) : levelChanges s t = levelChanges (f s) t := by
    refine chanSet_ext fun c => ?_
    simp only [levelChanges, chansWhere_getLsbD, State.chan, channels, driven]
  simp only [sequencerEvent, tested, if_true, State.staggerExpiry_eq, changes]

end Reads

/-! ### One act -/

section OneAct

variable {s : State} {ch : Chan} {a : Act}

theorem State.act_driven (driven : a.sw.applied = 0 ↔ s.sw[ch].applied = 0) (c : Chan) :
    (s.act ch a).sw[c].applied = 0 ↔ s.sw[c].applied = 0 := by
  rw [State.act_sw]
  split
  · rename_i here
    rw [here]
    exact driven
  · rfl

/-- An event of one act that leaves the channel's entry and its being driven. -/
theorem sequencerEvent_act {f : State → State} (change : f s = s.act ch a)
    (chans : (a.move.apply ch s.queue).map (·.chan) = s.queue.map (·.chan))
    (driven : a.sw.applied = 0 ↔ s.sw[ch].applied = 0) : sequencerEvent f s = s.act ch a := by
  have quiet := sequencerEvent_quiet (s := s) (f := f) (by rw [change]; exact chans)
    (by rw [change]; exact State.act_driven driven)
  rw [quiet, change]

end OneAct

/-! ### The head tested -/

/-- The only entry of a queue whose stagger timer has elapsed is admitted, with a stagger interval or without (R109). -/
theorem State.admitDue_only {s : State} {e : QueueEntry} (queue : s.queue = [e]) (due : s.staggerOver) :
    s.admitDue = { s with queue := [] }.admitEntry e := by
  by_cases zero : s.ret.stagger = 0
  · rw [State.admitDue_all zero, queue]
    rfl
  · exact State.admitDue_head queue due zero

/-- What the expiry of the stagger timer leaves of a queue of waiting channels. -/
theorem State.staggerExpiry_admitsHead {u : State} {q : List QueueEntry} (none : u.queue = []) (due : u.staggerOver)
    (waiting : u.Waiting q) : AdmitsHead u q { u with queue := q }.staggerExpiry where
  head h rest queue interval := by
    subst queue
    obtain ⟨some, queued, undriven⟩ := waiting.2 h List.mem_cons_self
    have off : u.sw[h.chan].state ≠ .on := by rw [queued]; nofun
    rw [State.staggerExpiry_eq, State.admitDue_head (s := { u with queue := h :: rest }) rfl due interval]
    exact State.admitEntry_reported (s := { u with queue := rest }) off undriven some
  empty queue := by
    subst queue
    have same : { u with queue := [] } = u := by rw [← none]
    rw [same, State.staggerExpiry_still (State.admitDue_nil none)]
  emptied zero := by
    rw [State.staggerExpiry_eq, State.postLevels_eq]
    exact State.admitDue_empties (s := { u with queue := q }) zero

/-! ### The eligibility tests of one channel (R103) -/

section Tests

variable {s : State} {ch : Chan}

theorem State.moved_act (ch : Chan) (st : SwState) (s : State) : s.moved ch st = s.act ch (s.moveAct ch st) := s.goTo_act ch st

theorem State.moved_driven (ch : Chan) (st : SwState) (s : State) (c : Chan) :
    (s.moved ch st).sw[c].applied = 0 ↔ s.sw[c].applied = 0 := by
  rw [State.moved_act]
  exact State.act_driven Iff.rfl c

theorem sequencerEvent_moved {f : State → State} {st : SwState} (change : f s = s.moved ch st) :
    sequencerEvent f s = s.moved ch st := by
  rw [State.moved_act] at change ⊢
  exact sequencerEvent_act change rfl Iff.rfl

/-- A channel with its entry placed. -/
def State.entered (s : State) (ch : Chan) : State :=
  { s with queue := queueWith s.queue ⟨ch, s.ret.channels[ch].queueClass, s.sw[ch].target⟩ }.moved ch .queued

theorem State.moved_frame (ch : Chan) (st : SwState) (s : State) :
    s.moved ch st = { s with
      sw := s.sw.set ch { s.sw[ch] with state := st }
      att := (s.moved ch st).att } := by
  rw [State.moved_act, State.act]
  simp only [State.moveAct, State.stillAct, vector_set_self, QueueMove.apply, Bool.false_eq_true, if_false]

theorem State.moved_sw (ch : Chan) (st : SwState) (s : State) (c : Chan) :
    (s.moved ch st).sw[c] = if c = ch then { s.sw[ch] with state := st } else s.sw[c] := by
  rw [State.moved_frame]
  exact set_getElem ..

theorem State.moved_queue (ch : Chan) (st : SwState) (q : List QueueEntry) (s : State) :
    { s with queue := q }.moved ch st = { s.moved ch st with queue := q } := by
  by_cases same : s.sw[ch].state = st
  · rw [State.moved, if_pos same, State.moved, if_pos same]
  · rw [State.moved, if_neg same, State.moved, if_neg same]

theorem State.moved_staggerOver (ch : Chan) (st : SwState) (s : State) :
    (s.moved ch st).staggerOver ↔ s.staggerOver := by
  rw [State.moved_frame]
  rfl

/-- A move to QUEUED and then an admission is the admission: its flag is raised once and for all (R116). -/
theorem State.admitted_moved {s : State} {ch : Chan} {l : Level} : (s.moved ch .queued).admitted ch l = s.admitted ch l := by
  have flags (x : BitVec 16) : x ||| BitVec.twoPow 16 ch.val ||| BitVec.twoPow 16 ch.val = x ||| BitVec.twoPow 16 ch.val := by
    rw [BitVec.or_assoc, BitVec.or_self]
  by_cases same : s.sw[ch].state = .queued
  · rw [State.moved, if_pos same]
  · rw [State.moved, if_neg same]
    simp only [State.admitted, set_getElem_self, Vector.set_set, flags]
    rfl

theorem State.entered_queue (s : State) (ch : Chan) :
    (s.entered ch).queue = placeEntry s.queue ⟨ch, s.ret.channels[ch].queueClass, s.sw[ch].target⟩ := by
  rw [State.entered, State.moved_frame, placeEntry_eq]

theorem State.mem_entered (s : State) (ch : Chan) :
    ⟨ch, s.ret.channels[ch].queueClass, s.sw[ch].target⟩ ∈ (s.entered ch).queue := by
  rw [State.entered_queue]
  exact (placeEntry_perm ..).mem_iff.mpr List.mem_cons_self

theorem State.entered_driven (s : State) (ch c : Chan) : (s.entered ch).sw[c].applied = 0 ↔ s.sw[c].applied = 0 :=
  State.moved_driven ch .queued
    { s with queue := queueWith s.queue ⟨ch, s.ret.channels[ch].queueClass, s.sw[ch].target⟩ } c

theorem State.entered_ret (s : State) (ch : Chan) : (s.entered ch).ret = s.ret := by
  rw [State.entered, State.moved_frame]

theorem State.entered_staggerOver (s : State) (ch : Chan) : (s.entered ch).staggerOver ↔ s.staggerOver :=
  State.moved_staggerOver ..

/-- An entry placed in a queue that it is not in is tested. -/
theorem sequencerEvent_entered {f : State → State} (change : f s = s.entered ch) (fresh : ch ∉ s.queue.map (·.chan)) :
    sequencerEvent f s = (s.entered ch).staggerExpiry := by
  have tested : admissionTested s (f s) = true := by
    rw [change]
    exact admissionTested_of_enters (s.mem_entered ch) fresh
  rw [sequencerEvent_tested tested (by rw [change, State.entered_ret]) (by rw [change]; exact s.entered_driven ch), change]

/-- A channel that enters a queue of waiting channels waits there too. -/
theorem State.Waiting.entered (waiting : s.Waiting s.queue) (undriven : s.sw[ch].applied = 0) (some : s.sw[ch].target ≠ 0)
    (new : s.sw[ch].state ≠ .queued) : ({ s with queue := [] }.moved ch .queued).Waiting
      (queueWith s.queue ⟨ch, s.ret.channels[ch].queueClass, s.sw[ch].target⟩) := by
  obtain ⟨once, waits⟩ := waiting
  have other {e : QueueEntry} (he : e ∈ s.queue) : e.chan ≠ ch := fun same => new (same ▸ (waits e he).2.1)
  have perm := placeEntry_perm s.queue ⟨ch, s.ret.channels[ch].queueClass, s.sw[ch].target⟩
  rw [← placeEntry_eq]
  refine ⟨(perm.map (·.chan)).nodup_iff.mpr (List.nodup_cons.mpr ⟨fun mem => ?_, once⟩), fun e he => ?_⟩
  · obtain ⟨e, he, same⟩ := List.mem_map.mp mem
    exact other he same
  · rw [State.moved_sw]
    obtain rfl | he := List.mem_cons.mp (perm.mem_iff.mp he)
    · rw [if_pos rfl]
      exact ⟨some, rfl, undriven⟩
    · rw [if_neg (other he)]
      exact waits e he

/-- What the eligibility tests of one undriven channel leave, as an event of their own. -/
theorem sequencerEvent_takesTests {f : State → State} (change : f s = s.testEligible ch) (undriven : s.sw[ch].applied = 0) :
    TakesTests s ch (sequencerEvent f s) := by
  obtain ⟨allOff, dwell, group, queued⟩ := s.testEligible_eq ch
  have enters (off : s.allOff = false) (minOff : s.minOffOver ch) (free : ¬s.busyFor ch) : f s = s.entered ch :=
    change.trans (queued off minOff free)
  refine ⟨fun off => sequencerEvent_moved (change.trans (allOff off)),
    fun off minOff => sequencerEvent_moved (change.trans (dwell off minOff)),
    fun off minOff busy => sequencerEvent_moved (change.trans (group off minOff busy)),
    fun off minOff free wait => ?_, fun off minOff free due empty some => ?_,
    fun off minOff free due _ waiting some new => ?_⟩
  · have entered := enters off minOff free
    rw [sequencerEvent_wait (by rw [entered, State.entered_staggerOver]; exact wait)
      (by rw [entered]; exact s.entered_driven ch), entered]
    rfl
  · have fresh : ch ∉ s.queue.map (·.chan) := by rw [empty]; exact List.not_mem_nil
    have only : (s.entered ch).queue = [⟨ch, s.ret.channels[ch].queueClass, s.sw[ch].target⟩] := by
      rw [State.entered_queue, empty]
      unfold placeEntry
      split <;> rfl
    have left : { s.entered ch with queue := [] } = s.moved ch .queued := by
      have queue : (s.moved ch .queued).queue = [] := by rw [State.moved_frame]; exact empty
      rw [State.entered, State.moved_queue, ← queue]
    have state : (s.moved ch .queued).sw[ch].state = .queued := by rw [State.moved_sw, if_pos rfl]
    have level : (s.moved ch .queued).sw[ch].applied = 0 := (s.moved_driven ch .queued ch).mpr undriven
    have changes (t : State) : levelChanges (s.entered ch) t = levelChanges { s.entered ch with queue := [] } t := rfl
    rw [sequencerEvent_entered (enters off minOff free) fresh, State.staggerExpiry_eq,
      State.admitDue_only only ((s.entered_staggerOver ch).mpr due), changes, left]
    refine (State.admitEntry_reported (s := s.moved ch .queued) ?_ level some).trans State.admitted_moved
    rw [state]
    nofun
  · have fresh : ch ∉ s.queue.map (·.chan) := fun mem => by
      obtain ⟨e, he, same⟩ := List.mem_map.mp mem
      exact new (same ▸ (waiting.2 e he).2.1)
    have entered : s.entered ch = { { s with queue := [] }.moved ch .queued with
        queue := queueWith s.queue ⟨ch, s.ret.channels[ch].queueClass, s.sw[ch].target⟩ } := by
      rw [State.entered, State.moved_queue, State.moved_queue ch .queued [] s]
    have empty : ({ s with queue := [] }.moved ch .queued).queue = [] := by rw [State.moved_frame]
    rw [sequencerEvent_entered (enters off minOff free) fresh, entered]
    exact State.staggerExpiry_admitsHead empty ((State.moved_staggerOver ..).mpr due) (waiting.entered undriven some new)

end Tests

end Sys2Proof.Machine
end

section
/-! HAND_OFF of one channel (R100 to R103, R107 to R109, R112 to R116): the channel acted on by its switching state. -/

namespace Sys2Proof.Machine

section OneChannel

variable {s : State} {ch : Chan} {l : Level} {rest : List (List (Chan × Level))}

/-- The part as a hand-off of one channel is acted on: the hand-off taken and the target recorded (R100). -/
def State.handed (s : State) (ch : Chan) (l : Level) (rest : List (List (Chan × Level))) : State :=
  { s with sw := s.sw.set ch { s.sw[ch] with target := l }, mail := { s.mail with handOffs := rest } }

theorem State.handed_sw (s : State) (ch : Chan) (l : Level) (rest : List (List (Chan × Level))) :
    (s.handed ch l rest).sw[ch] = { s.sw[ch] with target := l } := set_getElem_self ..

theorem State.handed_kept (s : State) (ch : Chan) (l : Level) (rest : List (List (Chan × Level))) (c : Chan) :
    (s.handed ch l rest).sw[c].state = s.sw[c].state ∧ (s.handed ch l rest).sw[c].applied = s.sw[c].applied := by
  have record : (s.handed ch l rest).sw[c] = if c = ch then { s.sw[ch] with target := l } else s.sw[c] := set_getElem ..
  rw [record]
  split
  · rename_i here
    subst here
    exact ⟨rfl, rfl⟩
  · exact ⟨rfl, rfl⟩

theorem exec_handOff_one (running : s.sup.state = .running) (handed : s.mail.handOffs = [(ch, l)] :: rest) :
    exec .handOff s = .next (sequencerEvent (fun u => if l = 0 then u.targetZero ch else u.targetNonZero ch l)
      (s.handed ch l rest)) := by
  refine next_whileRunning running ?_
  unfold State.takeOldestHandOff
  rw [handed]
  refine sequencerEvent_shift ?_ rfl rfl fun c => by rw [(s.handed_kept ch l rest c).2]
  let v := s.handed ch l rest
  have passes : (({ s with mail := { s.mail with handOffs := rest } }.recordTargets [(ch, l)]).passZero [(ch, l)]).passNonZero
      [(ch, l)] = if l = 0 then (if l = 0 then v.targetZero ch else v)
        else (if l = 0 then v.targetZero ch else v).targetNonZero ch l := rfl
  dsimp only
  rw [passes]
  split <;> rfl

theorem exec_handOff_zero (running : s.sup.state = .running) (handed : s.mail.handOffs = [(ch, 0)] :: rest) :
    exec .handOff s = .next (sequencerEvent (State.targetZero ch) (s.handed ch 0 rest)) :=
  (exec_handOff_one running handed).trans (congrArg _ (sequencerEvent_congr (if_pos rfl)))

theorem exec_handOff_nonZero (running : s.sup.state = .running) (handed : s.mail.handOffs = [(ch, l)] :: rest)
    (some : l ≠ 0) : exec .handOff s = .next (sequencerEvent (State.targetNonZero ch l) (s.handed ch l rest)) :=
  (exec_handOff_one running handed).trans (congrArg _ (sequencerEvent_congr (if_neg some)))

end OneChannel

/-! ### A target of 0 (R101, R102, R108) -/

section Zero

variable {u : State} {ch : Chan}

theorem State.dequeue_off (queued : u.sw[ch].state = .queued) :
    u.targetZero ch = { u with queue := u.queue.filter fun e => decide (e.chan ≠ ch) }.moved ch .off := by
  rw [State.targetZero, queued]
  rfl

/-- A queue left by a channel that is not at its head has the same head. -/
theorem head_filter_of_ne {q : List QueueEntry} (behind : q.head?.map (·.chan) ≠ some ch) :
    (q.filter fun e => decide (e.chan ≠ ch)).head?.map (·.chan) = q.head?.map (·.chan) := by
  cases q with
  | nil => rfl
  | cons e q =>
    have other : e.chan ≠ ch := fun same => behind (congrArg some same)
    have keeps : ((e :: q).filter fun e => decide (e.chan ≠ ch)) = e :: q.filter fun e => decide (e.chan ≠ ch) :=
      List.filter_cons_of_pos (decide_eq_true other)
    rw [keeps]
    rfl

/-- A queue left by the channel at its head has another head, or none. -/
theorem head_filter_ne (q : List QueueEntry) : (q.filter fun e => decide (e.chan ≠ ch)).head?.map (·.chan) ≠ some ch := by
  intro same
  obtain ⟨e, head, chan⟩ := Option.map_eq_some_iff.mp same
  exact of_decide_eq_true (List.mem_filter.mp (List.mem_of_head? head)).2 chan

/-- An entry that leaves from behind the head, or before the stagger timer has elapsed, brings no admission (R108, R109). -/
theorem sequencerEvent_leaves (queued : u.sw[ch].state = .queued)
    (waits : u.queue.head?.map (·.chan) = some ch → ¬u.staggerOver) :
    sequencerEvent (State.targetZero ch) u =
      { u with queue := u.queue.filter fun e => decide (e.chan ≠ ch) }.moved ch .off := by
  have change := State.dequeue_off queued
  have driven (c : Chan) : (u.targetZero ch).sw[c].applied = 0 ↔ u.sw[c].applied = 0 := by
    rw [change]
    exact State.moved_driven ..
  have queue : (u.targetZero ch).queue = u.queue.filter fun e => decide (e.chan ≠ ch) := by
    rw [change, State.moved_frame]
  rw [← change]
  by_cases head : u.queue.head?.map (·.chan) = some ch
  · refine sequencerEvent_wait ?_ driven
    rw [change, State.moved_staggerOver]
    exact waits head
  · have untested : admissionTested u (u.targetZero ch) = false := by
      unfold admissionTested State.head
      rw [queue, head_filter_of_ne head, decide_eq_false (not_not.mpr rfl), Bool.false_or, List.any_eq_false]
      intro e he
      rw [Bool.not_eq_true, List.all_eq_false]
      exact ⟨e, (List.mem_filter.mp he).1, by simp⟩
    simp only [sequencerEvent, untested, Bool.false_eq_true, if_false, levelChanges_zero driven]
    rfl

/-- The head leaves a queue whose stagger timer has elapsed: the new head is admitted (R108, R109). -/
theorem sequencerEvent_headLeaves (queued : u.sw[ch].state = .queued) (head : u.queue.head?.map (·.chan) = some ch)
    (due : u.staggerOver) (waiting : u.Waiting u.queue) :
    AdmitsHead ({ u with queue := [] }.moved ch .off) (u.queue.filter fun e => decide (e.chan ≠ ch))
      (sequencerEvent (State.targetZero ch) u) := by
  have change := State.dequeue_off queued
  have left : u.targetZero ch = { { u with queue := [] }.moved ch .off with
      queue := u.queue.filter fun e => decide (e.chan ≠ ch) } := by
    rw [change, State.moved_queue, State.moved_queue ch .off [] u]
  have queue : (u.targetZero ch).queue = u.queue.filter fun e => decide (e.chan ≠ ch) := by rw [left]
  have tested : admissionTested u (u.targetZero ch) = true := by
    refine admissionTested_of_head ?_
    rw [State.head, State.head, queue, head]
    exact head_filter_ne u.queue
  have waits : ({ u with queue := [] }.moved ch .off).Waiting (u.queue.filter fun e => decide (e.chan ≠ ch)) := by
    refine ⟨waiting.1.sublist (List.filter_sublist.map _), fun e he => ?_⟩
    obtain ⟨mem, other⟩ := List.mem_filter.mp he
    rw [State.moved_sw, if_neg (of_decide_eq_true other)]
    exact waiting.2 e mem
  have ret : (u.targetZero ch).ret.channels = u.ret.channels := by rw [change, State.moved_frame]
  have driven (c : Chan) : (u.targetZero ch).sw[c].applied = 0 ↔ u.sw[c].applied = 0 := by
    rw [change]
    exact State.moved_driven ..
  rw [sequencerEvent_tested tested ret driven, left]
  exact State.staggerExpiry_admitsHead (by rw [State.moved_frame]) ((State.moved_staggerOver ..).mpr due) waits

/-- A driven channel whose min-on dwell runs waits for its end (R102). -/
theorem sequencerEvent_ending (on : u.sw[ch].state = .on) (runs : ¬u.minOnOver ch) :
    sequencerEvent (State.targetZero ch) u =
      State.moved { u with sw := u.sw.set ch { u.sw[ch] with ramping := false } } ch .ending := by
  have change : u.targetZero ch = (u.stopRamp ch).goTo ch .ending := by
    rw [State.targetZero, on]
    exact if_neg fun due => runs ((u.minOnElapsed_iff ch).mp due)
  have act := State.setSw_goTo_act (s := u) (ch := ch) (w := { u.sw[ch] with ramping := false }) rfl .ending
  exact (sequencerEvent_act (change.trans act) rfl Iff.rfl).trans act.symm

/-- The end of the drive of a channel that ramps begins its fade (R102, R111). -/
theorem sequencerEvent_fades {f : State → State} (change : f u = u.endDrive ch)
    (ramps : u.ret.channels[ch].kind = .dimmed ∧ u.ret.channels[ch].ramp ≠ 0) : sequencerEvent f u =
      State.moved { u with sw := u.sw.set ch { u.sw[ch] with rampStamp := u.runCount, ramping := false } } ch .fading := by
  have ends : u.endDrive ch = (u.beginRampStep ch false).goTo ch .fading := if_pos (decide_eq_true ramps)
  have act := State.setSw_goTo_act (s := u) (ch := ch)
    (w := { u.sw[ch] with rampStamp := u.runCount, ramping := false }) rfl .fading
  exact (sequencerEvent_act ((change.trans ends).trans act) rfl Iff.rfl).trans act.symm

/-- The end of the drive of any other channel is its drop to OFF (R102, R111). -/
theorem sequencerEvent_switchesOff {f : State → State} (change : f u = u.endDrive ch)
    (steady : ¬(u.ret.channels[ch].kind = .dimmed ∧ u.ret.channels[ch].ramp ≠ 0)) (driven : u.sw[ch].applied ≠ 0)
    (moves : u.sw[ch].state ≠ .off) : sequencerEvent f u = u.dropped ch .off := by
  have ends : u.endDrive ch = (u.drop ch).goTo ch .off := if_neg fun ramps => steady (of_decide_eq_true ramps)
  exact sequencerEvent_dropped (change.trans ends) moves driven

end Zero

/-! ### A target that is not 0 (R101, R102) -/

section NonZero

variable {u : State} {ch : Chan} {l : Level}

theorem headed_applied_ne_zero {r : ChanRec} {now : RunCount} {w : Switching} (driven : w.applied ≠ 0) (some : l ≠ 0) :
    (headed r now w l).applied ≠ 0 := by
  unfold headed
  split_ifs <;> assumption

theorem sequencerEvent_relevels (queued : u.sw[ch].state = .queued) : sequencerEvent (State.targetNonZero ch l) u =
    { u with queue := u.queue.map fun e => if e.chan = ch then { e with level := l } else e } := by
  have change : u.targetNonZero ch l = u.relevel ch l := by rw [State.targetNonZero, queued]
  refine (sequencerEvent_quiet ?_ fun c => ?_).trans change
  · rw [change, State.relevel, List.map_map]
    refine List.map_congr_left fun e _ => ?_
    rw [Function.comp_apply]
    split <;> rfl
  · rw [change]
    rfl

theorem sequencerEvent_heads (on : u.sw[ch].state = .on) (driven : u.sw[ch].applied ≠ 0) (some : l ≠ 0) :
    sequencerEvent (State.targetNonZero ch l) u =
      { u with sw := u.sw.set ch (headed u.ret.channels[ch] u.runCount u.sw[ch] l) } := by
  have change : u.targetNonZero ch l = { u with sw := u.sw.set ch (headed u.ret.channels[ch] u.runCount u.sw[ch] l) } := by
    rw [State.targetNonZero, on]
    exact u.headFor_setSw ch l
  exact sequencerEvent_unreported change driven (headed_applied_ne_zero driven some)

/-- A channel whose drive was ending is ON again, and heads for its new level (R102). -/
theorem sequencerEvent_returns (ends : u.sw[ch].state = .ending ∨ u.sw[ch].state = .fading) (driven : u.sw[ch].applied ≠ 0)
    (some : l ≠ 0) : sequencerEvent (State.targetNonZero ch l) u =
      State.moved { u with sw := u.sw.set ch (headed u.ret.channels[ch] u.runCount u.sw[ch] l) } ch .on := by
  have act := State.setSw_goTo_act (s := u) (ch := ch) (w := headed u.ret.channels[ch] u.runCount u.sw[ch] l)
    (headed_state ..) .on
  have raised : u.raiseAct ch l = { u.stillAct ch with
      sw := { headed u.ret.channels[ch] u.runCount u.sw[ch] l with state := .on } } := by
    unfold State.raiseAct
    obtain state | state := ends <;> rw [state] <;> rfl
  have drives : (headed u.ret.channels[ch] u.runCount u.sw[ch] l).applied ≠ 0 := headed_applied_ne_zero driven some
  have change := u.targetNonZero_act ch l
  rw [raised] at change
  exact (sequencerEvent_act change rfl (iff_of_false drives driven)).trans act.symm

end NonZero

/-- Settles O41, by the target and the switching state. -/
theorem aHandOffActsByState : Obligations.AHandOffActsByState := by
  intro s ch l rest running handed driven w u r ramps
  have record : u.sw[ch] = w := s.handed_sw ch l rest
  have state : u.sw[ch].state = s.sw[ch].state := by rw [record]
  have replaced (x : Switching) : u.sw.set ch x = s.sw.set ch x := Vector.set_set ..
  have minOn : u.minOnOver ch ↔ s.minOnOver ch := by
    rw [State.minOnOver, record]
    exact Iff.rfl
  have applied {st : SwState} (at_ : s.sw[ch].state = st) (drives : st.driven = true) : u.sw[ch].applied ≠ 0 := by
    rw [record]
    exact driven.mpr (at_ ▸ drives)
  by_cases zero : l = 0
  · subst zero
    have taken : exec .handOff s = .next (sequencerEvent (State.targetZero ch) u) := exec_handOff_zero running handed
    have ends (on : s.sw[ch].state = .on) (due : s.minOnOver ch) : u.targetZero ch = u.endDrive ch := by
      rw [State.targetZero, state, on]
      exact if_pos ((u.minOnElapsed_iff ch).mpr (minOn.mpr due))
    refine ⟨_, taken, fun _ => ⟨fun rests => ?_, fun ⟨reason, held⟩ => ?_, fun queued => ⟨?_, fun head due waiting => ?_⟩,
      fun on => ⟨fun runs => ?_, fun due fades => ?_, fun due steady => ?_⟩⟩, fun some => absurd rfl some, fun rests => ?_⟩
    · refine sequencerEvent_still _ ?_
      rw [State.targetZero, state]
      obtain h | h | h := rests <;> rw [h]
    · refine sequencerEvent_moved ?_
      rw [State.targetZero, state, held]
      rfl
    · exact sequencerEvent_leaves (state.trans queued)
    · refine sequencerEvent_headLeaves (state.trans queued) head due ⟨waiting.1, fun e he => ?_⟩
      obtain ⟨some, waits, undriven⟩ := waiting.2 e he
      have kept := s.handed_kept ch 0 rest e.chan
      exact ⟨some, kept.1.trans waits, kept.2.trans undriven⟩
    · rw [sequencerEvent_ending (state.trans on) (minOn.not.mpr runs), record, replaced]
    · rw [sequencerEvent_fades (ends on due) fades, record, replaced]
    · exact sequencerEvent_switchesOff (ends on due) steady (applied on rfl) (by rw [state, on]; nofun)
    · refine sequencerEvent_still _ ?_
      rw [State.targetZero, state]
      obtain h | h := rests <;> rw [h]
  · have taken : exec .handOff s = .next (sequencerEvent (State.targetNonZero ch l) u) :=
      exec_handOff_nonZero running handed zero
    refine ⟨_, taken, fun none => absurd none zero, fun some => ⟨fun off => ?_, fun ⟨reason, held⟩ => ?_, fun queued => ?_,
      fun on => ?_, fun ends => ?_⟩, fun rests => ?_⟩
    · refine sequencerEvent_takesTests ?_ ?_
      · rw [State.targetNonZero, state, off]
      · rw [record]
        by_contra level
        have on := driven.mp level
        rw [off] at on
        cases on
    · refine sequencerEvent_still _ ?_
      rw [State.targetNonZero, state, held]
    · exact sequencerEvent_relevels (state.trans queued)
    · rw [sequencerEvent_heads (state.trans on) (applied on rfl) some, record, replaced]
    · have level : u.sw[ch].applied ≠ 0 := by
        obtain h | h := ends
        · exact applied h rfl
        · exact applied h rfl
      have same : { headed r s.runCount w l with state := s.sw[ch].state } = headed r s.runCount w l := by
        rw [← show (headed r s.runCount w l).state = s.sw[ch].state from headed_state ..]
      rw [sequencerEvent_returns (by rwa [state]) level some, record, replaced, same]
    · refine sequencerEvent_still _ ?_
      rw [State.targetNonZero, state]
      obtain h | h := rests <;> rw [h]

end Sys2Proof.Machine
end

section
/-! What an event of the sequencer leaves of the Switching Queue, and what it announces (R106 to R109, R115, R116). -/

namespace Sys2Proof.Machine

/-! ### The event's admissions -/

/-- An event told by its change and the entries it then admits from the head of the queue (R108, R109). -/
structure EventAdmits (f : State → State) (s : State) (gone rest : List QueueEntry) : Prop where
  queue : (f s).queue = gone ++ rest
  event : sequencerEvent f s = ({ f s with queue := rest }.admitEach gone).postLevels
    (levelChanges s ({ f s with queue := rest }.admitEach gone))
  none : ¬(admissionTested s (f s) = true ∧ (f s).staggerOver) → gone = []
  one : admissionTested s (f s) = true → (f s).staggerOver → (f s).ret.stagger ≠ 0 →
    gone.length = min 1 (f s).queue.length
  all : admissionTested s (f s) = true → (f s).ret.stagger = 0 → rest = []

theorem sequencerEvent_admits (f : State → State) (s : State) : ∃ gone rest, EventAdmits f s gone rest := by
  cases tested : admissionTested s (f s) with
  | true =>
    obtain ⟨gone, rest, queue, admits, waits, one, all⟩ := (f s).admitDue_tested
    refine ⟨gone, rest, queue, ?_, fun wait => waits fun due => wait ⟨tested, due⟩, fun _ => one, fun _ => all⟩
    simp only [sequencerEvent, tested, if_true, admits]
  | false =>
    refine ⟨[], (f s).queue, rfl, ?_, fun _ => rfl, fun yes => ?_, fun yes => ?_⟩
    · simp only [sequencerEvent, tested, Bool.false_eq_true, if_false]
      rfl
    · rw [tested] at yes
      cases yes
    · rw [tested] at yes
      cases yes

section Admitted

variable {f : State → State} {s : State} {gone rest : List QueueEntry} (event : EventAdmits f s gone rest)
include event

theorem EventAdmits.sw : (sequencerEvent f s).sw = ({ f s with queue := rest }.admitEach gone).sw := by
  rw [event.event, State.postLevels_eq]

theorem EventAdmits.faults : (sequencerEvent f s).faults = ({ f s with queue := rest }.admitEach gone).faults := by
  rw [event.event, State.postLevels_eq]

theorem EventAdmits.left : (sequencerEvent f s).queue = rest := by
  rw [event.event, State.postLevels_eq]
  exact State.admitEach_queue ..

/-- An event's admissions and its report touch the sequencer's tables, the CHANNEL flags and the reports alone. -/
theorem EventAdmits.frame : sequencerEvent f s = { f s with
    sw := (sequencerEvent f s).sw
    faults := (sequencerEvent f s).faults
    queue := (sequencerEvent f s).queue
    lastAdm := (sequencerEvent f s).lastAdm
    staggerPast := (sequencerEvent f s).staggerPast
    att := { (f s).att with channel := (sequencerEvent f s).att.channel }
    mail := { (f s).mail with levelReports := (sequencerEvent f s).mail.levelReports } } := by
  rw [event.event, State.postLevels_eq, State.admitEach_frame]

/-- A channel whose entry is not admitted is as the change left it. -/
theorem EventAdmits.still {ch : Chan} (apart : ch ∉ gone.map (·.chan)) :
    (sequencerEvent f s).sw[ch] = (f s).sw[ch] ∧ (sequencerEvent f s).faults[ch] = (f s).faults[ch] := by
  rw [event.sw, event.faults]
  exact State.admitEach_still apart

/-- An admitted channel is ON. -/
theorem EventAdmits.on {ch : Chan} (admitted : ch ∈ gone.map (·.chan)) :
    (sequencerEvent f s).sw[ch].state = .on ∧ (sequencerEvent f s).sw[ch].admStamp = (f s).runCount := by
  rw [event.sw]
  exact State.admitEach_on admitted

/-- A channel of the queue is as the change left it, or admitted. -/
theorem EventAdmits.keeps_or_on (ch : Chan) : (sequencerEvent f s).sw[ch] = (f s).sw[ch] ∨
    (sequencerEvent f s).sw[ch].state = .on ∧ (sequencerEvent f s).sw[ch].admStamp = (f s).runCount := by
  by_cases admitted : ch ∈ gone.map (·.chan)
  · exact .inr (event.on admitted)
  · exact .inl (event.still admitted).1

/-- A channel that does not wait after the change is as it left it. -/
theorem EventAdmits.still_of_unqueued {ch : Chan} (apart : ch ∉ (f s).queue.map (·.chan)) :
    (sequencerEvent f s).sw[ch] = (f s).sw[ch] ∧ (sequencerEvent f s).faults[ch] = (f s).faults[ch] := by
  refine event.still fun admitted => apart ?_
  rw [event.queue, List.map_append]
  exact List.mem_append_left _ admitted

theorem EventAdmits.gone_once (once : ((f s).queue.map (·.chan)).Nodup) : (gone.map (·.chan)).Nodup := by
  rw [event.queue, List.map_append] at once
  exact once.of_append_left

/-- The clean-run timers that the admissions start (R131). -/
theorem EventAdmits.faults_getElem (once : ((f s).queue.map (·.chan)).Nodup) (ch : Chan) :
    (sequencerEvent f s).faults[ch] =
      if ch ∈ gone.map (·.chan) then { (f s).faults[ch] with cleanRunning := true } else (f s).faults[ch] := by
  split
  · rename_i admitted
    obtain ⟨e, he, rfl⟩ := List.mem_map.mp admitted
    rw [event.faults, (State.admitEach_admitted (event.gone_once once) he).2]
  · rename_i apart
    exact (event.still apart).2

/-- An admitted channel waited after the change. -/
theorem EventAdmits.waited {ch : Chan} (admitted : ch ∈ gone.map (·.chan)) : ch ∈ (f s).queue.map (·.chan) := by
  rw [event.queue, List.map_append]
  exact List.mem_append_left _ admitted

/-- The flags and the report of an event whose change raises the flags of the channels it moves, and has none of the channels
that it admits come from ON (R115, R116). -/
theorem EventAdmits.announces
    (flags : ∀ ch : Chan, (f s).att.channel.getLsbD ch.val =
      (s.att.channel.getLsbD ch.val || decide ((f s).sw[ch].state ≠ s.sw[ch].state)))
    (off : ∀ e ∈ gone, s.sw[e.chan].state ≠ .on) (reports : (f s).mail.levelReports = s.mail.levelReports) :
    Announces s (sequencerEvent f s) := by
  refine ⟨fun ch => ?_, ?_⟩
  · have admitted := State.admitEach_flags (es := gone) (s := { f s with queue := rest }) ch
    have flag : (sequencerEvent f s).att.channel = ({ f s with queue := rest }.admitEach gone).att.channel := by
      rw [event.event, State.postLevels_eq]
    rw [← event.sw, ← flag] at admitted
    refine admitted.trans ?_
    change ((f s).att.channel.getLsbD ch.val || decide ((sequencerEvent f s).sw[ch].state ≠ (f s).sw[ch].state)) = _
    rw [flags, Bool.or_assoc]
    congr 1
    by_cases moves : ch ∈ gone.map (·.chan)
    · obtain ⟨e, he, rfl⟩ := List.mem_map.mp moves
      have come := off e he
      rw [(event.on moves).1]
      by_cases same : (f s).sw[e.chan].state = s.sw[e.chan].state
      · rw [same]
        simp
      · simp [-Fin.getElem_fin, same, come.symm]
    · rw [(event.still moves).1]
      simp
  · have report : (sequencerEvent f s).mail.levelReports = (f s).mail.levelReports ++
        asRequest (levelChanges s ({ f s with queue := rest }.admitEach gone)) := by
      rw [event.event, State.postLevels_eq, State.admitEach_mail]
    rw [report, reports, event.sw]
    rfl

end Admitted

/-! ### The order of the queue -/

/-- What a change leaves of the Switching Queue, `kept` standing of the queue before it and `new` having entered one after another
in ascending order (R106, R107). -/
structure Requeues (s : State) (kept new : List QueueEntry) (v : State) : Prop where
  queue : v.queue = new.foldl placeEntry kept
  once : (v.queue.map (·.chan)).Nodup
  classes : kept.Pairwise fun a b => a.queueClass = .normal → b.queueClass = .normal
  stood : ∀ e ∈ kept, e.chan ∈ s.queue.map (·.chan)
  fresh : ∀ e ∈ new, e.chan ∉ s.queue.map (·.chan)
  ascending : (new.map (·.chan)).Pairwise (· < ·)
  classed : ∀ e ∈ new, e.queueClass = s.ret.channels[e.chan].queueClass
  record : ∀ e ∈ v.queue, v.sw[e.chan] = { s.sw[e.chan] with state := .queued, target := e.level }
  ret : v.ret = s.ret
  runCount : v.runCount = s.runCount
  lastAdm : v.lastAdm = s.lastAdm
  staggerPast : v.staggerPast = s.staggerPast

/-- A queue with its FIRST entries ahead is its two classes. -/
theorem ofClass_append {q : List QueueEntry} (classes : q.Pairwise fun a b => a.queueClass = .normal → b.queueClass = .normal) :
    ofClass .first q ++ ofClass .normal q = q := by
  induction q with
  | nil => rfl
  | cons e q ih =>
    obtain ⟨ahead, classes⟩ := List.pairwise_cons.mp classes
    cases cls : e.queueClass with
    | first =>
      have first : ofClass .first (e :: q) = e :: ofClass .first q := List.filter_cons_of_pos (decide_eq_true cls)
      have normal : ofClass .normal (e :: q) = ofClass .normal q := List.filter_cons_of_neg (by simp [cls])
      rw [first, normal, List.cons_append, ih classes]
    | normal =>
      have behind (x : QueueEntry) (hx : x ∈ e :: q) : x.queueClass = .normal := by
        obtain rfl | later := List.mem_cons.mp hx
        · exact cls
        · exact ahead x later cls
      have first : ofClass .first (e :: q) = [] := List.filter_eq_nil_iff.mpr fun x hx => by simp [behind x hx]
      have normal : ofClass .normal (e :: q) = e :: q := List.filter_eq_self.mpr fun x hx => decide_eq_true (behind x hx)
      rw [first, normal, List.nil_append]

/-- Entries placed one after another stand in the queue with those before. -/
theorem foldl_placeEntry_perm (new q : List QueueEntry) : (new.foldl placeEntry q).Perm (q ++ new) := by
  induction new generalizing q with
  | nil => rw [List.append_nil]; rfl
  | cons e new ih =>
    calc (new.foldl placeEntry (placeEntry q e)).Perm (placeEntry q e ++ new) := ih _
      _ |>.Perm (e :: q ++ new) := (placeEntry_perm q e).append_right new
      _ |>.Perm (q ++ e :: new) := List.perm_middle.symm

section Requeued

variable {s v : State} {kept new : List QueueEntry} (requeues : Requeues s kept new v)
include requeues

theorem Requeues.order :
    v.queue = ofClass .first kept ++ ofClass .first new ++ ofClass .normal kept ++ ofClass .normal new := by
  have classed (c : QueueClass) (e : QueueEntry) (he : e ∈ ofClass c kept) : e.queueClass = c :=
    of_decide_eq_true (List.mem_filter.mp he).2
  rw [requeues.queue, ← ofClass_append requeues.classes, foldl_placeEntry new (classed .first) (classed .normal),
    ofClass_append requeues.classes]
  simp only [List.append_assoc]

theorem Requeues.mem_queue (e : QueueEntry) : e ∈ v.queue ↔ e ∈ kept ∨ e ∈ new := by
  rw [requeues.queue, (foldl_placeEntry_perm new kept).mem_iff, List.mem_append]

/-- The head is tested where a channel enters or the head is another (R107 to R109). -/
theorem Requeues.tested_iff : admissionTested s v = true ↔
    new ≠ [] ∨ v.queue.head?.map (·.chan) ≠ s.queue.head?.map (·.chan) := by
  rw [admissionTested, Bool.or_eq_true, decide_eq_true_iff, or_comm, State.head, State.head]
  refine or_congr ?_ Iff.rfl
  rw [List.any_eq_true]
  constructor
  · rintro ⟨e, he, apart⟩ none
    obtain stood | new := (requeues.mem_queue e).mp he
    · obtain ⟨x, hx, same⟩ := List.mem_map.mp (requeues.stood e stood)
      exact of_decide_eq_true (List.all_eq_true.mp apart x hx) same
    · rw [none] at new
      cases new
  · intro some
    obtain ⟨e, he⟩ := List.exists_mem_of_ne_nil new some
    refine ⟨e, (requeues.mem_queue e).mpr (.inr he), List.all_eq_true.mpr fun x hx => decide_eq_true fun same => ?_⟩
    exact requeues.fresh e he (List.mem_map.mpr ⟨x, hx, same⟩)

theorem Requeues.staggerOver : v.staggerOver ↔ s.staggerOver := by
  rw [State.staggerOver, State.staggerOver, requeues.staggerPast, requeues.ret, requeues.runCount, requeues.lastAdm]

omit requeues in
/-- The queue after an event whose change requeues so. -/
theorem Requeues.queueTakes {f : State → State} {enters : Chan → Prop} (requeues : Requeues s kept new (f s))
    (enters_iff : ∀ ch : Chan, ch ∈ new.map (·.chan) ↔ enters ch) : QueueTakes s kept enters (sequencerEvent f s) := by
  obtain ⟨gone, rest, event⟩ := sequencerEvent_admits f s
  have left := event.left
  have whole : gone ++ (sequencerEvent f s).queue = (f s).queue := by rw [left, event.queue]
  have tested := requeues.tested_iff
  have due := requeues.staggerOver
  have goneOnce := event.gone_once requeues.once
  have waits {e : QueueEntry} (he : e ∈ gone ∨ e ∈ rest) : e ∈ (f s).queue := event.queue ▸ List.mem_append.mpr he
  have target (e : QueueEntry) (he : e ∈ (f s).queue) : (sequencerEvent f s).sw[e.chan].target = e.level := by
    by_cases admitted : e.chan ∈ gone.map (·.chan)
    · obtain ⟨x, hx, same⟩ := List.mem_map.mp admitted
      obtain rfl : x = e := List.inj_on_of_nodup_map requeues.once (waits (.inl hx)) he same
      rw [event.sw, (State.admitEach_admitted goneOnce hx).1]
      change (f s).sw[x.chan].target = x.level
      rw [requeues.record x he]
    · rw [(event.still admitted).1, requeues.record e he]
  refine ⟨new, gone, requeues.ascending, enters_iff, fun e he => ⟨requeues.classed e he, ?_⟩, whole.trans requeues.order,
    fun e he => ?_, fun e he => ?_, ?_, ?_, ?_⟩
  · exact (target e ((requeues.mem_queue e).mpr (.inr he))).symm
  · rw [left] at he
    have apart : e.chan ∉ gone.map (·.chan) := fun admitted => by
      have once := requeues.once
      rw [event.queue, List.map_append] at once
      exact List.disjoint_of_nodup_append once admitted (List.mem_map_of_mem he)
    rw [(event.still apart).1, requeues.record e (waits (.inr he))]
  · obtain ⟨sw, faults⟩ := State.admitEach_admitted (s := { f s with queue := rest }) goneOnce he
    rw [event.sw, event.faults, sw, faults]
    refine ⟨rfl, ?_⟩
    change admittedRecord (f s).ret.channels[e.chan] (f s).runCount (f s).sw[e.chan] e.level = _
    rw [requeues.ret, requeues.runCount, requeues.record e (waits (.inl he))]
    rfl
  · rw [event.event, State.postLevels_eq, ← requeues.lastAdm, ← requeues.runCount]
    exact State.admitEach_lastAdm ..
  · rw [event.event, State.postLevels_eq, ← requeues.staggerPast]
    exact State.admitEach_staggerPast ..
  · rw [whole, ← tested, ← due, ← requeues.ret, left]
    exact ⟨event.none, event.one, event.all⟩

end Requeued

end Sys2Proof.Machine
end

section
/-! The channels that wait make the eligibility tests one after another, and then the head is tested (R103, R104, R107, R120). -/

namespace Sys2Proof.Machine

/-! ### The tests as acts -/

/-- What one channel's turn makes of it: the tests where it waits. -/
def State.retestAct (s : State) (test : State → Chan → Bool) (ch : Chan) : Act :=
  if test s ch then s.testAct ch else s.stillAct ch

/-- A test that finds the channels of a scope that are in HOLD for one reason. -/
def TestsHold (test : State → Chan → Bool) (scope : Chan → Prop) (r : HoldReason) (s : State) : Prop :=
  ∀ (u : State) (ch : Chan), u.ret = s.ret → (test u ch = true ↔ scope ch ∧ u.sw[ch].state = .hold r)

section Retest

variable {s : State} {test : State → Chan → Bool}

theorem State.retestAct_applied (s : State) (test : State → Chan → Bool) (ch : Chan) :
    (s.retestAct test ch).sw.applied = s.sw[ch].applied := by
  unfold State.retestAct
  split <;> rfl

theorem State.retestAct_stamps (s : State) (test : State → Chan → Bool) (ch : Chan) :
    (s.retestAct test ch).stamps = false := by
  unfold State.retestAct
  split <;> rfl

theorem State.retestAct_fault (s : State) (test : State → Chan → Bool) (ch : Chan) :
    (s.retestAct test ch).fault = s.faults[ch] := by
  unfold State.retestAct
  split <;> rfl

theorem State.retestAct_sw (s : State) (test : State → Chan → Bool) (ch : Chan) : (s.retestAct test ch).sw =
    if test s ch = true then { s.sw[ch] with state := s.eligibility ch } else s.sw[ch] := by
  unfold State.retestAct
  split <;> rfl

/-- A channel passes the tests and enters the queue (R107). -/
def State.reenters (s : State) (test : State → Chan → Bool) (ch : Chan) : Bool :=
  test s ch && decide (s.eligibility ch = .queued)

theorem State.retestAct_move (s : State) (test : State → Chan → Bool) (ch : Chan) (q : List QueueEntry) :
    (s.retestAct test ch).move.apply ch q = if s.reenters test ch then placeEntry q (s.entryOf ch) else q := by
  unfold State.retestAct State.reenters
  by_cases tested : test s ch = true
  · rw [if_pos tested, tested, Bool.true_and, State.testAct]
    by_cases queued : s.eligibility ch = .queued
    · simp only [queued, if_true, decide_true]
      rfl
    · simp only [queued, if_false, decide_false, Bool.false_eq_true]
      rfl
  · rw [if_neg tested, Bool.eq_false_iff.mpr tested, Bool.false_and]
    rfl

/-- Acts that make no changeover stamp leave the stamps. -/
theorem State.actAll_gapStamps {a : Chan → Act} {chs : List Chan} (s : State) (stamps : ∀ ch ∈ chs, (a ch).stamps = false) :
    (s.actAll a chs).gapStamps = s.gapStamps := by
  induction chs generalizing s with
  | nil => rfl
  | cons ch chs ih =>
    obtain ⟨first, later⟩ := List.forall_mem_cons.mp stamps
    refine (ih (s.act ch (a ch)) later).trans ?_
    simp only [State.act, first, Bool.false_eq_true, if_false]

variable {scope : Chan → Prop} {r : HoldReason} (tests : TestsHold test scope r s)
include tests

/-- The turns one after another: each channel's test sees what stood before the first (R104, R120). -/
theorem State.retest_acts : s.retest test (List.finRange 16) = s.actAll (s.retestAct test) (List.finRange 16) := by
  refine State.foldl_eq_actAll (List.nodup_finRange 16) fun done ch _ fresh _ => ?_
  have record : (s.actAll (s.retestAct test) done).sw[ch] = s.sw[ch] := by rw [State.actAll_sw, if_neg fresh]
  have fault : (s.actAll (s.retestAct test) done).faults[ch] = s.faults[ch] := by rw [State.actAll_faults, if_neg fresh]
  have same : test (s.actAll (s.retestAct test) done) ch = test s ch := by
    rw [Bool.eq_iff_iff, tests _ ch (State.actAll_ret ..), tests s ch rfl, record]
  have eligible := State.eligibility_actAll (s := s) (a := s.retestAct test) (done := done)
    (fun c _ => by rw [State.retestAct_applied]) (fun c _ => s.retestAct_stamps test c) fresh
  have act : (s.actAll (s.retestAct test) done).testAct ch = s.testAct ch :=
    State.testAct_congr (State.actAll_ret ..) record fault eligible
  rw [same]
  unfold State.retestAct at act ⊢
  split
  · rw [State.testEligible_act, act]
  · rename_i other
    have still := State.act_still ch (s.actAll (s.retestAct test) done)
    rw [State.stillAct, record, fault] at still
    exact still.symm

/-- The entries of the channels that pass, in ascending order (R107). -/
def State.reentering (s : State) (test : State → Chan → Bool) : List QueueEntry :=
  ((List.finRange 16).filter (s.reenters test)).map s.entryOf

theorem State.retest_sw (ch : Chan) : (s.retest test (List.finRange 16)).sw[ch] =
    if test s ch = true then { s.sw[ch] with state := s.eligibility ch } else s.sw[ch] := by
  rw [State.retest_acts tests, State.actAll_sw, if_pos (List.mem_finRange ch), State.retestAct_sw]

theorem State.retest_faults (ch : Chan) : (s.retest test (List.finRange 16)).faults[ch] = s.faults[ch] := by
  rw [State.retest_acts tests, State.actAll_faults, State.retestAct_fault, ite_self]

theorem State.retest_queue : (s.retest test (List.finRange 16)).queue = (s.reentering test).foldl placeEntry s.queue := by
  rw [State.retest_acts tests, State.actAll_queue, State.reentering, List.foldl_map, List.foldl_filter]
  simp only [State.retestAct_move]

theorem State.retest_frame : s.retest test (List.finRange 16) = { s with
    sw := (s.retest test (List.finRange 16)).sw
    faults := (s.retest test (List.finRange 16)).faults
    queue := (s.retest test (List.finRange 16)).queue
    att := { s.att with channel := (s.retest test (List.finRange 16)).att.channel } } := by
  have stamps := State.actAll_gapStamps s (chs := List.finRange 16) fun ch _ => s.retestAct_stamps test ch
  have frame := s.actAll_frame (s.retestAct test) (List.finRange 16)
  rw [stamps] at frame
  rw [State.retest_acts tests]
  exact frame

theorem State.retest_flags (ch : Chan) : (s.retest test (List.finRange 16)).att.channel.getLsbD ch.val =
    (s.att.channel.getLsbD ch.val || decide ((s.retest test (List.finRange 16)).sw[ch].state ≠ s.sw[ch].state)) := by
  rw [State.retest_acts tests]
  exact State.actAll_flags ..

end Retest

/-! ### The event -/

section Event

variable {s : State} {test : State → Chan → Bool} {scope : Chan → Prop} {r : HoldReason}

theorem State.mem_reentering {e : QueueEntry} : e ∈ s.reentering test ↔
    (test s e.chan = true ∧ s.eligibility e.chan = .queued) ∧ e = s.entryOf e.chan := by
  rw [State.reentering, List.mem_map]
  constructor
  · rintro ⟨ch, passes, rfl⟩
    have enters := (List.mem_filter.mp passes).2
    rw [State.reenters, Bool.and_eq_true, decide_eq_true_iff] at enters
    exact ⟨enters, rfl⟩
  · rintro ⟨⟨tested, queued⟩, same⟩
    refine ⟨e.chan, List.mem_filter.mpr ⟨List.mem_finRange _, ?_⟩, same.symm⟩
    rw [State.reenters, tested, Bool.true_and, decide_eq_true_iff]
    exact queued

theorem State.mem_reentering_chans {ch : Chan} : ch ∈ (s.reentering test).map (·.chan) ↔
    test s ch = true ∧ s.eligibility ch = .queued := by
  rw [List.mem_map]
  constructor
  · rintro ⟨e, he, rfl⟩
    exact (State.mem_reentering.mp he).1
  · exact fun enters => ⟨s.entryOf ch, State.mem_reentering.mpr ⟨enters, rfl⟩, rfl⟩

theorem State.reentering_ascending (s : State) (test : State → Chan → Bool) :
    ((s.reentering test).map (·.chan)).Pairwise (· < ·) := by
  have chans : (s.reentering test).map (·.chan) = (List.finRange 16).filter (s.reenters test) := by
    rw [State.reentering, List.map_map]
    exact List.map_id _
  rw [chans]
  exact (List.pairwise_lt_finRange 16).filter _

variable (tests : TestsHold test scope r s)
include tests

/-- The channels of the queue after the turns: those before, and those that entered. -/
theorem State.mem_retest_queue {ch : Chan} : ch ∈ (s.retest test (List.finRange 16)).queue.map (·.chan) ↔
    ch ∈ s.queue.map (·.chan) ∨ test s ch = true ∧ s.eligibility ch = .queued := by
  rw [State.retest_queue tests, ((foldl_placeEntry_perm _ s.queue).map (·.chan)).mem_iff, List.map_append, List.mem_append,
    State.mem_reentering_chans]

/-- What the turns leave of a queue that agrees with the switching records. -/
theorem State.SwitchingAgrees.requeues (agree : s.SwitchingAgrees) :
    Requeues s s.queue (s.reentering test) (s.retest test (List.finRange 16)) := by
  have held {ch : Chan} (tested : test s ch = true) : s.sw[ch].state = .hold r := ((tests s ch rfl).mp tested).2
  have frame := State.retest_frame tests
  have fresh (e : QueueEntry) (he : e ∈ s.reentering test) : e.chan ∉ s.queue.map (·.chan) := fun waits => by
    have queued := (agree.queued e.chan).mp waits
    rw [held (State.mem_reentering.mp he).1.1] at queued
    cases queued
  refine ⟨State.retest_queue tests, ?_, agree.classes, fun e he => List.mem_map_of_mem he, fresh,
    s.reentering_ascending test, fun e he => ?_, fun e he => ?_, by rw [frame], by rw [frame], by rw [frame], by rw [frame]⟩
  · rw [State.retest_queue tests, ((foldl_placeEntry_perm _ s.queue).map (·.chan)).nodup_iff, List.map_append]
    refine List.nodup_append.mpr ⟨agree.once, (s.reentering_ascending test).imp Fin.ne_of_lt, fun a ha b hb same => ?_⟩
    obtain ⟨e, he, rfl⟩ := List.mem_map.mp hb
    exact fresh e he (same ▸ ha)
  · rw [(State.mem_reentering.mp he).2]
    rfl
  · rw [State.retest_queue tests, (foldl_placeEntry_perm _ s.queue).mem_iff, List.mem_append] at he
    rw [State.retest_sw tests]
    obtain stood | entered := he
    · have queued := agree.channels.queue.state stood
      have untested : ¬test s e.chan = true := fun tested => by
        rw [held tested] at queued
        cases queued
      rw [if_neg untested, agree.levels e stood, ← queued]
    · obtain ⟨⟨tested, queued⟩, entry⟩ := State.mem_reentering.mp entered
      have level : e.level = s.sw[e.chan].target := congrArg QueueEntry.level entry
      rw [if_pos tested, queued, level]

/-- The event of the turns. -/
theorem sequencerEvent_retestsAll {f : State → State} (change : f s = s.retest test (List.finRange 16))
    (queued : ∀ e ∈ s.queue, s.sw[e.chan].state = .queued) :
    RetestsAll (fun ch => scope ch ∧ s.sw[ch].state = .hold r) s (sequencerEvent f s) := by
  obtain ⟨gone, rest, event⟩ := sequencerEvent_admits f s
  have waits_iff (ch : Chan) : test s ch = true ↔ scope ch ∧ s.sw[ch].state = .hold r := tests s ch rfl
  have record (ch : Chan) : (f s).sw[ch] =
      if test s ch = true then { s.sw[ch] with state := s.eligibility ch } else s.sw[ch] := by
    rw [change, State.retest_sw tests]
  have waiting {ch : Chan} : ch ∈ (f s).queue.map (·.chan) ↔
      ch ∈ s.queue.map (·.chan) ∨ test s ch = true ∧ s.eligibility ch = .queued := by
    rw [change, State.mem_retest_queue tests]
  have apart {ch : Chan} (held : s.sw[ch].state = .hold r) : ch ∉ s.queue.map (·.chan) := fun stood => by
    obtain ⟨e, he, rfl⟩ := List.mem_map.mp stood
    rw [queued e he] at held
    cases held
  have holds {ch : Chan} (waits : scope ch ∧ s.sw[ch].state = .hold r) {reason : HoldReason}
      (goes : s.eligibility ch = .hold reason) : (sequencerEvent f s).sw[ch] = { s.sw[ch] with state := .hold reason } := by
    have out : ch ∉ (f s).queue.map (·.chan) := fun h => by
      obtain stood | ⟨-, entered⟩ := waiting.mp h
      · exact apart waits.2 stood
      · rw [goes] at entered
        cases entered
    rw [(event.still_of_unqueued out).1, record, if_pos ((waits_iff ch).mpr waits), goes]
  have off {ch : Chan} (h : ch ∈ (f s).queue.map (·.chan)) : s.sw[ch].state ≠ .on := by
    obtain stood | ⟨tested, -⟩ := waiting.mp h
    · obtain ⟨e, he, rfl⟩ := List.mem_map.mp stood
      rw [queued e he]
      nofun
    · rw [((waits_iff ch).mp tested).2]
      nofun
  have frame := State.retest_frame tests
  refine ⟨fun ch other out => ?_, fun ch waits off => holds waits ((s.eligibility_cases ch).1 off),
    fun ch waits off minOff => holds waits ((s.eligibility_cases ch).2.1 off minOff),
    fun ch waits off minOff busy => holds waits ((s.eligibility_cases ch).2.2.1 off minOff busy),
    fun ch waits off minOff free => ?_, fun agree => ⟨?_, ?_, fun ch => ?_⟩, ?_⟩
  · have untested : ¬test s ch = true := fun tested => other ((waits_iff ch).mp tested)
    have gone : ch ∉ (f s).queue.map (·.chan) := fun h => by
      obtain stood | ⟨tested, -⟩ := waiting.mp h
      · obtain ⟨e, he, same⟩ := List.mem_map.mp stood
        exact out e he same
      · exact untested tested
    rw [(event.still_of_unqueued gone).1, record, if_neg untested]
  · have passes := (s.eligibility_cases ch).2.2.2 off minOff free
    have kept := event.keeps_or_on ch
    rwa [record, if_pos ((waits_iff ch).mpr waits), passes, change, frame] at kept
  · refine Requeues.queueTakes (change ▸ agree.requeues tests) fun ch => ?_
    rw [State.mem_reentering_chans, waits_iff, State.eligibility_queued_iff]
  · refine event.announces (fun ch => ?_) (fun e he => off (event.waited (List.mem_map_of_mem he))) (by rw [change, frame])
    rw [change]
    exact State.retest_flags tests ch
  · have requeues : Requeues s s.queue (s.reentering test) (f s) := change ▸ agree.requeues tests
    have fault : (f s).faults[ch] = s.faults[ch] := by rw [change, State.retest_faults tests]
    rw [event.faults_getElem requeues.once, fault]
    by_cases admitted : ch ∈ gone.map (·.chan)
    · rw [if_pos admitted, if_pos ⟨(event.on admitted).1, off (event.waited admitted)⟩]
    · rw [if_neg admitted, if_neg]
      rintro ⟨on, come⟩
      rw [(event.still admitted).1, record] at on
      split at on
      · obtain ⟨reason, held⟩ | passes := s.eligibility_waits ch
        · cases held.symm.trans on
        · cases passes.symm.trans on
      · exact come on
  · have whole := event.frame
    rw [change, frame] at whole
    exact whole

end Event

end Sys2Proof.Machine
end

section
/-! The min-on, min-off and changeover waits end at their expiry (R103, R104, R111). -/

namespace Sys2Proof.Machine

/-! ### Turns of which few find a channel waiting -/

section Few

variable {s : State} {test : State → Chan → Bool} {scope : Chan → Prop} {r : HoldReason}

theorem State.actAll_still {a : Chan → Act} {chs : List Chan} (still : ∀ c ∈ chs, a c = s.stillAct c) :
    s.actAll a chs = s := by
  induction chs with
  | nil => rfl
  | cons c chs ih =>
    obtain ⟨first, later⟩ := List.forall_mem_cons.mp still
    have whole : s.actAll a (c :: chs) = (s.act c (a c)).actAll a chs := rfl
    rw [whole, first, State.act_still, ih later]

theorem State.retestAct_still {c : Chan} (untested : ¬test s c = true) : s.retestAct test c = s.stillAct c := if_neg untested

/-- Where no channel waits, nothing happens. -/
theorem State.retest_none (tests : TestsHold test scope r s) (none : ∀ c : Chan, ¬test s c = true) :
    s.retest test (List.finRange 16) = s := by
  rw [State.retest_acts tests]
  exact State.actAll_still fun c _ => State.retestAct_still (none c)

/-- Where one channel waits, it makes the tests. -/
theorem State.retest_only (tests : TestsHold test scope r s) {ch : Chan} (waits : test s ch = true)
    (only : ∀ c : Chan, test s c = true → c = ch) : s.retest test (List.finRange 16) = s.testEligible ch := by
  obtain ⟨before, after, whole⟩ := List.append_of_mem (List.mem_finRange ch)
  have once := List.nodup_finRange 16
  rw [whole, List.nodup_append, List.nodup_cons] at once
  obtain ⟨-, ⟨fresh, -⟩, apart⟩ := once
  have still {c : Chan} (other : c ≠ ch) : s.retestAct test c = s.stillAct c :=
    State.retestAct_still fun tested => other (only c tested)
  have ahead : s.actAll (s.retestAct test) before = s :=
    State.actAll_still fun c hc => still (apart c hc ch List.mem_cons_self)
  have own : s.retestAct test ch = s.testAct ch := if_pos waits
  have behind : (s.act ch (s.testAct ch)).actAll (s.retestAct test) after = s.act ch (s.testAct ch) := by
    refine State.actAll_still fun c hc => ?_
    have other : c ≠ ch := fun same => fresh (same ▸ hc)
    rw [still other, State.stillAct, State.stillAct, State.act_sw, if_neg other, State.act_faults, if_neg other]
  have turns : s.actAll (s.retestAct test) (ch :: after) = (s.act ch (s.retestAct test ch)).actAll (s.retestAct test) after :=
    rfl
  rw [State.retest_acts tests, whole, State.actAll_append, ahead, turns, own, behind, State.testEligible_act]

end Few

/-! ### The changeover gap -/

section Gap

variable {s : State} {g : Group}

/-- The members in HOLD(GROUP) of a group. -/
def waitsForGap (g : Group) (u : State) (ch : Chan) : Bool := u.memberOf ch g && decide (u.sw[ch].state = .hold .group)

theorem waitsForGap_tests (s : State) (g : Group) :
    TestsHold (waitsForGap g) (fun ch => s.ret.channels[ch].group = some g) .group s := by
  intro u ch ret
  rw [waitsForGap, Bool.and_eq_true, decide_eq_true_iff, State.memberOf, decide_eq_true_iff, State.chan, ret]

theorem State.gapElapsed_iff (s : State) (g : Group) : s.gapElapsed g = true ↔ s.gapStamps[g.idx].past = true ∨
    s.ret.gaps[g.idx].toNat ≤ (s.runCount - s.gapStamps[g.idx].stamp).toNat := elapsedOrPast_iff ..

theorem State.endGap_due (due : s.gapElapsed g = true) : s.endGap g = s.retest (waitsForGap g) (List.finRange 16) :=
  if_pos due

end Gap

theorem exec_minOnExpiry {s : State} (running : s.sup.state = .running) (ch : Chan) :
    exec (.minOnExpiry ch) s = .next (sequencerEvent (State.endMinOn ch) s) := next_whileRunning running rfl

theorem exec_minOffExpiry {s : State} (running : s.sup.state = .running) (ch : Chan) :
    exec (.minOffExpiry ch) s = .next (sequencerEvent (State.endMinOff ch) s) := next_whileRunning running rfl

theorem exec_changeoverGapExpiry {s : State} (running : s.sup.state = .running) (g : Group) :
    exec (.changeoverGapExpiry g) s = .next (sequencerEvent (State.endGap g) s) := next_whileRunning running rfl

/-- Settles O44, wait by wait. -/
theorem waitsEndAtTheirExpiry : Obligations.WaitsEndAtTheirExpiry := by
  refine ⟨fun s ch running => ⟨fun ending due driven => ?_, fun undue => ?_⟩,
    fun s ch running undriven => ⟨fun held due => ?_, fun undue => ?_⟩, fun s g running => ?_⟩
  · have ends : s.endMinOn ch = s.endDrive ch := if_pos ⟨ending, (s.minOnElapsed_iff ch).mpr due⟩
    rw [exec_minOnExpiry running]
    refine ⟨fun ramps => ?_, fun steady => ?_⟩
    · rw [sequencerEvent_fades ends ramps]
    · rw [sequencerEvent_switchesOff ends steady driven (by rw [ending]; nofun)]
  · have still : s.endMinOn ch = s := if_neg fun ends => undue ⟨ends.1, (s.minOnElapsed_iff ch).mp ends.2⟩
    rw [exec_minOnExpiry running, sequencerEvent_still _ still]
  · have ends : s.endMinOff ch = s.testEligible ch := if_pos ⟨held, (s.minOffElapsed_iff ch).mpr due⟩
    exact ⟨_, exec_minOffExpiry running ch, sequencerEvent_takesTests ends undriven⟩
  · have still : s.endMinOff ch = s := if_neg fun ends => undue ⟨ends.1, (s.minOffElapsed_iff ch).mp ends.2⟩
    rw [exec_minOffExpiry running, sequencerEvent_still _ still]
  · intro due waits
    have tests := waitsForGap_tests s g
    have waits_iff (ch : Chan) : waitsForGap g s ch = true ↔ waits ch := tests s ch rfl
    have ends (h : due) := State.endGap_due ((s.gapElapsed_iff g).mpr h)
    refine ⟨fun ch h waiting undriven only => ?_, fun h queued => ?_, fun idle => ?_⟩
    · have one := State.retest_only tests ((waits_iff ch).mpr waiting) fun o tested => only o ((waits_iff o).mp tested)
      exact ⟨_, exec_changeoverGapExpiry running g, sequencerEvent_takesTests ((ends h).trans one) undriven⟩
    · exact ⟨_, exec_changeoverGapExpiry running g, sequencerEvent_retestsAll tests (ends h) queued⟩
    · have still : s.endGap g = s := by
        by_cases h : due
        · exact (ends h).trans (State.retest_none tests fun ch tested => idle ⟨h, ch, (waits_iff ch).mp tested⟩)
        · exact if_neg fun elapsed => h ((s.gapElapsed_iff g).mp elapsed)
      rw [exec_changeoverGapExpiry running, sequencerEvent_still _ still]

end Sys2Proof.Machine
end

section
/-! The ALL-OFF condition is entered and released by its two inputs (R118 to R120, R210). -/

namespace Sys2Proof.Machine

/-! ### The entry (R119) -/

section Entry

variable {s : State}

theorem State.forceAct_driven {ch : Chan}
    (driven : s.sw[ch].state = .on ∨ s.sw[ch].state = .ending ∨ s.sw[ch].state = .fading) :
    s.forceAct ch = s.dropAct ch (if s.sw[ch].target = 0 then .off else .hold .allOff) := by
  unfold State.forceAct
  obtain state | state | state := driven <;> rw [state]

theorem State.forceAct_waiting {ch : Chan} (waits : s.sw[ch].state = .queued ∨ ∃ r, s.sw[ch].state = .hold r) :
    s.forceAct ch = s.moveAct ch (.hold .allOff) := by
  unfold State.forceAct
  obtain state | ⟨r, state⟩ := waits <;> rw [state]

theorem State.forceAct_resting {ch : Chan}
    (rests : s.sw[ch].state = .off ∨ s.sw[ch].state = .faulted ∨ s.sw[ch].state = .locked) :
    s.forceAct ch = s.stillAct ch := by
  unfold State.forceAct
  obtain state | state | state := rests <;> rw [state]

theorem State.forceAct_stamps (s : State) (ch : Chan) : (s.forceAct ch).stamps = s.sw[ch].state.driven := by
  unfold State.forceAct
  cases s.sw[ch].state <;> rfl

/-- After the entry no channel is driven. -/
theorem State.enterAllOff_undriven (driven : ∀ ch : Chan, s.sw[ch].applied ≠ 0 ↔ s.sw[ch].state.driven = true) (ch : Chan) :
    s.enterAllOff.sw[ch].applied = 0 := by
  have level := driven ch
  rw [State.enterAllOff_sw]
  unfold State.forceAct
  cases state : s.sw[ch].state with
  | on | ending | fading => rfl
  | off | hold _ | queued | faulted | locked =>
    rw [state] at level
    by_contra some
    cases level.mp some

theorem State.enterAllOff_frame (s : State) : s.enterAllOff = { s with
    sw := s.enterAllOff.sw
    faults := s.enterAllOff.faults
    gapStamps := s.enterAllOff.gapStamps
    queue := []
    att := { s.att with channel := s.enterAllOff.att.channel, allOff := true } } := by
  have frame := s.forcing.actAll_frame s.forceAct (List.finRange 16)
  rw [← State.enterAllOff_acts, State.enterAllOff_queue] at frame
  exact frame

/-- The changeover stamps of the groups a member dropped in (R105). -/
theorem State.enterAllOff_gaps (g : Group) : s.enterAllOff.gapStamps[g.idx] =
    if ∃ ch : Chan, s.ret.channels[ch].group = some g ∧ s.sw[ch].state.driven = true then ⟨s.runCount, false⟩
    else s.gapStamps[g.idx] := by
  have stamps := s.forcing.actAll_gaps s.forceAct (List.finRange 16) g
  rw [← State.enterAllOff_acts] at stamps
  refine stamps.trans (if_congr ?_ rfl rfl)
  simp only [State.forceAct_stamps, List.mem_finRange, true_and]
  exact exists_congr fun ch => and_comm

theorem State.enterAllOff_flags (ch : Chan) : s.enterAllOff.att.channel.getLsbD ch.val =
    (s.att.channel.getLsbD ch.val || decide (s.enterAllOff.sw[ch].state ≠ s.sw[ch].state)) := by
  have flags := s.forcing.actAll_flags s.forceAct (List.finRange 16) ch
  rw [← State.enterAllOff_acts] at flags
  exact flags

/-- The group members that dropped are reported (R115). -/
theorem State.enterAllOff_changes (driven : ∀ ch : Chan, s.sw[ch].applied ≠ 0 ↔ s.sw[ch].state.driven = true) :
    levelChanges s s.enterAllOff =
      chansWhere fun ch => s.ret.channels[ch].group.isSome && decide (s.sw[ch].applied ≠ 0) := by
  refine chanSet_ext fun ch => ?_
  rw [levelChanges, chansWhere_getLsbD, chansWhere_getLsbD, State.enterAllOff_undriven driven ch]
  simp only [State.chan, ne_eq, eq_iff_iff, iff_true]

/-- The event of the entry: the queue is empty after it, so none is admitted. -/
theorem sequencerEvent_enterAllOff (s : State) :
    sequencerEvent State.enterAllOff s = s.enterAllOff.postLevels (levelChanges s s.enterAllOff) := by
  simp only [sequencerEvent, State.admitDue_nil s.enterAllOff_queue, ite_self]

theorem sequencerEvent_enterAllOff_frame (s : State) : sequencerEvent State.enterAllOff s = { s with
    sw := (sequencerEvent State.enterAllOff s).sw
    faults := (sequencerEvent State.enterAllOff s).faults
    gapStamps := (sequencerEvent State.enterAllOff s).gapStamps
    queue := []
    att := { s.att with channel := (sequencerEvent State.enterAllOff s).att.channel, allOff := true }
    mail := { s.mail with levelReports := (sequencerEvent State.enterAllOff s).mail.levelReports } } := by
  have frame := s.enterAllOff_frame
  rw [sequencerEvent_enterAllOff, State.postLevels_eq]
  generalize s.enterAllOff = t at frame ⊢
  rw [frame]

theorem sequencerEvent_entersAllOff (driven : ∀ ch : Chan, s.sw[ch].applied ≠ 0 ↔ s.sw[ch].state.driven = true) :
    EntersAllOff s (sequencerEvent State.enterAllOff s) := by
  have sw := s.enterAllOff_sw
  have faults := s.enterAllOff_faults
  have queue := s.enterAllOff_queue
  have gaps := fun g => s.enterAllOff_gaps (g := g)
  have flags := fun ch => s.enterAllOff_flags (ch := ch)
  have raised : s.enterAllOff.att.allOff = true := by rw [State.enterAllOff_frame]
  have mail : s.enterAllOff.mail = s.mail := by rw [State.enterAllOff_frame]
  rw [sequencerEvent_enterAllOff, State.enterAllOff_changes driven, State.postLevels_eq]
  generalize s.enterAllOff = t at *
  refine ⟨fun ch drives => ⟨?_, ?_⟩, fun ch waits => ⟨?_, ?_⟩, fun ch rests => ⟨?_, ?_⟩, queue, gaps, flags, raised, ?_⟩
  · exact (sw ch).trans (congrArg Act.sw (State.forceAct_driven drives))
  · exact (faults ch).trans (congrArg Act.fault (State.forceAct_driven drives))
  · exact (sw ch).trans (congrArg Act.sw (State.forceAct_waiting waits))
  · exact (faults ch).trans (congrArg Act.fault (State.forceAct_waiting waits))
  · exact (sw ch).trans (congrArg Act.sw (State.forceAct_resting rests))
  · exact (faults ch).trans (congrArg Act.fault (State.forceAct_resting rests))
  · rw [mail]

end Entry

/-! ### The inputs (R118) -/

section Inputs

variable {s : State} {f : State → State}

/-- An input that leaves the condition as it was changes the input alone. -/
theorem State.allOffInput_still (same : s.allOff = (f s).allOff) (queue : (f s).queue = s.queue) (sw : (f s).sw = s.sw) :
    s.allOffInput f = f s := by
  have change : s.allOffInput f = sequencerEvent f s := sequencerEvent_congr (if_pos same)
  rw [change, sequencerEvent_quiet (by rw [queue]) fun c => by rw [sw]]

/-- An input that brings the condition into force. -/
theorem State.allOffInput_enters (before : s.allOff = false) (now : (f s).allOff = true) (queue : (f s).queue = s.queue)
    (channels : (f s).ret.channels = s.ret.channels) (sw : (f s).sw = s.sw) :
    s.allOffInput f = sequencerEvent State.enterAllOff (f s) := by
  refine sequencerEvent_shift ?_ queue channels fun c => by rw [sw]
  dsimp only
  rw [before, now]
  rfl

/-- An input that releases the condition. -/
theorem State.allOffInput_leaves (before : s.allOff = true) (now : (f s).allOff = false) (queue : (f s).queue = s.queue)
    (channels : (f s).ret.channels = s.ret.channels) (sw : (f s).sw = s.sw) :
    s.allOffInput f = sequencerEvent
      (State.retest (fun s ch => decide (s.sw[ch].state = .hold .allOff)) (List.finRange 16)) (f s).raiseAllOff := by
  refine sequencerEvent_shift ?_ queue channels fun c => by rw [← sw]; rfl
  dsimp only
  rw [before, now]
  rfl

end Inputs

theorem exec_allOffPinChange {s : State} (running : s.sup.state = .running) (b : Bool) :
    exec (.allOffPinChange b) s = .next (s.takePin b) := next_whileRunning running rfl

theorem exec_forceAllOff {s : State} (h : s.holds 0x50 []) :
    exec .forceAllOff s = .next ((s.setLatch true).answered 0x50 .ok []) := next_complete h rfl

theorem exec_releaseAllOff {s : State} (h : s.holds 0x51 []) :
    exec .releaseAllOff s = .next ((s.setLatch false).answered 0x51 .ok []) := next_complete h rfl

/-! ### The release (R120) -/

/-- What the release has the channels in HOLD(ALL-OFF) do, `u` being the part with the condition released and raised. -/
theorem sequencerEvent_leavesAllOff {u t : State} (raised : u.att.allOff = true)
    (event : t = sequencerEvent
      (State.retest (fun s ch => decide (s.sw[ch].state = .hold .allOff)) (List.finRange 16)) u) :
    let waits (ch : Chan) : Prop := u.sw[ch].state = .hold .allOff
    t.att.allOff = true ∧ ((∀ e ∈ u.queue, u.sw[e.chan].state = .queued) → RetestsAll waits u t) ∧
      (∀ ch : Chan, waits ch → (∀ o : Chan, waits o → o = ch) → u.sw[ch].applied = 0 → TakesTests u ch t) ∧
      ((∀ ch : Chan, ¬waits ch) → t = u) := by
  intro waits
  have tests : TestsHold (fun s ch => decide (s.sw[ch].state = .hold .allOff)) (fun _ => True) .allOff u := fun v ch _ => by
    rw [decide_eq_true_iff, true_and]
  have scope : (fun ch => True ∧ u.sw[ch].state = .hold .allOff) = waits := funext fun ch => true_and _
  subst event
  refine ⟨?_, fun queued => scope ▸ sequencerEvent_retestsAll tests rfl queued, fun ch waiting only undriven => ?_,
    fun idle => ?_⟩
  · obtain ⟨gone, rest, event⟩ := sequencerEvent_admits
      (State.retest (fun s ch => decide (s.sw[ch].state = .hold .allOff)) (List.finRange 16)) u
    rw [event.frame, State.retest_frame tests]
    exact raised
  · have one := State.retest_only tests (decide_eq_true waiting) fun o tested => only o (of_decide_eq_true tested)
    exact sequencerEvent_takesTests one undriven
  · exact sequencerEvent_still _ (State.retest_none tests fun ch tested => idle ch (of_decide_eq_true tested))

/-- Settles O47, by the condition before and after the input. -/
theorem theAllOffConditionIsEnteredAndReleased : Obligations.TheAllOffConditionIsEnteredAndReleased := by
  refine ⟨⟨fun s running released driven => ⟨?_, fun h => ?_⟩, fun s b running same => ?_, fun s h forced => ?_,
    fun s h kept => ?_⟩, fun s running forced => ?_⟩
  · obtain ⟨drops, waits, rests, queue, gaps, flags, raised, reports⟩ :=
      sequencerEvent_entersAllOff (s := { s with pinTaken := true }) driven
    have frame := sequencerEvent_enterAllOff_frame { s with pinTaken := true }
    refine ⟨_, (exec_allOffPinChange running true).trans (congrArg _ (State.allOffInput_enters released rfl rfl rfl rfl)),
      ⟨drops, waits, rests, queue, gaps, flags, raised, reports⟩, congrArg State.pinTaken frame, frame⟩
  · have now : ({ s with ret := { s.ret with hostLatch := true } } : State).allOff = true := Bool.or_true _
    obtain ⟨drops, waits, rests, queue, gaps, flags, raised, reports⟩ :=
      sequencerEvent_entersAllOff (s := s.setRet { s.ret with hostLatch := true }) driven
    have frame := sequencerEvent_enterAllOff_frame (s.setRet { s.ret with hostLatch := true })
    refine ⟨_, (exec_forceAllOff h).trans (congrArg (fun t : State => Host.Outcome.next (t.answered 0x50 .ok []))
      (State.allOffInput_enters released now rfl rfl rfl)),
      ⟨drops, waits, rests, queue, gaps, flags, raised, reports⟩, frame⟩
  · exact (exec_allOffPinChange running b).trans (congrArg _ (State.allOffInput_still same.symm rfl rfl))
  · have same : s.allOff = ({ s with ret := { s.ret with hostLatch := true } } : State).allOff :=
      forced.trans (Bool.or_true _).symm
    exact (exec_forceAllOff h).trans (congrArg (fun t : State => Host.Outcome.next (t.answered 0x50 .ok []))
      (State.allOffInput_still same rfl rfl))
  · have same : s.allOff = ({ s with ret := { s.ret with hostLatch := false } } : State).allOff := by
      rw [State.allOff, State.allOff]
      obtain pin | latch := kept
      · rw [pin, Bool.true_or, Bool.true_or]
      · rw [latch]
    exact (exec_releaseAllOff h).trans (congrArg (fun t : State => Host.Outcome.next (t.answered 0x51 .ok []))
      (State.allOffInput_still same rfl rfl))
  · intro waits after
    refine ⟨fun latch => ?_, fun pin h => ?_⟩
    · have now : ({ s with pinTaken := false } : State).allOff = false := latch
      have event := State.allOffInput_leaves (f := fun s : State => { s with pinTaken := false }) forced now rfl rfl rfl
      obtain ⟨raised, all, one, none⟩ := sequencerEvent_leavesAllOff
        (u := { s with pinTaken := false, att := { s.att with allOff := true } }) rfl event
      exact ⟨_, exec_allOffPinChange running false, raised, all, fun ch waiting only _ => one ch waiting only, none⟩
    · have now : ({ s with ret := { s.ret with hostLatch := false } } : State).allOff = false := by
        rw [State.allOff, pin]
        rfl
      have event := State.allOffInput_leaves (f := fun s : State => s.setRet { s.ret with hostLatch := false }) forced now rfl
        rfl rfl
      obtain ⟨raised, all, one, none⟩ := sequencerEvent_leavesAllOff
        (u := (s.setRet { s.ret with hostLatch := false }).raiseAllOff) rfl event
      exact ⟨_, exec_releaseAllOff h, raised, all, fun ch waiting only _ => one ch waiting only, none⟩

end Sys2Proof.Machine
end

section
/-! A hand-off channel by channel (R100 to R103, R105, R112): what it makes of a channel by its target and its switching state, and
what the whole of it leaves of every channel before the head is tested. -/

namespace Sys2Proof.Machine

section HandOff

variable {s : State} {ts : List (Chan × Level)}

/-- A channel's switching record with its new target recorded (R100). -/
def State.given (s : State) (ts : List (Chan × Level)) (ch : Chan) : Switching :=
  { s.sw[ch] with target := s.targetsWith ts ch }

/-- The part after the first pass (R100). -/
def State.lowering (s : State) (ts : List (Chan × Level)) : State := (s.recordTargets ts).passZero ts

/-- The part after both passes (R100). -/
def State.passed (s : State) (ts : List (Chan × Level)) : State := ((s.recordTargets ts).passZero ts).passNonZero ts

section Once

variable (once : (ts.map (·.1)).Nodup)
include once

theorem State.recordTargets_frame : s.recordTargets ts = { s with sw := (s.recordTargets ts).sw } :=
  (s.recordTargets_records once).frame

theorem State.recordTargets_given (ch : Chan) : (s.recordTargets ts).sw[ch] = s.given ts ch :=
  (s.recordTargets_records once).sw ch

/-- What a hand-off makes of a channel that goes to 0 (R101, R102). -/
theorem State.handAct_zero {ch : Chan} (zero : s.targetsWith ts ch = 0) : s.handAct ts ch =
    match s.sw[ch].state with
    | .off | .ending | .fading | .faulted | .locked => ⟨s.given ts ch, s.faults[ch], false, .stay⟩
    | .hold _ => ⟨{ s.given ts ch with state := .off }, s.faults[ch], false, .stay⟩
    | .queued => ⟨{ s.given ts ch with state := .off }, s.faults[ch], false, .leave⟩
    | .on =>
      if s.minOnElapsed ch then
        if ramps (s.chan ch) then
          ⟨{ s.given ts ch with state := .fading, rampStamp := s.runCount, ramping := false }, s.faults[ch], false, .stay⟩
        else
          ⟨{ s.given ts ch with
              state := .off, applied := 0, offStamp := s.runCount, minOffPast := false, ramping := false },
            { s.faults[ch] with cleanRunning := false, filterTime := 0 }, true, .stay⟩
      else ⟨{ s.given ts ch with state := .ending, ramping := false }, s.faults[ch], false, .stay⟩ := by
  have frame := State.recordTargets_frame (s := s) once
  have record := State.recordTargets_given (s := s) once ch
  have state : (s.given ts ch).state = s.sw[ch].state := rfl
  have minOn : (s.recordTargets ts).minOnElapsed ch = s.minOnElapsed ch := by
    simp only [State.minOnElapsed, State.chan, record, State.given]
    rw [frame]
  have faults : (s.recordTargets ts).faults = s.faults := by rw [frame]
  have chan : (s.recordTargets ts).chan ch = s.chan ch := by rw [frame]; rfl
  have run : (s.recordTargets ts).runCount = s.runCount := by rw [frame]
  rw [State.handAct, if_pos zero, State.lowerAct, record, state]
  cases s.sw[ch].state <;>
    simp only [State.endAct, State.dropAct, State.moveAct, State.stillAct, record, minOn, faults, chan, run]

theorem State.lowering_raised {ch : Chan} (some : s.targetsWith ts ch ≠ 0) :
    (s.lowering ts).sw[ch] = s.given ts ch ∧ (s.lowering ts).faults[ch] = s.faults[ch] :=
  State.passZero_raised (s := s) once fun low => some (State.mem_lowered.mp low).2

theorem State.lowering_acts : s.lowering ts = (s.recordTargets ts).actAll (s.handAct ts) (s.lowered ts) :=
  State.passZero_acts once s

theorem State.lowering_frame : s.lowering ts = { s with
    sw := (s.lowering ts).sw
    faults := (s.lowering ts).faults
    gapStamps := (s.lowering ts).gapStamps
    queue := (s.lowering ts).queue
    att := { s.att with channel := (s.lowering ts).att.channel } } := by
  have frame := (s.recordTargets ts).actAll_frame (s.handAct ts) (s.lowered ts)
  rw [← State.lowering_acts once] at frame
  generalize s.lowering ts = u at frame ⊢
  rw [frame, State.recordTargets_frame once]

/-- What a hand-off makes of a channel with another target (R101, R102). -/
theorem State.handAct_some {ch : Chan} (some : s.targetsWith ts ch ≠ 0) : s.handAct ts ch =
    match s.sw[ch].state with
    | .off => ⟨{ s.given ts ch with state := (s.lowering ts).eligibility ch }, s.faults[ch], false,
        if (s.lowering ts).eligibility ch = SwState.queued then .enter (s.chan ch).queueClass (s.targetsWith ts ch) else .stay⟩
    | .hold _ | .faulted | .locked => ⟨s.given ts ch, s.faults[ch], false, .stay⟩
    | .queued => ⟨s.given ts ch, s.faults[ch], false, .relevel (s.targetsWith ts ch)⟩
    | .on | .ending | .fading =>
      ⟨{ headed (s.chan ch) s.runCount (s.given ts ch) (s.targetsWith ts ch) with state := .on }, s.faults[ch], false, .stay⟩ := by
  obtain ⟨record, fault⟩ := State.lowering_raised once some
  have frame := State.lowering_frame (s := s) once
  have state : (s.given ts ch).state = s.sw[ch].state := rfl
  have target : (s.given ts ch).target = s.targetsWith ts ch := rfl
  have chan : (s.lowering ts).chan ch = s.chan ch := by rw [frame]; rfl
  have run : (s.lowering ts).runCount = s.runCount := by rw [frame]
  have act : s.handAct ts ch = (s.lowering ts).raiseAct ch (s.targetsWith ts ch) := if_neg some
  rw [act, State.raiseAct, record, state]
  cases s.sw[ch].state <;>
    simp only [State.testAct, State.moveAct, State.stillAct, record, fault, chan, run, target]

/-- What a hand-off's act tells of the channel before it: one that waits after it waited or was OFF, one that is driven after it was
driven, and a changeover stamp is made where it drops. -/
structure State.HandSummary (s : State) (ts : List (Chan × Level)) (ch : Chan) (a : Act) : Prop where
  queued : a.sw.state = .queued →
    a.sw = { s.given ts ch with state := .queued } ∧ (s.sw[ch].state = .queued ∨ s.sw[ch].state = .off)
  driven : a.sw.state.driven = true → s.sw[ch].state.driven = true
  stamps : a.stamps = true ↔ s.sw[ch].state = .on ∧ a.sw.state = .off
  fault : a.fault = if a.stamps = true then { s.faults[ch] with cleanRunning := false, filterTime := 0 } else s.faults[ch]

theorem State.handAct_summary (ch : Chan) : s.HandSummary ts ch (s.handAct ts ch) := by
  have given {st : SwState} (state : s.sw[ch].state = st) : s.given ts ch = { s.given ts ch with state := st } := by
    rw [← state]
    rfl
  have state_given : (s.given ts ch).state = s.sw[ch].state := rfl
  by_cases zero : s.targetsWith ts ch = 0
  · rw [State.handAct_zero once zero]
    cases state : s.sw[ch].state with
    | off | hold _ | queued | ending | fading | faulted | locked =>
      constructor <;> simp [-Fin.getElem_fin, state_given, state, SwState.driven]
    | on =>
      dsimp only
      split_ifs <;> constructor <;> simp [-Fin.getElem_fin, state, SwState.driven]
  · rw [State.handAct_some once zero]
    cases state : s.sw[ch].state with
    | off =>
      constructor
      · exact fun queued => ⟨by rw [show (s.lowering ts).eligibility ch = .queued from queued], .inr state⟩
      · intro driven
        have driven : ((s.lowering ts).eligibility ch).driven = true := driven
        obtain ⟨r, held⟩ | queued := (s.lowering ts).eligibility_waits ch
        · rw [held] at driven
          cases driven
        · rw [queued] at driven
          cases driven
      · simp [-Fin.getElem_fin, state]
      · rfl
    | queued =>
      refine ⟨fun _ => ⟨given state, .inl state⟩, fun driven => ?_, by simp [-Fin.getElem_fin, state], rfl⟩
      rw [state_given, state] at driven
      cases driven
    | hold _ | faulted | locked | on | ending | fading =>
      constructor <;> simp [-Fin.getElem_fin, state_given, state, SwState.driven]

omit once in
theorem State.given_other {ch : Chan} (other : ch ∉ ts.map (·.1)) : s.given ts ch = s.sw[ch] := by
  rw [State.given, State.targetsWith_other other]

/-! ### After both passes -/

variable (level : ∀ ch : Chan, s.sw[ch].applied ≠ 0 ↔ s.sw[ch].state.driven = true)
include level

theorem State.passed_acts :
    s.passed ts = (s.recordTargets ts).actAll (s.handAct ts) (s.lowered ts ++ s.raised ts) := State.handOff_acts once level

theorem State.passed_lowering : s.passed ts = (s.lowering ts).actAll (s.handAct ts) (s.raised ts) := by
  rw [State.passed_acts once level, State.actAll_append, State.lowering_acts once]

theorem State.passed_sw (ch : Chan) :
    (s.passed ts).sw[ch] = if ch ∈ ts.map (·.1) then (s.handAct ts ch).sw else s.sw[ch] := by
  rw [State.passed_acts once level, State.actAll_sw]
  refine if_ctx_congr State.mem_lowered_append_raised (fun _ => rfl) fun other => ?_
  rw [State.recordTargets_given once, State.given_other other]

theorem State.passed_frame : s.passed ts = { s with
    sw := (s.passed ts).sw
    faults := (s.passed ts).faults
    gapStamps := (s.passed ts).gapStamps
    queue := (s.passed ts).queue
    att := { s.att with channel := (s.passed ts).att.channel } } := by
  have frame := (s.recordTargets ts).actAll_frame (s.handAct ts) (s.lowered ts ++ s.raised ts)
  rw [← State.passed_acts once level] at frame
  generalize s.passed ts = v at frame ⊢
  rw [frame, State.recordTargets_frame once]

/-- The flags of the channels that moved (R116). -/
theorem State.passed_flags (ch : Chan) : (s.passed ts).att.channel.getLsbD ch.val =
    (s.att.channel.getLsbD ch.val || decide ((s.passed ts).sw[ch].state ≠ s.sw[ch].state)) := by
  have flags := (s.recordTargets ts).actAll_flags (s.handAct ts) (s.lowered ts ++ s.raised ts) ch
  rw [← State.passed_acts once level, State.recordTargets_given once] at flags
  rw [flags, State.recordTargets_frame once]
  rfl

/-- A channel that waits after the passes waited before them or was OFF. -/
theorem State.passed_queued {ch : Chan} (queued : (s.passed ts).sw[ch].state = .queued) :
    (s.passed ts).sw[ch] = { s.given ts ch with state := .queued } ∧ (s.sw[ch].state = .queued ∨ s.sw[ch].state = .off) := by
  rw [State.passed_sw once level] at queued ⊢
  split at queued
  · rename_i named
    rw [if_pos named]
    exact (State.handAct_summary once ch).queued queued
  · rename_i other
    rw [if_neg other, State.given_other other]
    exact ⟨by rw [← queued], .inl queued⟩

/-- No channel is driven after the passes that was not before. -/
theorem State.passed_driven {ch : Chan} (driven : (s.passed ts).sw[ch].state.driven = true) :
    s.sw[ch].state.driven = true := by
  rw [State.passed_sw once level] at driven
  split at driven
  · exact (State.handAct_summary once ch).driven driven
  · exact driven

/-- The channels that drop make a changeover stamp. -/
theorem State.passed_stamps (ch : Chan) : (ch ∈ ts.map (·.1) ∧ (s.handAct ts ch).stamps = true) ↔
    s.sw[ch].state = .on ∧ (s.passed ts).sw[ch].state = .off := by
  rw [State.passed_sw once level]
  by_cases named : ch ∈ ts.map (·.1)
  · rw [if_pos named, and_iff_right named]
    exact (State.handAct_summary once ch).stamps
  · rw [if_neg named]
    refine iff_of_false (fun h => named h.1) fun ⟨on, off⟩ => ?_
    rw [on] at off
    cases off

theorem State.passed_faults (ch : Chan) : (s.passed ts).faults[ch] =
    if s.sw[ch].state = .on ∧ (s.passed ts).sw[ch].state = .off
    then { s.faults[ch] with cleanRunning := false, filterTime := 0 } else s.faults[ch] := by
  have faults : (s.recordTargets ts).faults = s.faults := by rw [State.recordTargets_frame once]
  have stamps := State.passed_stamps once level ch
  have record : (s.passed ts).faults[ch] = if ch ∈ ts.map (·.1) then (s.handAct ts ch).fault else s.faults[ch] := by
    rw [State.passed_acts once level, State.actAll_faults, faults]
    exact if_congr State.mem_lowered_append_raised rfl rfl
  rw [record]
  by_cases named : ch ∈ ts.map (·.1)
  · rw [if_pos named, (State.handAct_summary once ch).fault]
    exact if_congr ((and_iff_right named).symm.trans stamps) rfl rfl
  · rw [if_neg named, if_neg fun drops => named (stamps.mpr drops).1]

/-- The changeover stamps of the groups a member dropped in (R105). -/
theorem State.passed_gaps (g : Group) : (s.passed ts).gapStamps[g.idx] =
    if ∃ ch : Chan, s.ret.channels[ch].group = some g ∧ s.sw[ch].state = .on ∧ (s.passed ts).sw[ch].state = .off
    then ⟨s.runCount, false⟩ else s.gapStamps[g.idx] := by
  have stamps := (s.recordTargets ts).actAll_gaps (s.handAct ts) (s.lowered ts ++ s.raised ts) g
  have chan (ch : Chan) : (s.recordTargets ts).chan ch = s.chan ch := by rw [State.recordTargets_frame once]; rfl
  have run : (s.recordTargets ts).runCount = s.runCount := by rw [State.recordTargets_frame once]
  have gaps : (s.recordTargets ts).gapStamps = s.gapStamps := by rw [State.recordTargets_frame once]
  rw [← State.passed_acts once level, run, gaps] at stamps
  refine stamps.trans (if_congr (exists_congr fun ch => ?_) rfl rfl)
  rw [State.mem_lowered_append_raised, chan, ← and_assoc, State.passed_stamps once level, and_comm]
  rfl

/-! ### What the tests of the second pass see -/

/-- The second pass drives no channel and stops the drive of none. -/
theorem State.lowering_applied (ch : Chan) :
    (s.lowering ts).sw[ch].applied = 0 ↔ (s.passed ts).sw[ch].applied = 0 := by
  rw [State.passed_lowering once level, State.actAll_sw]
  split
  · rename_i raised
    have some := (State.mem_raised.mp raised).2
    rw [State.handAct_raised raised]
    refine (State.raiseAct_driven some ?_).symm
    rw [(State.lowering_raised once some).1]
    exact level ch
  · rfl

/-- And it makes no changeover stamp. -/
theorem State.lowering_gapStamps : (s.lowering ts).gapStamps = (s.passed ts).gapStamps := by
  rw [State.passed_lowering once level]
  refine (State.actAll_gapStamps _ fun ch raised => ?_).symm
  rw [State.handAct_raised raised]
  exact State.raiseAct_stamps ..

end Once

end HandOff

end Sys2Proof.Machine
end

section
/-! A hand-off and the Switching Queue (R107, R108): the channels that go to 0 leave it, the others in it take their new targets in
place, and those that pass the tests enter it in the order of the hand-off. -/

namespace Sys2Proof.Machine

/-! ### Moves of several entries -/

/-- Entries that leave, channel by channel. -/
theorem foldl_leaves {m : Chan → QueueMove} {chs : List Chan} {q : List QueueEntry}
    (moves : ∀ ch ∈ chs, m ch = .leave ∨ m ch = .stay ∧ ch ∉ q.map (·.chan)) :
    chs.foldl (fun q ch => (m ch).apply ch q) q = q.filter fun e => decide (e.chan ∉ chs) := by
  induction chs generalizing q with
  | nil =>
    rw [List.foldl_nil, eq_comm, List.filter_eq_self]
    exact fun e _ => decide_eq_true List.not_mem_nil
  | cons ch chs ih =>
    obtain ⟨first, later⟩ := List.forall_mem_cons.mp moves
    have left : (m ch).apply ch q = q.filter fun e => decide (e.chan ≠ ch) := by
      obtain leave | ⟨stay, apart⟩ := first
      · rw [leave]
        rfl
      · rw [stay, eq_comm]
        exact List.filter_eq_self.mpr fun e he => decide_eq_true fun same => apart (same ▸ List.mem_map_of_mem he)
    have fewer (c : Chan) (out : c ∉ q.map (·.chan)) : c ∉ (q.filter fun e => decide (e.chan ≠ ch)).map (·.chan) :=
      fun mem => out ((List.filter_sublist.map _).subset mem)
    rw [List.foldl_cons, left, ih fun c hc => (later c hc).imp_right fun ⟨stay, out⟩ => ⟨stay, fewer c out⟩,
      List.filter_filter]
    refine List.filter_congr fun e _ => ?_
    rw [← Bool.decide_and, decide_eq_decide, List.mem_cons, not_or, and_comm]

/-- An entry of one of the channels takes that channel's new level in place (R108). -/
def relevelled (target : Chan → Level) (chs : List Chan) (e : QueueEntry) : QueueEntry :=
  if e.chan ∈ chs then { e with level := target e.chan } else e

theorem relevelled_chan (target : Chan → Level) (chs : List Chan) (e : QueueEntry) :
    (relevelled target chs e).chan = e.chan := by
  unfold relevelled
  split <;> rfl

theorem relevelled_queueClass (target : Chan → Level) (chs : List Chan) (e : QueueEntry) :
    (relevelled target chs e).queueClass = e.queueClass := by
  unfold relevelled
  split <;> rfl

/-- An entry's place reads the classes alone. -/
theorem placeEntry_map {g : QueueEntry → QueueEntry} (classes : ∀ e, (g e).queueClass = e.queueClass) (q : List QueueEntry)
    (e : QueueEntry) : (placeEntry q e).map g = placeEntry (q.map g) (g e) := by
  have first : ((fun x : QueueEntry => decide (x.queueClass = .first)) ∘ g) = fun x => decide (x.queueClass = .first) :=
    funext fun x => by rw [Function.comp_apply, classes]
  have normal : ((fun x : QueueEntry => decide (x.queueClass ≠ .first)) ∘ g) = fun x => decide (x.queueClass ≠ .first) :=
    funext fun x => by rw [Function.comp_apply, classes]
  unfold placeEntry
  rw [classes]
  cases e.queueClass with
  | first => simp only [List.map_append, List.map_cons, List.filter_map, first, normal]
  | normal => simp only [List.map_append, List.map_cons, List.map_nil]

/-- Entries that take new levels and entries that are placed, channel by channel: the levels may be taken first. -/
theorem foldl_enters {m : Chan → QueueMove} {cls : Chan → QueueClass} {target : Chan → Level} {enters : Chan → Bool}
    {chs : List Chan} (once : chs.Nodup) {q : List QueueEntry}
    (stood : ∀ ch ∈ chs, ch ∈ q.map (·.chan) → m ch = .relevel (target ch) ∧ enters ch = false)
    (new : ∀ ch ∈ chs, ch ∉ q.map (·.chan) → m ch = if enters ch then .enter (cls ch) (target ch) else .stay) :
    chs.foldl (fun q ch => (m ch).apply ch q) q =
      ((chs.filter enters).map fun ch => ⟨ch, cls ch, target ch⟩).foldl placeEntry (q.map (relevelled target chs)) := by
  induction chs generalizing q with
  | nil =>
    have same : q.map (relevelled target []) = q := by
      refine (List.map_congr_left fun e _ => ?_).trans (List.map_id q)
      exact if_neg List.not_mem_nil
    rw [same]
    rfl
  | cons ch chs ih =>
    obtain ⟨fresh, once⟩ := List.nodup_cons.mp once
    rw [List.foldl_cons]
    by_cases waits : ch ∈ q.map (·.chan)
    · obtain ⟨move, still⟩ := stood ch List.mem_cons_self waits
      have chans : ((m ch).apply ch q).map (·.chan) = q.map (·.chan) := by
        rw [move, QueueMove.apply, List.map_map]
        refine List.map_congr_left fun e _ => ?_
        rw [Function.comp_apply]
        split <;> rfl
      have levels : ((m ch).apply ch q).map (relevelled target chs) = q.map (relevelled target (ch :: chs)) := by
        rw [move, QueueMove.apply, List.map_map]
        refine List.map_congr_left fun e _ => ?_
        rw [Function.comp_apply]
        by_cases here : e.chan = ch
        · simp only [relevelled, here, if_true, fresh, if_false, List.mem_cons, true_or]
        · simp only [relevelled, here, if_false, List.mem_cons, false_or]
      rw [ih once (fun c hc => chans ▸ stood c (List.mem_cons_of_mem _ hc))
        (fun c hc => chans ▸ new c (List.mem_cons_of_mem _ hc)), levels, List.filter_cons_of_neg (by rw [still]; nofun)]
    · have levels : q.map (relevelled target (ch :: chs)) = q.map (relevelled target chs) := by
        refine List.map_congr_left fun e he => ?_
        have other : e.chan ≠ ch := fun same => waits (same ▸ List.mem_map_of_mem he)
        simp only [relevelled, List.mem_cons, other, false_or]
      have move := new ch List.mem_cons_self waits
      cases entering : enters ch with
      | false =>
        rw [entering, if_neg Bool.false_ne_true] at move
        rw [move, QueueMove.apply, ih once (fun c hc => stood c (List.mem_cons_of_mem _ hc))
          (fun c hc => new c (List.mem_cons_of_mem _ hc)), levels, List.filter_cons_of_neg (by rw [entering]; nofun)]
      | true =>
        rw [entering, if_pos rfl] at move
        have mem (c : Chan) (hc : c ∈ chs) :
            c ∈ (placeEntry q ⟨ch, cls ch, target ch⟩).map (·.chan) ↔ c ∈ q.map (·.chan) := by
          have other : c ≠ ch := fun same => fresh (same ▸ hc)
          rw [((placeEntry_perm q ⟨ch, cls ch, target ch⟩).map (·.chan)).mem_iff, List.map_cons, List.mem_cons]
          exact or_iff_right other
        have own : relevelled target chs ⟨ch, cls ch, target ch⟩ = ⟨ch, cls ch, target ch⟩ := if_neg fresh
        rw [move, QueueMove.apply, ih once (fun c hc waits => stood c (List.mem_cons_of_mem _ hc) ((mem c hc).mp waits))
          (fun c hc out => new c (List.mem_cons_of_mem _ hc) (out ∘ (mem c hc).mpr)),
          placeEntry_map (relevelled_queueClass target chs), own, levels, List.filter_cons_of_pos entering]
        rfl

/-! ### The queue after a hand-off -/

section HandOff

variable {s : State} {ts : List (Chan × Level)}

/-- What stands of the queue: the entries of channels that go to 0 have left, and the others hold their channels' targets. -/
def State.kept (s : State) (ts : List (Chan × Level)) : List QueueEntry := s.queue.filterMap fun e =>
  if s.targetsWith ts e.chan = 0 then none else some { e with level := s.targetsWith ts e.chan }

/-- A channel that rises out of OFF passes the tests of the second pass. -/
def State.rises (s : State) (ts : List (Chan × Level)) (ch : Chan) : Bool :=
  decide (s.sw[ch].state = .off ∧ (s.lowering ts).eligibility ch = .queued)

/-- The entries of those channels, in the order of the hand-off. -/
def State.entering (s : State) (ts : List (Chan × Level)) : List QueueEntry :=
  ((s.raised ts).filter (s.rises ts)).map fun ch => ⟨ch, (s.chan ch).queueClass, s.targetsWith ts ch⟩

theorem State.handAct_leaves (once : (ts.map (·.1)).Nodup) {ch : Chan} (zero : s.targetsWith ts ch = 0) :
    (s.handAct ts ch).move = if s.sw[ch].state = .queued then .leave else .stay := by
  rw [State.handAct_zero once zero]
  cases s.sw[ch].state with
  | on =>
    simp only [reduceCtorEq, if_false]
    split_ifs <;> rfl
  | off | hold _ | queued | ending | fading | faulted | locked => rfl

theorem State.handAct_enters (once : (ts.map (·.1)).Nodup) {ch : Chan} (some : s.targetsWith ts ch ≠ 0) :
    (s.handAct ts ch).move = if s.sw[ch].state = .queued then .relevel (s.targetsWith ts ch)
      else if s.rises ts ch then .enter (s.chan ch).queueClass (s.targetsWith ts ch) else .stay := by
  rw [State.handAct_some once some]
  unfold State.rises
  cases s.sw[ch].state with
  | off => simp
  | hold _ | queued | on | ending | fading | faulted | locked => simp

theorem filterMap_eq_map_filter {α β : Type} {f : α → Option β} {p : α → Bool} {g : α → β} {q : List α}
    (same : ∀ e ∈ q, f e = if p e then some (g e) else none) : q.filterMap f = (q.filter p).map g := by
  induction q with
  | nil => rfl
  | cons e q ih =>
    obtain ⟨first, later⟩ := List.forall_mem_cons.mp same
    cases keep : p e with
    | true =>
      rw [keep, if_pos rfl] at first
      rw [List.filterMap_cons_some first, List.filter_cons_of_pos keep, List.map_cons, ih later]
    | false =>
      rw [keep, if_neg Bool.false_ne_true] at first
      rw [List.filterMap_cons_none first, List.filter_cons_of_neg (by rw [keep]; nofun), ih later]

/-- What stands, as the entries left by the first pass with the levels of the second. -/
theorem State.SwitchingAgrees.kept_eq (agree : s.SwitchingAgrees) : s.kept ts =
    (s.queue.filter fun e => decide (e.chan ∉ s.lowered ts)).map (relevelled (s.targetsWith ts) (s.raised ts)) := by
  refine filterMap_eq_map_filter fun e he => ?_
  have wanted : s.sw[e.chan].target ≠ 0 := agree.wishOn e.chan (.inr (.inl (agree.channels.queue.state he)))
  have lowered : e.chan ∈ s.lowered ts ↔ s.targetsWith ts e.chan = 0 := by
    rw [State.mem_lowered, and_iff_right_iff_imp]
    intro zero
    by_contra other
    rw [State.targetsWith_other other] at zero
    exact wanted zero
  by_cases zero : s.targetsWith ts e.chan = 0
  · rw [if_pos zero, if_neg]
    exact fun stays => of_decide_eq_true stays (lowered.mpr zero)
  · have level : relevelled (s.targetsWith ts) (s.raised ts) e = { e with level := s.targetsWith ts e.chan } := by
      unfold relevelled
      split
      · rfl
      · rename_i unraised
        have other : e.chan ∉ ts.map (·.1) := fun named => unraised (State.mem_raised.mpr ⟨named, zero⟩)
        rw [State.targetsWith_other other, ← agree.levels e he]
    rw [if_neg zero, if_pos (decide_eq_true (lowered.not.mpr zero)), level]

/-- The queue after a hand-off. -/
theorem State.SwitchingAgrees.passed_queue (agree : s.SwitchingAgrees) (once : (ts.map (·.1)).Nodup) :
    (s.passed ts).queue = (s.entering ts).foldl placeEntry (s.kept ts) := by
  have queue : (s.recordTargets ts).queue = s.queue := by rw [State.recordTargets_frame once]
  have stands {ch : Chan} : ch ∈ (s.queue.filter fun e => decide (e.chan ∉ s.lowered ts)).map (·.chan) ↔
      s.sw[ch].state = .queued ∧ ch ∉ s.lowered ts := by
    rw [← agree.queued, List.mem_map, List.mem_map]
    constructor
    · rintro ⟨e, he, rfl⟩
      obtain ⟨mem, out⟩ := List.mem_filter.mp he
      exact ⟨⟨e, mem, rfl⟩, of_decide_eq_true out⟩
    · rintro ⟨⟨e, he, rfl⟩, out⟩
      exact ⟨e, List.mem_filter.mpr ⟨he, decide_eq_true out⟩, rfl⟩
  have raisedOnce : (s.raised ts).Nodup := once.filter _
  rw [State.passed_acts once agree.applied, State.actAll_queue, List.foldl_append, queue,
    foldl_leaves (chs := s.lowered ts) fun ch low => ?_, foldl_enters raisedOnce (cls := fun ch => (s.chan ch).queueClass) (target := s.targetsWith ts)
      (enters := s.rises ts) (fun ch high waits => ?_) (fun ch high out => ?_), ← agree.kept_eq]
  · rfl
  · have queued := (stands.mp waits).1
    rw [State.handAct_enters once (State.mem_raised.mp high).2, if_pos queued, State.rises, queued]
    exact ⟨rfl, rfl⟩
  · have unqueued : s.sw[ch].state ≠ .queued := fun queued =>
      out (stands.mpr ⟨queued, fun low => State.not_lowered_of_raised high low⟩)
    rw [State.handAct_enters once (State.mem_raised.mp high).2, if_neg unqueued]
  · rw [State.handAct_leaves once (State.mem_lowered.mp low).2]
    by_cases queued : s.sw[ch].state = .queued
    · exact .inl (if_pos queued)
    · exact .inr ⟨if_neg queued, (agree.queued ch).not.mpr queued⟩

theorem State.mem_entering {e : QueueEntry} : e ∈ s.entering ts ↔ (e.chan ∈ s.raised ts ∧ s.rises ts e.chan = true) ∧
    e = ⟨e.chan, (s.chan e.chan).queueClass, s.targetsWith ts e.chan⟩ := by
  rw [State.entering, List.mem_map]
  constructor
  · rintro ⟨ch, hch, rfl⟩
    exact ⟨List.mem_filter.mp hch, rfl⟩
  · exact fun ⟨enters, same⟩ => ⟨e.chan, List.mem_filter.mpr enters, same.symm⟩

theorem State.entering_chans (s : State) (ts : List (Chan × Level)) :
    (s.entering ts).map (·.chan) = (s.raised ts).filter (s.rises ts) := by
  rw [State.entering, List.map_map]
  exact List.map_id _

/-- A hand-off in ascending order leaves the queue as R107 and R108 give. -/
theorem State.SwitchingAgrees.passed_requeues (agree : s.SwitchingAgrees) (ascending : (ts.map (·.1)).Pairwise (· < ·)) :
    Requeues s (s.kept ts) (s.entering ts) (s.passed ts) := by
  have once : (ts.map (·.1)).Nodup := ascending.imp Fin.ne_of_lt
  have after : (s.passed ts).SwitchingAgrees := agree.handOff once
  have frame := State.passed_frame (s := s) once agree.applied
  refine ⟨agree.passed_queue once, after.once, ?_, fun e he => ?_, fun e he waits => ?_, ?_, fun e he => ?_, fun e he => ?_,
    by rw [frame], by rw [frame], by rw [frame], by rw [frame]⟩
  · refine List.Pairwise.filterMap _ (fun a b classes x hx y hy => ?_) agree.classes
    have same {e z : QueueEntry} (h : z ∈ if s.targetsWith ts e.chan = 0 then none
        else some { e with level := s.targetsWith ts e.chan }) : z.queueClass = e.queueClass := by
      split at h
      · cases h
      · rw [← Option.some.inj h]
    rw [same hx, same hy]
    exact classes
  · obtain ⟨x, hx, same⟩ := List.mem_filterMap.mp he
    split at same
    · cases same
    · have chan : e.chan = x.chan := by rw [← Option.some.inj same]
      exact chan ▸ List.mem_map_of_mem hx
  · have off := (of_decide_eq_true (State.mem_entering.mp he).1.2).1
    rw [(agree.queued e.chan).mp waits] at off
    cases off
  · rw [State.entering_chans]
    exact (ascending.filter _).filter _
  · rw [(State.mem_entering.mp he).2]
    rfl
  · have queued := after.channels.queue.state he
    have level := after.levels e he
    obtain ⟨record, -⟩ := State.passed_queued once agree.applied queued
    rw [record] at level ⊢
    rw [level]
    rfl

end HandOff

end Sys2Proof.Machine
end

section
/-! A hand-off of any number of channels, taken whole (R100 to R103, R105, R107 to R109, R111 to R113, R115, R116). -/

namespace Sys2Proof.Machine

section HandOff

variable {s : State} {ts : List (Chan × Level)}

/-- A channel's group is busy for it throughout an event: another member is driven before and after it, or the changeover gap has not
run from the stamp the event leaves (R103). -/
def State.busyThrough (s t : State) (ch : Chan) : Prop := ∃ g, s.ret.channels[ch].group = some g ∧
  ((∃ o : Chan, o ≠ ch ∧ s.ret.channels[o].group = some g ∧ s.sw[o].state.driven = true ∧ t.sw[o].state.driven = true) ∨
    (t.gapStamps[g.idx].past = false ∧ (s.runCount - t.gapStamps[g.idx].stamp).toNat < s.ret.gaps[g.idx].toNat))

theorem State.takeHandOff_event (s : State) (ts : List (Chan × Level)) : ∃ gone rest, EventAdmits (State.passed · ts) s gone rest :=
  sequencerEvent_admits ..

variable (agree : s.SwitchingAgrees) (once : (ts.map (·.1)).Nodup)
include agree once

/-- A channel that does not wait after the passes is as they left it. -/
theorem State.takeHandOff_still {ch : Chan} (unqueued : (s.passed ts).sw[ch].state ≠ .queued) :
    (s.takeHandOff ts).sw[ch] = (s.passed ts).sw[ch] := by
  obtain ⟨gone, rest, event⟩ := s.takeHandOff_event ts
  have after : (s.passed ts).SwitchingAgrees := agree.handOff once
  exact (event.still_of_unqueued ((after.queued ch).not.mpr unqueued)).1

/-- A channel that waits after the passes waits on, or is admitted (R109). -/
theorem State.takeHandOff_waits (ch : Chan) : (s.takeHandOff ts).sw[ch] = (s.passed ts).sw[ch] ∨
    (s.passed ts).sw[ch].state = .queued ∧
      (s.takeHandOff ts).sw[ch].state = .on ∧ (s.takeHandOff ts).sw[ch].admStamp = s.runCount := by
  obtain ⟨gone, rest, event⟩ := s.takeHandOff_event ts
  have run : (s.passed ts).runCount = s.runCount := by rw [State.passed_frame once agree.applied]
  by_cases queued : (s.passed ts).sw[ch].state = .queued
  · obtain same | ⟨on, stamp⟩ := event.keeps_or_on ch
    · exact .inl same
    · exact .inr ⟨queued, on, stamp.trans run⟩
  · exact .inl (State.takeHandOff_still agree once queued)

theorem State.takeHandOff_frame : s.takeHandOff ts = { s with
    sw := (s.takeHandOff ts).sw
    faults := (s.takeHandOff ts).faults
    gapStamps := (s.passed ts).gapStamps
    queue := (s.takeHandOff ts).queue
    lastAdm := (s.takeHandOff ts).lastAdm
    staggerPast := (s.takeHandOff ts).staggerPast
    att := { s.att with channel := (s.takeHandOff ts).att.channel }
    mail := { s.mail with levelReports := (s.takeHandOff ts).mail.levelReports } } := by
  obtain ⟨gone, rest, event⟩ := s.takeHandOff_event ts
  have whole : s.takeHandOff ts = _ := event.frame
  have frame := State.passed_frame once agree.applied
  generalize s.takeHandOff ts = t at whole ⊢
  generalize s.passed ts = v at whole frame ⊢
  rw [whole, frame]

theorem State.takeHandOff_gapStamps : (s.takeHandOff ts).gapStamps = (s.passed ts).gapStamps := by
  rw [State.takeHandOff_frame agree once]

/-- The event takes a channel to OFF where the passes did. -/
theorem State.takeHandOff_off (ch : Chan) :
    (s.takeHandOff ts).sw[ch].state = .off ↔ (s.passed ts).sw[ch].state = .off := by
  obtain same | ⟨queued, on, -⟩ := State.takeHandOff_waits agree once ch
  · rw [same]
  · rw [queued, on]
    exact iff_of_false nofun nofun

/-- A channel driven before and after is driven after the passes: what is admitted was not driven. -/
theorem State.takeHandOff_driven (ch : Chan) :
    s.sw[ch].state.driven = true ∧ (s.takeHandOff ts).sw[ch].state.driven = true ↔
      (s.passed ts).sw[ch].state.driven = true := by
  obtain same | ⟨queued, on, -⟩ := State.takeHandOff_waits agree once ch
  · rw [same]
    exact and_iff_right_of_imp (State.passed_driven once agree.applied)
  · obtain ⟨-, before⟩ := State.passed_queued once agree.applied queued
    rw [queued, on]
    refine iff_of_false (fun ⟨driven, _⟩ => ?_) nofun
    obtain waited | off := before
    · rw [waited] at driven
      cases driven
    · rw [off] at driven
      cases driven

/-! ### The tests of the second pass -/

/-- The tests find a group busy that is busy throughout the event. -/
theorem State.takeHandOff_busy (ch : Chan) : (s.lowering ts).busyFor ch ↔ s.busyThrough (s.takeHandOff ts) ch := by
  have after : (s.passed ts).SwitchingAgrees := agree.handOff once
  have frame := State.lowering_frame (s := s) once
  have ret : (s.lowering ts).ret = s.ret := by rw [frame]
  have run : (s.lowering ts).runCount = s.runCount := by rw [frame]
  have driven (o : Chan) : (s.lowering ts).sw[o].applied ≠ 0 ↔
      s.sw[o].state.driven = true ∧ (s.takeHandOff ts).sw[o].state.driven = true := by
    rw [State.takeHandOff_driven agree once, ← after.applied]
    exact (State.lowering_applied once agree.applied o).not
  simp only [State.busyFor, State.busyThrough, ret, run, driven, State.lowering_gapStamps once agree.applied,
    State.takeHandOff_gapStamps agree once]

/-- The tests of a channel that rises out of OFF, in their order (R103). -/
theorem State.takeHandOff_tests {ch : Chan} (some : s.targetsWith ts ch ≠ 0) :
    (s.allOff = true → (s.lowering ts).eligibility ch = .hold .allOff) ∧
    (s.allOff = false → ¬s.minOffOver ch → (s.lowering ts).eligibility ch = .hold .dwell) ∧
    (s.allOff = false → s.minOffOver ch → s.busyThrough (s.takeHandOff ts) ch →
      (s.lowering ts).eligibility ch = .hold .group) ∧
    ((s.lowering ts).eligibility ch = .queued ↔
      s.allOff = false ∧ s.minOffOver ch ∧ ¬s.busyThrough (s.takeHandOff ts) ch) := by
  have frame := State.lowering_frame (s := s) once
  have allOff : (s.lowering ts).allOff = s.allOff := by rw [frame]; rfl
  have record := (State.lowering_raised once some).1
  have minOff : (s.lowering ts).minOffOver ch ↔ s.minOffOver ch := by
    rw [State.minOffOver, record, frame]
    exact Iff.rfl
  have tests := (s.lowering ts).eligibility_cases ch
  rw [State.eligibility_queued_iff, ← State.takeHandOff_busy agree once, allOff, minOff]
  rw [allOff, minOff] at tests
  obtain ⟨inForce, dwell, group, -⟩ := tests
  exact ⟨inForce, dwell, group, Iff.rfl⟩

/-! ### Channel by channel -/

omit agree in
theorem State.named_of_mem {p : Chan × Level} (hp : p ∈ ts) :
    p.1 ∈ ts.map (·.1) ∧ s.targetsWith ts p.1 = p.2 ∧ s.given ts p.1 = { s.sw[p.1] with target := p.2 } := by
  have target := State.targetsWith_mem (s := s) once hp
  exact ⟨List.mem_map_of_mem hp, target, by rw [State.given, target]⟩

/-- A named channel's record, where the hand-off's act leaves it out of the queue. -/
theorem State.takeHandOff_act {ch : Chan} {a : Act} (named : ch ∈ ts.map (·.1)) (act : s.handAct ts ch = a)
    (unqueued : a.sw.state ≠ .queued) : (s.takeHandOff ts).sw[ch] = a.sw := by
  have record : (s.passed ts).sw[ch] = a.sw := by rw [State.passed_sw once agree.applied, if_pos named, act]
  rw [State.takeHandOff_still agree once (by rwa [record]), record]

/-- A named channel's record, where the hand-off's act leaves it in the queue. -/
theorem State.takeHandOff_act_or_on {ch : Chan} {a : Act} (named : ch ∈ ts.map (·.1)) (act : s.handAct ts ch = a) :
    (s.takeHandOff ts).sw[ch] = a.sw ∨
      (s.takeHandOff ts).sw[ch].state = .on ∧ (s.takeHandOff ts).sw[ch].admStamp = s.runCount := by
  have record : (s.passed ts).sw[ch] = a.sw := by rw [State.passed_sw once agree.applied, if_pos named, act]
  obtain same | ⟨-, on⟩ := State.takeHandOff_waits agree once ch
  · exact .inl (same.trans record)
  · exact .inr on

/-- A channel that goes to 0 and is not ON (R101). -/
theorem State.takeHandOff_zero {p : Chan × Level} (hp : p ∈ ts) (zero : p.2 = 0) :
    let w : Switching := { s.sw[p.1] with target := 0 }
    (w.state = .off ∨ w.state = .ending ∨ w.state = .fading ∨ w.state = .faulted ∨ w.state = .locked →
      (s.takeHandOff ts).sw[p.1] = w) ∧
    ((∃ reason, w.state = .hold reason) ∨ w.state = .queued → (s.takeHandOff ts).sw[p.1] = { w with state := .off }) := by
  intro w
  obtain ⟨named, target, given⟩ := State.named_of_mem (s := s) once hp
  have act := State.handAct_zero once (target.trans zero)
  rw [given, zero] at act
  refine ⟨fun rests => State.takeHandOff_act agree once named (a := ⟨w, s.faults[p.1], false, .stay⟩) ?_ ?_, fun waits => ?_⟩
  · rw [act]
    obtain h | h | h | h | h := rests <;> rw [show s.sw[p.1].state = _ from h]
  · obtain h | h | h | h | h := rests <;> rw [h] <;> nofun
  · obtain ⟨reason, h⟩ | h := waits <;> rw [show s.sw[p.1].state = _ from h] at act
    · exact State.takeHandOff_act agree once named act nofun
    · exact State.takeHandOff_act agree once named act nofun

/-- A channel in ON that goes to 0 (R102). -/
theorem State.takeHandOff_ends {p : Chan × Level} (hp : p ∈ ts) (zero : p.2 = 0) (on : s.sw[p.1].state = .on) :
    let r := s.ret.channels[p.1]
    let ramps := r.kind = .dimmed ∧ r.ramp ≠ 0
    let w : Switching := { s.sw[p.1] with target := 0 }
    (¬s.minOnOver p.1 → (s.takeHandOff ts).sw[p.1] = { w with state := .ending, ramping := false }) ∧
    (s.minOnOver p.1 → ramps →
      (s.takeHandOff ts).sw[p.1] = { w with state := .fading, rampStamp := s.runCount, ramping := false }) ∧
    (s.minOnOver p.1 → ¬ramps → (s.takeHandOff ts).sw[p.1] = { w with
      state := .off, applied := 0, offStamp := s.runCount, minOffPast := false, ramping := false }) := by
  intro r fades w
  obtain ⟨named, target, given⟩ := State.named_of_mem (s := s) once hp
  have act := State.handAct_zero once (target.trans zero)
  have ramps_iff : ramps (s.chan p.1) = true ↔ fades := decide_eq_true_iff
  rw [given, zero, on] at act
  dsimp only at act
  have elapsed := s.minOnElapsed_iff p.1
  refine ⟨fun runs => ?_, fun due fade => ?_, fun due steady => ?_⟩
  · rw [if_neg (elapsed.not.mpr runs)] at act
    exact State.takeHandOff_act agree once named act nofun
  · rw [if_pos (elapsed.mpr due), if_pos (ramps_iff.mpr fade)] at act
    exact State.takeHandOff_act agree once named act nofun
  · rw [if_pos (elapsed.mpr due), if_neg (ramps_iff.not.mpr steady)] at act
    exact State.takeHandOff_act agree once named act nofun

/-- A channel with another target that was not OFF (R101, R102, R108). -/
theorem State.takeHandOff_some {p : Chan × Level} (hp : p ∈ ts) (some : p.2 ≠ 0) :
    let w : Switching := { s.sw[p.1] with target := p.2 }
    ((∃ reason, w.state = .hold reason) ∨ w.state = .faulted ∨ w.state = .locked → (s.takeHandOff ts).sw[p.1] = w) ∧
    (w.state = .on ∨ w.state = .ending ∨ w.state = .fading → (s.takeHandOff ts).sw[p.1] =
      { headed s.ret.channels[p.1] s.runCount w p.2 with state := .on }) ∧
    (w.state = .queued → (s.takeHandOff ts).sw[p.1] = w ∨
      (s.takeHandOff ts).sw[p.1].state = .on ∧ (s.takeHandOff ts).sw[p.1].admStamp = s.runCount) := by
  intro w
  obtain ⟨named, target, given⟩ := State.named_of_mem (s := s) once hp
  have act := State.handAct_some once (target ▸ some : s.targetsWith ts p.1 ≠ 0)
  rw [given, target] at act
  refine ⟨fun rests => State.takeHandOff_act agree once named (a := ⟨w, s.faults[p.1], false, .stay⟩) ?_ ?_,
    fun driven => State.takeHandOff_act agree once named (a := ⟨{ headed (s.chan p.1) s.runCount w p.2 with state := .on },
      s.faults[p.1], false, .stay⟩) ?_ nofun, fun queued => ?_⟩
  · rw [act]
    obtain ⟨reason, h⟩ | h | h := rests <;> rw [show s.sw[p.1].state = _ from h]
  · obtain ⟨reason, h⟩ | h | h := rests <;> rw [h] <;> nofun
  · rw [act]
    obtain h | h | h := driven <;> rw [show s.sw[p.1].state = _ from h]
  · rw [show s.sw[p.1].state = _ from queued] at act
    exact State.takeHandOff_act_or_on agree once named act

/-- A channel that was OFF and has another target makes the tests (R103). -/
theorem State.takeHandOff_rises {p : Chan × Level} (hp : p ∈ ts) (some : p.2 ≠ 0) (off : s.sw[p.1].state = .off) :
    let w : Switching := { s.sw[p.1] with target := p.2 }
    (s.allOff = true → (s.takeHandOff ts).sw[p.1] = { w with state := .hold .allOff }) ∧
    (s.allOff = false → ¬s.minOffOver p.1 → (s.takeHandOff ts).sw[p.1] = { w with state := .hold .dwell }) ∧
    (s.allOff = false → s.minOffOver p.1 →
      (s.busyThrough (s.takeHandOff ts) p.1 → (s.takeHandOff ts).sw[p.1] = { w with state := .hold .group }) ∧
      (¬s.busyThrough (s.takeHandOff ts) p.1 → (s.takeHandOff ts).sw[p.1] = { w with state := .queued } ∨
        ((s.takeHandOff ts).sw[p.1].state = .on ∧ (s.takeHandOff ts).sw[p.1].admStamp = s.runCount))) := by
  intro w
  obtain ⟨named, target, given⟩ := State.named_of_mem (s := s) once hp
  have wanted : s.targetsWith ts p.1 ≠ 0 := target ▸ some
  obtain ⟨inForce, dwell, group, queued⟩ := State.takeHandOff_tests agree once wanted
  have act := State.handAct_some once wanted
  rw [given, target, off] at act
  dsimp only at act
  have holds {reason : HoldReason} (held : (s.lowering ts).eligibility p.1 = .hold reason) :
      (s.takeHandOff ts).sw[p.1] = { w with state := .hold reason } := by
    rw [held] at act
    exact State.takeHandOff_act agree once named act nofun
  refine ⟨fun force => holds (inForce force), fun out runs => holds (dwell out runs),
    fun out due => ⟨fun busy => holds (group out due busy), fun free => ?_⟩⟩
  rw [queued.mpr ⟨out, due, free⟩] at act
  exact State.takeHandOff_act_or_on agree once named act

/-! ### The rest of the part -/

/-- The fault records: the clean-run timers stop and start with the drive (R129, R131). -/
theorem State.takeHandOff_faults (ch : Chan) : (s.takeHandOff ts).faults[ch] =
    if s.sw[ch].state = .on ∧ (s.takeHandOff ts).sw[ch].state = .off
    then { s.faults[ch] with cleanRunning := false, filterTime := 0 }
    else if (s.takeHandOff ts).sw[ch].state = .on ∧ s.sw[ch].state.driven = false
    then { s.faults[ch] with cleanRunning := true } else s.faults[ch] := by
  obtain ⟨gone, rest, event⟩ := s.takeHandOff_event ts
  have after : (s.passed ts).SwitchingAgrees := agree.handOff once
  have drops := State.takeHandOff_off agree once ch
  have faults : (s.takeHandOff ts).faults[ch] = _ := event.faults_getElem after.once ch
  rw [faults, State.passed_faults once agree.applied]
  simp only [drops]
  by_cases admitted : ch ∈ gone.map (·.chan)
  · have queued := (after.queued ch).mp (event.waited admitted)
    have on : (s.takeHandOff ts).sw[ch].state = .on := (event.on admitted).1
    have undriven : s.sw[ch].state.driven = false := by
      obtain waited | off := (State.passed_queued once agree.applied queued).2
      · rw [waited]; rfl
      · rw [off]; rfl
    have stays : ¬(s.sw[ch].state = .on ∧ (s.passed ts).sw[ch].state = .off) := by
      rw [queued]
      exact fun off => nomatch off.2
    rw [if_pos admitted, if_neg stays, if_neg stays, if_pos ⟨on, undriven⟩]
  · have same : (s.takeHandOff ts).sw[ch] = (s.passed ts).sw[ch] := (event.still admitted).1
    have starts : ¬((s.takeHandOff ts).sw[ch].state = .on ∧ s.sw[ch].state.driven = false) := fun ⟨on, undriven⟩ => by
      have driven := State.passed_driven once agree.applied (ch := ch) (by rw [← same, on]; rfl)
      rw [undriven] at driven
      cases driven
    rw [if_neg admitted, if_neg starts]

/-- The changeover stamps (R105). -/
theorem State.takeHandOff_gaps (g : Group) : (s.takeHandOff ts).gapStamps[g.idx] =
    if ∃ ch : Chan, s.ret.channels[ch].group = some g ∧ s.sw[ch].state = .on ∧ (s.takeHandOff ts).sw[ch].state = .off
    then ⟨s.runCount, false⟩ else s.gapStamps[g.idx] := by
  simp only [State.takeHandOff_gapStamps agree once, State.takeHandOff_off agree once]
  exact State.passed_gaps once agree.applied g

theorem State.takeHandOff_announces : Announces s (s.takeHandOff ts) := by
  obtain ⟨gone, rest, event⟩ := s.takeHandOff_event ts
  have after : (s.passed ts).SwitchingAgrees := agree.handOff once
  refine event.announces (State.passed_flags once agree.applied) (fun e he on => ?_)
    (by rw [State.passed_frame once agree.applied])
  have queued := (after.queued e.chan).mp (event.waited (List.mem_map_of_mem he))
  obtain waited | off := (State.passed_queued once agree.applied queued).2
  · rw [waited] at on
    cases on
  · rw [off] at on
    cases on

/-- The queue of a hand-off in ascending order (R107 to R109). -/
theorem State.takeHandOff_queueTakes (ascending : (ts.map (·.1)).Pairwise (· < ·)) :
    QueueTakes s (s.kept ts) (fun ch => (∃ p ∈ ts, p.1 = ch ∧ p.2 ≠ 0) ∧ s.sw[ch].state = .off ∧ s.allOff = false ∧
      s.minOffOver ch ∧ ¬s.busyThrough (s.takeHandOff ts) ch) (s.takeHandOff ts) := by
  refine Requeues.queueTakes (f := (State.passed · ts)) (agree.passed_requeues ascending) fun ch => ?_
  rw [State.entering_chans, List.mem_filter, State.rises, decide_eq_true_iff]
  have raised : ch ∈ s.raised ts ↔ ∃ p ∈ ts, p.1 = ch ∧ p.2 ≠ 0 := by
    rw [State.mem_raised, List.mem_map]
    constructor
    · rintro ⟨⟨p, hp, rfl⟩, some⟩
      exact ⟨p, hp, rfl, State.targetsWith_mem once hp ▸ some⟩
    · rintro ⟨p, hp, rfl, some⟩
      exact ⟨⟨p, hp, rfl⟩, State.targetsWith_mem (s := s) once hp ▸ some⟩
  rw [← raised]
  refine and_congr_right fun high => and_congr_right fun _ => ?_
  exact (State.takeHandOff_tests agree once (State.mem_raised.mp high).2).2.2.2

end HandOff

/-- Settles O42: the hand-off is the event of its two passes on the part with the hand-off taken. -/
theorem aHandOffIsTakenWhole : Obligations.AHandOffIsTakenWhole := by
  intro s ts rest running handed agrees
  have left (us) (later : us ∈ rest) : (us.map (·.1)).Nodup := agrees.handOffs us (handed ▸ List.mem_cons_of_mem _ later)
  have once : (ts.map (·.1)).Nodup := agrees.handOffs ts (handed ▸ List.mem_cons_self)
  have agree : State.SwitchingAgrees { s with mail := { s.mail with handOffs := rest } } :=
    agrees.of_eq rfl rfl agrees.counts rfl id left
  have taken : s.takeOldestHandOff = { s with mail := { s.mail with handOffs := rest } }.takeHandOff ts := by
    rw [State.takeOldestHandOff, handed]
  refine ⟨_, next_whileRunning running taken, ?_⟩
  intro dropped busy target kept
  have dropped_iff (ch : Chan) : dropped ch = true ↔ s.sw[ch].state = .on ∧
      ({ s with mail := { s.mail with handOffs := rest } }.takeHandOff ts).sw[ch].state = .off := by
    rw [Bool.and_eq_true, decide_eq_true_iff, decide_eq_true_iff]
  refine ⟨fun ch other apart => ?_, fun p hp zero => ?_, fun p hp some => ?_, fun ascending => ?_, fun ch g member drops => ?_,
    fun g stays => ?_, fun ch => ?_, ?_, ?_⟩
  · have unnamed : ch ∉ ts.map (·.1) := fun named => by
      obtain ⟨p, hp, same⟩ := List.mem_map.mp named
      exact other p hp same
    have unqueued : s.sw[ch].state ≠ .queued := fun queued => by
      obtain ⟨e, he, same⟩ := List.mem_map.mp ((agrees.queued ch).mpr queued)
      exact apart e he same
    have record := State.passed_sw once agree.applied ch
    rw [if_neg unnamed] at record
    exact (State.takeHandOff_still agree once (by rw [record]; exact unqueued)).trans record
  · obtain ⟨rests, waits⟩ := State.takeHandOff_zero agree once hp zero
    exact ⟨rests, waits, fun on => State.takeHandOff_ends agree once hp zero on⟩
  · obtain ⟨rests, driven, queued⟩ := State.takeHandOff_some agree once hp some
    exact ⟨rests, driven, queued, fun off => State.takeHandOff_rises agree once hp some off⟩
  · exact State.takeHandOff_queueTakes agree once ascending
  · exact (State.takeHandOff_gaps agree once g).trans (if_pos ⟨ch, member, (dropped_iff ch).mp drops⟩)
  · refine (State.takeHandOff_gaps agree once g).trans (if_neg ?_)
    rintro ⟨ch, member, drops⟩
    exact Bool.false_ne_true ((stays ch member).symm.trans ((dropped_iff ch).mpr drops))
  · refine (State.takeHandOff_faults agree once ch).trans (if_congr (dropped_iff ch).symm rfl rfl)
  · obtain ⟨flags, reports⟩ := State.takeHandOff_announces agree once
    exact ⟨flags, reports⟩
  · have frame := State.takeHandOff_frame agree once
    rw [← State.takeHandOff_gapStamps agree once] at frame
    exact frame

end Sys2Proof.Machine
end

section
/-! OVERCURRENT_REPORT (R130, R137): the count, the lock and the FAULT flag of the fault are made first, and the drop of the drive is
then the sequencer's own. -/

namespace Sys2Proof.Machine

/-! ### The fault and the drop -/

theorem State.drop_setLock (ch : Chan) (b : Bool) (s : State) : (s.setLock ch b).drop ch = (s.drop ch).setLock ch b := by
  rw [State.drop_eq, State.drop_eq]
  rfl

/-- The FAULT flag may be raised before the drive is cut. -/
theorem State.drop_goTo_raiseFault {ch : Chan} {st : SwState} {s : State} (moves : s.sw[ch].state ≠ st) :
    ((s.drop ch).goTo ch st).raiseFault ch = ((s.raiseFault ch).drop ch).goTo ch st := by
  rw [State.drop_goTo moves, State.drop_goTo (s := s.raiseFault ch) moves]
  rfl

/-- The part with a channel's fault counted and stamped, the count capped at the retry limit plus one (R130). -/
def State.counted (ch : Chan) (s : State) : State :=
  s.setFault ch { s.faults[ch] with
    count := raisedCount s.faults[ch].count (s.chan ch).retry, stamp := some s.runCount }

/-- A fault takes its channel to LOCKED with the lock set, or to FAULTED, by the count (R130). -/
theorem State.restOrLock_counted (ch : Chan) (s : State) : ((s.counted ch).drop ch).restOrLock ch =
    if (s.chan ch).retry.val < raisedCount s.faults[ch].count (s.chan ch).retry
    then (((s.counted ch).setLock ch true).drop ch).goTo ch .locked else ((s.counted ch).drop ch).goTo ch .faulted := by
  have count : ((s.counted ch).drop ch).faults[ch].count = raisedCount s.faults[ch].count (s.chan ch).retry := by
    rw [State.drop_eq, set_getElem_self, State.counted, State.setFault_faults, set_getElem_self]
  have chan : ((s.counted ch).drop ch).chan ch = s.chan ch := by rw [State.drop_eq]; rfl
  rw [State.restOrLock, count, chan, State.drop_setLock]

/-! ### The report -/

section Report

variable {s : State} {ch : Chan}

theorem State.takeOvercurrent_undriven (undriven : s.sw[ch].state.driven = false) : s.takeOvercurrent ch = s :=
  if_neg (by rw [undriven]; exact Bool.false_ne_true)

/-- The report of a driven channel is its drop, from the part with the fault counted, whatever state the count takes it to
(R130, R137). -/
theorem State.takeOvercurrent_rests {u : State} {st : SwState} (drives : s.sw[ch].state.driven = true)
    (level : s.sw[ch].applied ≠ 0) (rests : ((s.counted ch).drop ch).restOrLock ch = (u.drop ch).goTo ch st)
    (queue : u.queue = s.queue) (channels : u.ret.channels = s.ret.channels) (sw : u.sw = s.sw)
    (moves : s.sw[ch].state ≠ st) : s.takeOvercurrent ch = (u.raiseFault ch).dropped ch st := by
  rw [← sw] at level moves
  have taken : s.takeOvercurrent ch =
      sequencerEvent (fun s => (((s.counted ch).drop ch).restOrLock ch).raiseFault ch) s := if_pos drives
  rw [taken, ← sequencerEvent_dropped (f := fun u => (u.drop ch).goTo ch st) (s := u.raiseFault ch) rfl moves level]
  refine sequencerEvent_shift ?_ queue channels fun c => by rw [← sw]; rfl
  rw [rests, State.drop_goTo_raiseFault moves]

/-- A count above the retry limit locks the channel (R130). -/
theorem State.takeOvercurrent_locks (drives : s.sw[ch].state.driven = true) (level : s.sw[ch].applied ≠ 0)
    (above : (s.chan ch).retry.val < raisedCount s.faults[ch].count (s.chan ch).retry) :
    s.takeOvercurrent ch = (((s.counted ch).setLock ch true).raiseFault ch).dropped ch .locked :=
  State.takeOvercurrent_rests drives level ((s.restOrLock_counted ch).trans (if_pos above)) rfl rfl rfl
    fun locked => by rw [locked] at drives; cases drives

/-- A count within the retry limit leaves it to be retried (R130, R132). -/
theorem State.takeOvercurrent_faults (drives : s.sw[ch].state.driven = true) (level : s.sw[ch].applied ≠ 0)
    (within : ¬(s.chan ch).retry.val < raisedCount s.faults[ch].count (s.chan ch).retry) :
    s.takeOvercurrent ch = ((s.counted ch).raiseFault ch).dropped ch .faulted :=
  State.takeOvercurrent_rests drives level ((s.restOrLock_counted ch).trans (if_neg within)) rfl rfl rfl
    fun faulted => by rw [faulted] at drives; cases drives

end Report

/-- Settles O49, by whether the output is driven and whether the count exceeds the retry limit. -/
theorem anOvercurrentFaultsOrLocks : Obligations.AnOvercurrentFaultsOrLocks := by
  intro s ch running
  refine ⟨fun undriven => next_whileRunning running (State.takeOvercurrent_undriven undriven), fun drives level => ?_⟩
  intro limit count locks u ret
  have faults : (s.counted ch).faults.set ch { (s.counted ch).faults[ch] with cleanRunning := false, filterTime := 0 } =
      s.faults.set ch ⟨0, count, some s.runCount, false⟩ := by
    rw [State.counted, State.setFault_faults, set_getElem_self, Vector.set_set]
    rfl
  refine next_whileRunning running ?_
  by_cases above : limit < count
  · have locked : locks = true := decide_eq_true above
    rw [State.takeOvercurrent_locks drives level above]
    simp only [u, ret, locked, if_true, ← faults]
    rfl
  · have unlocked : locks = false := decide_eq_false above
    rw [State.takeOvercurrent_faults drives level above]
    simp only [u, ret, unlocked, Bool.false_eq_true, if_false, ← faults]
    rfl

end Sys2Proof.Machine
end

section
/-! RETRY_TIMER_EXPIRY, CLEAN_RUN_EXPIRY and CLEAR FAULT (R131, R132, R134, R207): a fault is forgiven, and its channel handed back
to OFF or to the eligibility tests. -/

namespace Sys2Proof.Machine

/-! ### The hand-back (R132, R134) -/

section HandBack

variable {s v : State} {ch : Chan}

theorem State.handBack_eq (ch : Chan) (v : State) : v.handBack ch =
    if v.sw[ch].target = 0 then v.moved ch .off else (v.moved ch .off).testEligible ch := by
  have target : (v.goTo ch .off).sw[ch].target = v.sw[ch].target := by rw [State.goTo_sw, if_pos rfl]
  rw [State.handBack, target]
  rfl

/-- An event that hands back an undriven channel of a part with the same groups, queue and driven channels. -/
theorem sequencerEvent_handsBack {f : State → State} (change : f s = v.handBack ch) (queue : v.queue = s.queue)
    (channels : v.ret.channels = s.ret.channels) (sw : v.sw = s.sw) (undriven : s.sw[ch].applied = 0) :
    (s.sw[ch].target = 0 → sequencerEvent f s = v.moved ch .off) ∧
    (s.sw[ch].target ≠ 0 → TakesTests (v.moved ch .off) ch (sequencerEvent f s)) := by
  rw [State.handBack_eq, sw] at change
  have driven (c : Chan) : (v.moved ch .off).sw[c].applied = 0 ↔ s.sw[c].applied = 0 := by
    rw [State.moved_driven, sw]
  have shifted {g : State → State} (same : f s = g (v.moved ch .off)) :
      sequencerEvent f s = sequencerEvent g (v.moved ch .off) :=
    sequencerEvent_shift same (by rw [State.moved_frame]; exact queue) (by rw [State.moved_frame]; exact channels) driven
  constructor
  · intro zero
    rw [if_pos zero] at change
    exact (shifted (g := id) change).trans (sequencerEvent_still id rfl)
  · intro wanted
    rw [if_neg wanted] at change
    rw [shifted change]
    exact sequencerEvent_takesTests rfl ((driven ch).mpr undriven)

end HandBack

/-! ### The two timers -/

/-- The retry timer of a channel with a fault stamp, as a proposition (R132). -/
theorem State.retryElapsed_iff {s : State} {ch : Chan} {stamp : RunCount} (stamped : s.faults[ch].stamp = some stamp) :
    s.retryElapsed ch = true ↔ s.sw[ch].state = .faulted ∧ 50 ≤ (s.runCount - stamp).toNat := by
  rw [State.retryElapsed, stamped, Bool.and_eq_true, decide_eq_true_iff]
  exact and_congr_right fun _ => elapsed_iff ..

/-- The clean-run timer, as a proposition (R131). -/
theorem State.cleanElapsed_iff (s : State) (ch : Chan) : s.cleanElapsed ch = true ↔
    s.faults[ch].cleanRunning = true ∧ 600 ≤ (s.runCount - s.sw[ch].admStamp).toNat := by
  rw [State.cleanElapsed, Bool.and_eq_true]
  exact and_congr_right fun _ => elapsed_iff ..

/-! ### CLEAR FAULT -/

section ClearFault

variable {s : State} {c : Byte} {ch : Chan}

theorem readChan_val (named : c.toNat = ch.val) : readChan [c] = .ok ch := readChanByte_val named 0

theorem exec_clearFault (held : s.holds 0x35 [c]) (named : c.toNat = ch.val) :
    exec .clearFault s = .next ((s.clearFault ch).answered 0x35 .ok []) :=
  next_complete held (by rw [checked_ok (readChan_val named)]; rfl)

/-- The part with a channel's fault count cleared (R134). -/
def State.forgiven (ch : Chan) (s : State) : State := s.setFault ch { s.faults[ch] with count := 0 }

theorem State.clearFault_unlocked (unlocked : s.sw[ch].state ≠ .locked) : s.clearFault ch = s.forgiven ch :=
  if_neg unlocked

theorem State.clearFault_locked (locked : s.sw[ch].state = .locked) :
    s.clearFault ch = sequencerEvent (fun s => (s.setLock ch false).handBack ch) (s.forgiven ch) :=
  if_pos locked

end ClearFault

/-- Settles O50, row by row: whether the timer has elapsed, and whether the channel is LOCKED. -/
theorem faultsAreRetriedAndCleared : Obligations.FaultsAreRetriedAndCleared := by
  refine ⟨fun s ch stamp running undriven stamped => ⟨fun faulted late => ?_, fun early => ?_⟩, fun s ch running => ?_,
    fun s c ch held named => ?_⟩
  · have taken : exec (.retryTimerExpiry ch) s = .next (sequencerEvent (State.handBack ch) s) :=
      next_whileRunning running (if_pos ((State.retryElapsed_iff stamped).mpr ⟨faulted, late⟩))
    obtain ⟨rests, tests⟩ := sequencerEvent_handsBack (f := State.handBack ch) (v := s) rfl rfl rfl rfl undriven
    exact ⟨fun zero => taken.trans (congrArg _ (rests zero)), fun wanted => ⟨_, taken, tests wanted⟩⟩
  · exact next_whileRunning running (if_neg ((State.retryElapsed_iff stamped).not.mpr early))
  · exact next_whileRunning running (if_congr (s.cleanElapsed_iff ch) rfl rfl)
  · intro u
    have taken := exec_clearFault held named
    refine ⟨fun unlocked => ?_, fun locked undriven => ?_⟩
    · rw [taken, State.clearFault_unlocked unlocked]
      rfl
    · intro ret v
      rw [State.clearFault_locked locked] at taken
      obtain ⟨rests, tests⟩ := sequencerEvent_handsBack (f := fun s => (s.setLock ch false).handBack ch)
        (s := s.forgiven ch) (v := (s.forgiven ch).setLock ch false) rfl rfl rfl rfl undriven
      exact ⟨fun zero => by rw [taken, rests zero]; rfl, fun wanted => ⟨_, taken, tests wanted⟩⟩

end Sys2Proof.Machine
end

section
/-! The ways out of RUNNING (R127, R155, R157, R160, R217): a fall of VDD, an asserted RST#, RESTART and FACTORY CLEAR, and what a
part that is not RUNNING drives. -/

namespace Sys2Proof.Machine

/-! ### Supply levels and RST# (R155, R157) -/

/-- The part with its supplies at new levels, before they are judged. -/
def State.supplied (vdd vbat : Nat) (s : State) : State := { s with sup := { s.sup with vdd := vdd, vbat := vbat } }

/-- A part that is RUNNING or STARTING judges its levels where VDD falls below 4.2 V alone (R155). -/
theorem State.takeLevels_powered {s : State} (powered : s.sup.state = .running ∨ s.sup.state = .starting) (vdd vbat : Nat) :
    s.takeLevels vdd vbat =
      if vdd < 4200 then (s.supplied vdd vbat).enterRetention.judgeLevels else s.supplied vdd vbat := by
  unfold State.takeLevels
  dsimp only
  split
  case h_1 | h_2 => rfl
  case h_3 state | h_4 state => simp [state] at powered

/-- A domain that keeps its power is judged by the marker and the qualification measurement (R155, R156). -/
theorem State.judgeLevels_kept {s : State} (kept : 1800 ≤ s.sup.backupSupply) : s.judgeLevels = { s with sup := { s.sup with
    backupLost := s.sup.backupLost || decide (s.sup.backupSupply < 2000), qualifying := s.sup.qualifies } } :=
  if_neg (Nat.not_lt.mpr kept)

/-- VDD below 4.4 V does not qualify (R155). -/
theorem Supervisor.qualifies_low {u : Supervisor} (low : u.vdd < 4400) : u.qualifies = false :=
  Bool.and_eq_false_iff.mpr (.inl (decide_eq_false (Nat.not_le.mpr low)))

/-- A fall of VDD to a level that leaves the backup domain its power (R155 to R157). -/
theorem State.takeLevels_falls {s : State} (powered : s.sup.state = .running ∨ s.sup.state = .starting) {vdd vbat : Nat}
    (falls : vdd < 4200) (kept : 1800 ≤ max vdd vbat) : s.takeLevels vdd vbat = { s.goDark with sup := { s.sup with
      state := .retention, vdd := vdd, vbat := vbat, qualifying := false
      backupLost := s.sup.backupLost || decide (max vdd vbat < 2000) } } := by
  let u := (s.supplied vdd vbat).enterRetention
  have low : u.sup.vdd < 4400 := falls.trans (by decide)
  rw [State.takeLevels_powered powered, if_pos falls, State.judgeLevels_kept (s := u) kept, Supervisor.qualifies_low low]
  rfl

/-- VDD at or above 4.2 V leaves such a part as it is (R155). -/
theorem State.takeLevels_stands {s : State} (powered : s.sup.state = .running ∨ s.sup.state = .starting) {vdd : Nat}
    (stands : 4200 ≤ vdd) (vbat : Nat) : s.takeLevels vdd vbat = s.supplied vdd vbat := by
  rw [State.takeLevels_powered powered, if_neg (Nat.not_lt.mpr stands)]

/-- RST# takes such a part to RETENTION (R155, R157). -/
theorem State.assertReset_powered {s : State} (powered : s.sup.state = .running ∨ s.sup.state = .starting) :
    s.assertReset = { s.goDark with
      sup := { s.sup with state := .retention, rstAsserted := true, qualifying := false } } := by
  unfold State.assertReset
  dsimp only
  split
  case h_1 | h_2 => rfl
  case h_3 state | h_4 state => simp [state] at powered

/-! ### RESTART and FACTORY CLEAR (R160, R217) -/

section Start

variable {s : State} {code : Byte} {ps : List Byte}

theorem State.beginStart_eq (cold : Bool) (s : State) : s.beginStart cold = { s.goDark with sup := { s.sup with
    state := .starting, startingFor := 0, qualifying := false, coldRequest := s.sup.coldRequest || cold } } := rfl

theorem readNone_nil : readNone [] = .ok () := rfl

/-- The first surplus parameter is at index 0 (R187). -/
theorem readNone_surplus (surplus : ps ≠ []) : readNone ps = .error 0 := by
  rw [readNone, if_neg surplus, lengthIndex, Nat.min_zero]

/-- Without parameters the command begins a start, and makes no response (R160). -/
theorem takeStart_begins (held : s.holds code []) (cold : Bool) : takeStart code cold s = s.beginStart cold := by
  simp only [takeStart, State.slot_of_holds held, readNone_nil]

/-- With parameters it is refused (R217). -/
theorem takeStart_refused (held : s.holds code ps) (surplus : ps ≠ []) (cold : Bool) :
    takeStart code cold s = s.answered code .badParameter [0] := by
  simp only [takeStart, State.slot_of_holds held, readNone_surplus surplus]
  rfl

end Start

/-! ### What is driven (R127, R178) -/

section Dark

variable {s : State}

theorem State.drive_dark (dark : s.sup.state ≠ .running) (ch : Chan) : s.drive ch = 0 := if_neg dark

theorem State.attn_dark (dark : s.sup.state ≠ .running) : s.attn = false := by
  rw [State.attn, decide_eq_false dark, Bool.false_and]

theorem State.drive_running (running : s.sup.state = .running) (ch : Chan) : s.drive ch =
    match s.ret.channels[ch].kind with
    | .switch => if s.sw[ch].applied = 0 then 0 else 15
    | .dimmed => s.sw[ch].applied := if_pos running

end Dark

/-- Settles O52, by the four ways out of RUNNING and what the part drives in and out of it. -/
theorem leavingRunningStopsThePart : Obligations.LeavingRunningStopsThePart := by
  refine ⟨fun s mv powered falls kept => congrArg _ (State.takeLevels_falls powered falls kept),
    fun s powered => congrArg _ (State.assertReset_powered powered), fun s mv powered stands => ?_,
    fun s params => ⟨fun held => ⟨fun none => ?_, fun surplus => congrArg _ (takeStart_refused held surplus false)⟩,
      fun held => ⟨fun none => ?_, fun surplus => congrArg _ (takeStart_refused held surplus true)⟩⟩,
    fun s ch => ⟨fun dark => ⟨State.drive_dark dark ch, State.attn_dark dark⟩, fun running => ?_⟩⟩
  · have taken := State.takeLevels_stands powered stands s.sup.vbat
    exact ⟨congrArg _ taken, congrArg _ taken⟩
  · subst none
    refine congrArg _ ((takeStart_begins held false).trans ?_)
    rw [State.beginStart_eq, Bool.or_false]
    rfl
  · subst none
    refine congrArg _ ((takeStart_begins held true).trans ?_)
    rw [State.beginStart_eq, Bool.or_true]
    rfl
  · rw [State.drive_running running]
    exact ⟨fun dimmed => by rw [dimmed], fun switch => by rw [switch]⟩

end Sys2Proof.Machine
end

section
/-! The key panel (R142 to R151): what one sample makes of a key and of the requests it waits with, and the sample of the eight
keys, which do not touch one another. -/

namespace Sys2Proof.Machine

/-! ### Actions (R148, R149) -/

/-- The part with requests of a key handed on after those that wait. -/
def State.posting (k : KeyIdx) (rs : List KeyRequest) (s : State) : State :=
  { s with mail := { s.mail with keyRequests := s.mail.keyRequests.set k (s.mail.keyRequests[k] ++ rs) } }

theorem State.posting_nil (k : KeyIdx) (s : State) : s.posting k [] = s := by
  simp [State.posting]

/-- The requests of a key's short action: one, or none where the key is not bound (R148). -/
def State.shortRequests (k : KeyIdx) (s : State) : List KeyRequest :=
  (s.ret.bindings[k].map fun b => b.shortAction k s.results).toList

/-- A short action hands on the one request of its binding, and none where the key is not bound (R148). -/
theorem State.shortAction_eq (k : KeyIdx) (s : State) : s.shortAction k =
    s.posting k (s.shortRequests k) := by
  unfold State.shortAction State.shortRequests
  cases s.ret.bindings[k] with
  | none => exact (s.posting_nil k).symm
  | some b => rfl

/-- A long action hands on a release, and nothing where the key is not bound (R149). -/
theorem State.longAction_eq (k : KeyIdx) (s : State) : s.longAction k =
    s.posting k (s.ret.bindings[k].map fun b => KeyRequest.release b.channels).toList := by
  unfold State.longAction
  cases s.ret.bindings[k] with
  | none => exact (s.posting_nil k).symm
  | some b => rfl

theorem anyTarget_iff (results : Vector Resolution 16) (cs : ChanSet) :
    anyTarget results cs = true ↔ ∃ ch : Chan, cs.getLsbD ch.val = true ∧ results[ch].target ≠ 0 := by
  simp [anyTarget]

/-! ### One sample of one key (R142, R144, R145) -/

/-- The sample is the third in a row to disagree with the debounced level (R142). -/
def KeyRec.flips (r : KeyRec) (reading : Bool) : Bool := decide (reading ≠ r.down ∧ 2 ≤ r.count)

theorem KeyRec.opposite_of_flips {r : KeyRec} {reading : Bool} (flips : r.flips reading = true) : reading = !r.down :=
  Bool.eq_not.mpr (of_decide_eq_true flips).1

/-- The key is PRESSED (R143). -/
def KeyState.isPressed (st : KeyState) : Bool :=
  match st with
  | .pressed _ => true
  | _ => false

/-- The sample is the recognised release of a PRESSED key (R145). -/
def KeyRec.taps (r : KeyRec) (reading : Bool) : Bool :=
  r.flips reading && r.down && r.state.isPressed

/-- The key record as the debouncer leaves it (R142). -/
def KeyRec.debounced (r : KeyRec) (reading : Bool) : KeyRec :=
  { r with
    down := if r.flips reading then !r.down else r.down
    count := if reading = r.down ∨ r.flips reading = true then 0 else r.count + 1 }

/-- The key record after a sample, on a panel locked or not, at a run count (R142, R144, R145). -/
def KeyRec.sampled (r : KeyRec) (reading locked : Bool) (now : RunCount) : KeyRec :=
  { r.debounced reading with
    state :=
      if r.flips reading = false then r.state
      else if r.down = true then .idle
      else if r.state = .idle ∧ locked = false then .pressed now
      else r.state }

theorem debounce_eq (r : KeyRec) (reading : Bool) : debounce r reading = (r.debounced reading, r.flips reading) := by
  unfold debounce
  by_cases agrees : reading = r.down
  · simp [KeyRec.debounced, KeyRec.flips, agrees]
  · by_cases early : r.count < 2
    · simp [KeyRec.debounced, KeyRec.flips, agrees, early]
    · have opposite : reading = !r.down := Bool.eq_not.mpr agrees
      simp [KeyRec.debounced, KeyRec.flips, opposite, early, Nat.le_of_not_lt early]

/-- What a sample of a key hands on (R145, R148). -/
def State.tapRequests (k : KeyIdx) (reading : Bool) (s : State) : List KeyRequest :=
  if s.keys[k].taps reading = false then [] else s.shortRequests k

/-! ### Recognition (R144, R145) -/

/-- A key record replaced and its state then changed is a key record replaced. -/
theorem State.setKey_setKeyState (k : KeyIdx) (r : KeyRec) (st : KeyState) (s : State) :
    (s.setKey k r).setKeyState k st = s.setKey k { r with state := st } := by
  simp [State.setKeyState, State.setKey]

/-- A recognised press starts the hold timer of an IDLE key on an unlocked panel (R144). -/
theorem State.recognisePress_setKey (k : KeyIdx) (r : KeyRec) (s : State) : (s.setKey k r).recognisePress k =
    s.setKey k { r with state :=
      if r.state = .idle ∧ s.ret.panelLocked = false then .pressed s.runCount else r.state } := by
  unfold State.recognisePress
  rw [State.setKey_keys, set_getElem_self, State.setKey_ret]
  obtain ⟨down, count, state⟩ := r
  cases state with
  | idle =>
    cases s.ret.panelLocked with
    | true => rfl
    | false => exact State.setKey_setKeyState ..
  | pressed since => rfl
  | long => rfl

/-- A recognised release takes every key to IDLE, a PRESSED one with its short action (R145, R148). -/
theorem State.recogniseRelease_setKey (k : KeyIdx) (r : KeyRec) (s : State) : (s.setKey k r).recogniseRelease k =
    (s.posting k (if r.state.isPressed = false then [] else s.shortRequests k)).setKey k { r with state := .idle } := by
  unfold State.recogniseRelease
  rw [State.setKey_keys, set_getElem_self]
  obtain ⟨down, count, state⟩ := r
  cases state with
  | pressed since =>
    rw [State.shortAction_eq]
    exact State.setKey_setKeyState k _ _ (s.posting k (s.shortRequests k))
  | long =>
    refine (State.setKey_setKeyState ..).trans ?_
    exact congrArg (State.setKey k _) (s.posting_nil k).symm
  | idle => exact congrArg (State.setKey k _) (s.posting_nil k).symm

/-- A sample of one key replaces its record and hands on what its short action asks (R142, R144, R145, R148). -/
theorem State.sampleKey_eq (k : KeyIdx) (reading : Bool) (s : State) : s.sampleKey k reading =
    (s.posting k (s.tapRequests k reading)).setKey k (s.keys[k].sampled reading s.ret.panelLocked s.runCount) := by
  rw [State.sampleKey, debounce_eq, State.tapRequests, KeyRec.taps, KeyRec.sampled]
  cases flips : s.keys[k].flips reading with
  | false => exact congrArg (State.setKey k _) (s.posting_nil k).symm
  | true =>
    have opposite := KeyRec.opposite_of_flips flips
    cases down : s.keys[k].down with
    | false =>
      obtain rfl : reading = true := by rw [opposite, down, Bool.not_false]
      refine (State.recognisePress_setKey ..).trans ?_
      exact congrArg (State.setKey k _) (s.posting_nil k).symm
    | true =>
      obtain rfl : reading = false := by rw [opposite, down, Bool.not_true]
      exact State.recogniseRelease_setKey ..

/-! ### The eight keys -/

/-- What a sample of the keys of a list, each taken once, leaves of the part (R142, R144, R145, R151). -/
structure State.KeysSampled (s t : State) (pressed : BitVec 8) (ks : List KeyIdx) : Prop where
  keys : ∀ k : KeyIdx, t.keys[k] =
    if k ∈ ks then s.keys[k].sampled (pressed.getLsbD k.val) s.ret.panelLocked s.runCount else s.keys[k]
  requests : ∀ k : KeyIdx, t.mail.keyRequests[k] =
    s.mail.keyRequests[k] ++ if k ∈ ks then s.tapRequests k (pressed.getLsbD k.val) else []
  frame : t = { s with keys := t.keys, mail := { s.mail with keyRequests := t.mail.keyRequests } }

theorem State.KeysSampled.nil (s : State) (pressed : BitVec 8) : s.KeysSampled s pressed [] where
  keys k := by simp
  requests k := by simp
  frame := rfl

/-- The sample of a key leaves the other keys, their requests, and what they ask as they were. -/
theorem State.sampleKey_other {j k : KeyIdx} (other : j ≠ k) (reading : Bool) (s : State) :
    (s.sampleKey k reading).keys[j] = s.keys[j] ∧
    (s.sampleKey k reading).mail.keyRequests[j] = s.mail.keyRequests[j] ∧
    ∀ reading', (s.sampleKey k reading).tapRequests j reading' = s.tapRequests j reading' := by
  have record : (s.sampleKey k reading).keys[j] = s.keys[j] := by
    rw [State.sampleKey_eq]
    exact set_getElem_ne s.keys _ other
  refine ⟨record, ?_, fun reading' => ?_⟩
  · rw [State.sampleKey_eq]
    exact set_getElem_ne s.mail.keyRequests _ other
  · rw [State.tapRequests, record, State.sampleKey_eq]
    rfl

/-- One more key takes its sample, before the others. -/
theorem State.KeysSampled.cons {s t : State} {pressed : BitVec 8} {k : KeyIdx} {ks : List KeyIdx}
    (sampled : (s.sampleKey k (pressed.getLsbD k.val)).KeysSampled t pressed ks) (fresh : k ∉ ks) :
    s.KeysSampled t pressed (k :: ks) := by
  have taken := s.sampleKey_eq k (pressed.getLsbD k.val)
  refine ⟨fun j => ?_, fun j => ?_, ?_⟩
  · by_cases own : j = k
    · subst own
      rw [sampled.keys, if_neg fresh, if_pos List.mem_cons_self, taken]
      exact set_getElem_self ..
    · obtain ⟨record, -, -⟩ := State.sampleKey_other own (pressed.getLsbD k.val) s
      rw [sampled.keys, record, taken]
      exact if_congr (by simp [own]) rfl rfl
  · by_cases own : j = k
    · subst own
      rw [sampled.requests, if_neg fresh, if_pos List.mem_cons_self, List.append_nil, taken]
      exact set_getElem_self ..
    · obtain ⟨-, waiting, asked⟩ := State.sampleKey_other own (pressed.getLsbD k.val) s
      rw [sampled.requests, waiting, asked]
      exact congrArg _ (if_congr (by simp [own]) rfl rfl)
  · have frame := sampled.frame
    rw [taken] at frame
    exact frame

/-- The keys of a list take their samples one after another. -/
theorem State.KeysSampled.foldl (pressed : BitVec 8) (ks : List KeyIdx) (once : ks.Nodup) : ∀ s : State,
    s.KeysSampled (ks.foldl (fun s k => s.sampleKey k (pressed.getLsbD k.val)) s) pressed ks := by
  induction ks with
  | nil => exact fun s => .nil s pressed
  | cons k ks ih =>
    obtain ⟨fresh, rest⟩ := List.nodup_cons.mp once
    exact fun s => (ih rest _).cons fresh

/-- A sample of the panel is a sample of each key (R141). -/
theorem State.keySample_sampled (pressed : BitVec 8) (s : State) :
    s.KeysSampled (s.keySample pressed) pressed (List.finRange 8) :=
  .foldl pressed _ (List.nodup_finRange 8) s

/-! ### The hold timer (R143, R146) -/

theorem KeyState.heldLong_iff (st : KeyState) (now : RunCount) :
    st.heldLong now = true ↔ ∃ since, st = .pressed since ∧ 20 ≤ (now - since).toNat := by
  cases st with
  | pressed since => simp [KeyState.heldLong, elapsed_iff, Config.holdTime]
  | idle | long => simp [KeyState.heldLong]

/-- A key held long enough goes to LONG with its long action (R146, R149). -/
theorem State.holdExpiry_held {k : KeyIdx} {s : State} (held : s.keys[k].state.heldLong s.runCount = true) :
    s.holdExpiry k = (s.posting k (s.ret.bindings[k].map fun b => KeyRequest.release b.channels).toList).setKey k
      { s.keys[k] with state := .long } := by
  rw [State.holdExpiry, if_pos held, State.longAction_eq]
  rfl

/-! ### The statement -/

/-- The request of a short action, by the action of the binding (R148). -/
theorem Binding.shortAction_eq (b : Binding) (k : KeyIdx) (results : Vector Resolution 16) : b.shortAction k results =
    match b.action with
    | .on => KeyRequest.create ⟨.key k, b.level, b.channels, b.duration⟩
    | .off => .create ⟨.key k, 0, b.channels, b.duration⟩
    | .toggle => .create ⟨.key k,
        if ∃ ch : Chan, b.channels.getLsbD ch.val = true ∧ results[ch].target ≠ 0 then 0 else b.level,
        b.channels, b.duration⟩
    | .release => .release b.channels := by
  obtain ⟨action, channels, level, duration⟩ := b
  cases action with
  | on | off | release => rfl
  | toggle =>
    exact congrArg (fun l => KeyRequest.create ⟨.key k, l, channels, duration⟩)
      (if_congr (anyTarget_iff results channels) rfl rfl)

/-- Settles O51, key by key: what a sample makes of each, and whether the hold timer has elapsed. -/
theorem keysAreDebouncedAndAct : Obligations.KeysAreDebouncedAndAct := by
  refine ⟨fun s pressed running => ?_, fun s k running => ⟨fun since state late => ?_, fun early => ?_⟩⟩
  · intro flips taps
    have panel := s.keySample_sampled pressed
    refine ⟨_, next_whileRunning running rfl, fun k => ?_, fun k => ?_, panel.frame⟩
    · rw [panel.keys, if_pos (List.mem_finRange k)]
      exact ⟨rfl, rfl, rfl⟩
    · rw [panel.requests, if_pos (List.mem_finRange k)]
      have short := funext fun b : Binding => b.shortAction_eq k s.results
      exact congrArg (s.mail.keyRequests[k] ++ ·)
        (if_congr Iff.rfl rfl (congrArg (fun f => (s.ret.bindings[k].map f).toList) short))
  · have held := (KeyState.heldLong_iff ..).mpr ⟨since, state, late⟩
    exact next_whileRunning running (State.holdExpiry_held held)
  · refine next_whileRunning running (if_neg fun held => ?_)
    obtain ⟨since, state, late⟩ := (KeyState.heldLong_iff ..).mp held
    exact Nat.not_lt.mpr late (early since state)

end Sys2Proof.Machine
end

section
/-! The settings replaced whole by a command of the host (R147, R150, R178, R213 to R215). -/

namespace Sys2Proof.Machine

/-- The completion of a command whose parameters pass their checks and whose owner answers OK without a payload (R172). -/
theorem next_setting {α : Type} {code : Byte} {ps : List Byte} {read : List Byte → Except Nat α} {a : α} {s : State}
    (change : α → State → State) (held : s.holds code ps) (passes : read ps = .ok a) :
    (Host.Outcome.next (complete code (fun ps s => checked (read ps) s fun a => answerOk (change a s) []) s) :
      Host.Outcome State Fault Refusal) = .next ((change a s).answered code .ok []) :=
  next_complete held (by rw [checked_ok passes]; rfl)

/-- A policy's byte is 0 for KEEP and 1 for DROP; any other fails at index 0 (R215). -/
theorem readResumePolicy_byte (b : Byte) :
    readResumePolicy [b] = if b = 0 then .ok .keep else if b = 1 then .ok .drop else .error 0 := rfl

theorem exec_setResumePolicy {s : State} {b : Byte} {p : ResumePolicy} (held : s.holds 0x52 [b])
    (passes : readResumePolicy [b] = .ok p) :
    exec .setResumePolicy s = .next ((s.setRet { s.ret with resume := p }).answered 0x52 .ok []) :=
  next_setting (fun p s => s.setRet { s.ret with resume := p }) held passes

/-- Locking an unlocked panel returns every key to IDLE (R150). -/
theorem State.setPanelLock_locks {s : State} {locked : Bool} (locks : locked = true ∧ s.ret.panelLocked = false) :
    s.setPanelLock locked = { s.setRet { s.ret with panelLocked := locked } with
      keys := tab fun k => { s.keys[k] with state := .idle } } :=
  if_pos (by simp [locks])

/-- Any other setting of the lock leaves the keys (R150). -/
theorem State.setPanelLock_keeps {s : State} {locked : Bool} (keeps : ¬(locked = true ∧ s.ret.panelLocked = false)) :
    s.setPanelLock locked = s.setRet { s.ret with panelLocked := locked } :=
  if_neg (by simpa using keeps)

theorem exec_setPanelLock {s : State} {b : Byte} (held : s.holds 0x4A [b]) :
    exec .setPanelLock s = .next ((s.setPanelLock (b.getLsbD 0)).answered 0x4A .ok []) :=
  next_setting (read := readByte) (fun b s => s.setPanelLock (b.getLsbD 0)) held rfl

/-- Settles O34, command by command. -/
theorem settingsReplaceTheirItem : Obligations.SettingsReplaceTheirItem := by
  refine ⟨fun s b held => ⟨fun keep => ?_, fun drop => ?_, fun notKeep notDrop => ?_⟩, fun s m0 m1 held => ?_,
    fun s params k b held passes => ?_, fun s b held => ⟨fun locks => ?_, fun keeps => ?_⟩⟩
  · exact exec_setResumePolicy held ((readResumePolicy_byte b).trans (if_pos keep))
  · subst drop
    exact exec_setResumePolicy held rfl
  · have fails : readResumePolicy [b] = .error 0 := by rw [readResumePolicy_byte, if_neg notKeep, if_neg notDrop]
    exact next_complete held (by rw [checked_error fails]; rfl)
  · exact next_setting (read := readMask) (fun m s => s.setRet { s.ret with mask := m }) held rfl
  · exact next_setting (fun (k, b) s => s.bindKey k b) held passes
  · refine ⟨_, fun k => tab_getElem _ k, ?_⟩
    rw [exec_setPanelLock held, State.setPanelLock_locks locks]
    rfl
  · rw [exec_setPanelLock held, State.setPanelLock_keeps keeps]
    rfl

end Sys2Proof.Machine
end

section
/-! The supplies in RETENTION and in OFF (R155, R156): the levels judged, the measurement of the qualification, and the backup domain
lost and powered up again. -/

namespace Sys2Proof.Machine

section Levels

variable {s : State} {vdd vbat : Nat}

/-! ### Levels taken, by the state of the supervisor -/

/-- RETENTION judges whatever levels it takes (R155, R156). -/
theorem State.takeLevels_retention (retention : s.sup.state = .retention) (vdd vbat : Nat) :
    s.takeLevels vdd vbat = (s.supplied vdd vbat).judgeLevels := by
  unfold State.takeLevels
  dsimp only
  split
  case h_3 => rfl
  case h_1 state | h_2 state | h_4 state => exact nomatch state.symm.trans retention

/-- In OFF new levels power the backup domain up where either reaches 1.8 V (R156). -/
theorem State.takeLevels_off (off : s.sup.state = .off) (vdd vbat : Nat) : s.takeLevels vdd vbat =
    if max vdd vbat < 1800 then s.supplied vdd vbat else (s.supplied vdd vbat).powerUp := by
  unfold State.takeLevels
  dsimp only
  split
  case h_4 => rfl
  case h_1 state | h_2 state | h_3 state => exact nomatch state.symm.trans off

/-- A domain with both supplies below 1.8 V loses its power (R156). -/
theorem State.judgeLevels_lost (lost : s.sup.backupSupply < 1800) : s.judgeLevels = s.loseDomain := if_pos lost

/-- RETENTION judges levels that leave the domain its power: the marker below 2.0 V, and the measurement (R155, R156). -/
theorem State.takeLevels_retained (retention : s.sup.state = .retention) (kept : 1800 ≤ max vdd vbat) :
    s.takeLevels vdd vbat = { s with sup := { s.sup with
      vdd := vdd, vbat := vbat
      backupLost := s.sup.backupLost || decide (max vdd vbat < 2000)
      qualifying := decide (4400 ≤ vdd) && !s.sup.rstAsserted } } := by
  rw [State.takeLevels_retention retention, State.judgeLevels_kept (s := s.supplied vdd vbat) kept]
  rfl

/-- Out of OFF, levels that are both below 1.8 V take the domain's power, in the dark that a fall of VDD brings first (R156,
R157). -/
theorem State.takeLevels_lost (on : s.sup.state ≠ .off) (low : vdd < 1800) (low' : vbat < 1800) :
    ∃ u : State, s.takeLevels vdd vbat = u.loseDomain ∧ u.att = s.att ∧ u.sw = s.sw ∧ u.faults = s.faults ∧
      u.queue = s.queue ∧ u.sup.vdd = vdd ∧ u.sup.vbat = vbat ∧ u.sup.coldRequest = s.sup.coldRequest := by
  have lost : max vdd vbat < 1800 := Nat.max_lt.mpr ⟨low, low'⟩
  have falls : vdd < 4200 := low.trans (by decide)
  cases hs : s.sup.state with
  | running | starting =>
    refine ⟨(s.supplied vdd vbat).enterRetention, ?_, rfl, rfl, rfl, rfl, rfl, rfl, rfl⟩
    rw [State.takeLevels_powered (by simp [hs]), if_pos falls]
    exact State.judgeLevels_lost lost
  | retention =>
    refine ⟨s.supplied vdd vbat, ?_, rfl, rfl, rfl, rfl, rfl, rfl, rfl⟩
    rw [State.takeLevels_retention hs]
    exact State.judgeLevels_lost lost
  | off => exact absurd hs on

/-! ### RST# and the qualification (R155) -/

theorem State.assertReset_retention (retention : s.sup.state = .retention) :
    s.assertReset = { s with sup := { s.sup with rstAsserted := true, qualifying := false } } := by
  unfold State.assertReset
  simp only [retention]

theorem State.releaseReset_retention (retention : s.sup.state = .retention) : s.releaseReset =
    { s with sup := { s.sup with rstAsserted := false, qualifying := decide (4400 ≤ s.sup.vdd) } } := by
  unfold State.releaseReset
  simp only [retention, Supervisor.qualifies, Bool.not_false, Bool.and_true]
  rfl

theorem State.releaseReset_other (other : s.sup.state ≠ .retention) :
    s.releaseReset = { s with sup := { s.sup with rstAsserted := false } } := by
  unfold State.releaseReset
  dsimp only
  split
  · contradiction
  all_goals rfl

theorem State.qualified_measured (retention : s.sup.state = .retention) (measured : s.sup.qualifying = true) :
    s.qualified = { s with sup := { s.sup with state := .starting, startingFor := 0, qualifying := false } } :=
  if_pos ⟨retention, measured⟩

theorem State.qualified_other (other : s.sup.state ≠ .retention) : s.qualified = s := if_neg fun h => other h.1

end Levels

/-- Settles O53, by the state of the supervisor in which the levels are taken. -/
theorem retentionJudgesTheSupplies : Obligations.RetentionJudgesTheSupplies := by
  refine ⟨fun s mv retention kept => ?_, fun s retention => ⟨?_, ?_, fun measured => ?_⟩, fun s other => ⟨?_, ?_⟩,
    fun s vbat => ⟨fun retention kept => ?_, fun powered stands => ?_⟩, fun s vdd vbat on low low' => ?_,
    fun s vdd vbat off => ⟨fun some => ?_, fun low low' => ?_⟩⟩
  · have taken := State.takeLevels_retained retention kept
    exact ⟨congrArg _ taken, congrArg _ taken, congrArg _ taken⟩
  · exact congrArg _ (State.assertReset_retention retention)
  · exact congrArg _ (State.releaseReset_retention retention)
  · exact congrArg _ (State.qualified_measured retention measured)
  · exact congrArg _ (State.qualified_other other)
  · exact congrArg _ (State.releaseReset_other other)
  · exact congrArg _ (State.takeLevels_retained retention kept)
  · exact congrArg _ (State.takeLevels_stands powered stands vbat)
  · obtain ⟨u, taken, att, sw, faults, queue, vdd', vbat', cold⟩ := State.takeLevels_lost on low low'
    exact ⟨u.loseDomain, congrArg _ taken, rfl, vdd', vbat', cold, att, sw, faults, queue⟩
  · refine congrArg _ ((State.takeLevels_off off vdd vbat).trans ((if_neg ?_).trans rfl))
    omega
  · exact congrArg _ ((State.takeLevels_off off vdd vbat).trans (if_pos (Nat.max_lt.mpr ⟨low, low'⟩)))

end Sys2Proof.Machine
end

section
/-! The retained check value (R159): every operation leaves the retained store and its check value as they are, or writes the store
through `State.setRet`, which brings the check value up to date with it. -/

namespace Sys2Proof.Machine

/-- The retained check value is that of the store as it stands (R159). -/
def State.CheckCurrent (s : State) : Prop := s.check = ⟨s.ret⟩

/-! ### Shapes of operations -/

theorem State.setRet_checkCurrent (r : Retained) (s : State) : (s.setRet r).CheckCurrent := rfl

theorem State.CheckCurrent.ite {p : Prop} [Decidable p] {a b : State} (ha : a.CheckCurrent) (hb : b.CheckCurrent) :
    (if p then a else b).CheckCurrent := by
  split <;> assumption

theorem State.CheckCurrent.foldl {α : Type} {f : State → α → State} {s : State} (current : s.CheckCurrent)
    (step : ∀ s a, State.CheckCurrent s → (f s a).CheckCurrent) (l : List α) : (l.foldl f s).CheckCurrent :=
  List.foldlRecOn l f current fun s before a _ => step s a before

section Operations

variable {s : State} (current : s.CheckCurrent)
include current

/-- What the sequencer does with one channel touches neither (R98 to R116). -/
theorem State.CheckCurrent.of_act {t : State} {ch : Chan} {a : Act} (act : t = s.act ch a) : t.CheckCurrent := by
  rw [act]
  exact current

/-! ### Time -/

theorem State.CheckCurrent.tick : s.tick.CheckCurrent := by
  by_cases off : s.sup.state = .off
  · rwa [State.tick_off off]
  cases replaced : s.stepReplaced with
  | true =>
    rw [State.tick_replaced off replaced]
    exact current
  | false =>
    by_cases last : s.cal = .last
    · rw [State.tick_rollover off replaced last]
      rfl
    · rw [State.tick_inside off replaced last]
      exact current

omit current in
theorem State.evaluateTable_checkCurrent (p : Present) (s : State) : (s.evaluateTable p).CheckCurrent := by
  rw [State.evaluateTable_eq]
  rfl

theorem State.CheckCurrent.takeOldestBoundary : s.takeOldestBoundary.CheckCurrent := by
  unfold State.takeOldestBoundary
  split
  · exact current
  · exact State.evaluateTable_checkCurrent ..

theorem State.CheckCurrent.takeBoundaries : s.takeBoundaries.CheckCurrent :=
  State.CheckCurrent.foldl (s := { s with mail := { s.mail with boundaries := [] } }) current
    (fun _ _ _ => State.evaluateTable_checkCurrent ..) _

/-! ### The tables -/

omit current in
theorem State.setPrograms_checkCurrent (t : Vector ProgSlot 96) (s : State) : (s.setPrograms t).CheckCurrent := by
  rw [State.setPrograms_eq]
  rfl

omit current in
/-- Every change of one program slot ends with the epoch's step (R38). -/
theorem State.advanceEpoch_checkCurrent (n : Nat) (s : State) : (s.advanceEpoch n).CheckCurrent :=
  State.setRet_checkCurrent ..

theorem State.CheckCurrent.takeOldestGateReport : s.takeOldestGateReport.CheckCurrent := by
  unfold State.takeOldestGateReport
  split
  · exact current
  · exact State.setPrograms_checkCurrent ..

theorem State.CheckCurrent.enableProgram (i : ProgIdx) (r : ProgRec) : (s.enableProgram i r).CheckCurrent :=
  .ite (State.advanceEpoch_checkCurrent ..) current

theorem State.CheckCurrent.disableProgram (i : ProgIdx) (r : ProgRec) : (s.disableProgram i r).CheckCurrent :=
  .ite current (State.advanceEpoch_checkCurrent ..)

omit current in
theorem State.endOverrides_checkCurrent (t : Vector OvrSlot 16) (s : State) : (s.endOverrides t).CheckCurrent := by
  rw [State.endOverrides_eq]
  rfl

omit current in
/-- A creation writes the table, whether or not it finds a FREE slot (R48). -/
theorem State.createOverride_checkCurrent (c : Creation) (s : State) : (s.createOverride c).CheckCurrent := by
  unfold State.createOverride
  dsimp only
  split
  · rw [State.request_eq]
    rfl
  · rfl

theorem State.CheckCurrent.expireOverride (i : OvrIdx) : (s.expireOverride i).CheckCurrent := by
  unfold State.expireOverride
  split
  · exact .ite (State.endOverrides_checkCurrent ..) current
  · exact current

theorem State.CheckCurrent.takeOldestVerdicts : s.takeOldestVerdicts.CheckCurrent := by
  unfold State.takeOldestVerdicts
  split
  · exact current
  · exact State.endOverrides_checkCurrent ..

theorem State.CheckCurrent.takeOldestCreation (k : KeyIdx) : (s.takeOldestCreation k).CheckCurrent := by
  unfold State.takeOldestCreation
  split
  · exact State.createOverride_checkCurrent ..
  all_goals exact current

theorem State.CheckCurrent.takeOldestRelease (k : KeyIdx) : (s.takeOldestRelease k).CheckCurrent := by
  unfold State.takeOldestRelease
  split
  · exact State.endOverrides_checkCurrent ..
  all_goals exact current

/-! ### Gates, keys and the resolver -/

theorem State.CheckCurrent.changeGate (g : GateIdx) (w : GateWork) : (s.changeGate g w).CheckCurrent := by
  rw [State.changeGate_eq]
  exact current

theorem State.CheckCurrent.converterRound (a0 a1 a2 a3 : Byte) (completed : Fin 5) :
    (s.converterRound a0 a1 a2 a3 completed).CheckCurrent :=
  current.foldl (fun _ _ before => before.changeGate ..) _

theorem State.CheckCurrent.keySample (pressed : BitVec 8) : (s.keySample pressed).CheckCurrent :=
  current.foldl (fun s k before => by rw [State.sampleKey_eq]; exact before) _

theorem State.CheckCurrent.holdExpiry (k : KeyIdx) : (s.holdExpiry k).CheckCurrent := by
  refine .ite ?_ current
  rw [State.longAction_eq]
  exact current

omit current in
theorem State.setPanelLock_checkCurrent (locked : Bool) (s : State) : (s.setPanelLock locked).CheckCurrent := .ite rfl rfl

theorem State.CheckCurrent.resolve (sc : Scope) : (s.resolve sc).CheckCurrent := by
  rw [State.resolve_eq]
  exact current

theorem State.CheckCurrent.takeRequestAt (place : Nat) : (s.takeRequestAt place).CheckCurrent := by
  unfold State.takeRequestAt
  split
  · exact current
  · rw [State.takeRequest]
    refine State.CheckCurrent.resolve ?_ _
    exact current

theorem State.CheckCurrent.takeLevelsAt (place : Nat) : (s.takeLevelsAt place).CheckCurrent := by
  unfold State.takeLevelsAt
  split
  · exact current
  · rw [State.takeLevelReport]
    refine State.CheckCurrent.resolve ?_ _
    exact current

omit current in
theorem State.setFallback_checkCurrent (ch : Chan) (l : Level) (s : State) : (s.setFallback ch l).CheckCurrent :=
  (State.setRet_checkCurrent ..).resolve _

omit current in
theorem State.configureChannel_checkCurrent (ch : Chan) (kind : ChanKind) (group : Option Group) (cls : QueueClass)
    (s : State) : (s.configureChannel ch kind group cls).CheckCurrent :=
  .ite rfl ((State.setRet_checkCurrent ..).resolve _)

end Operations

end Sys2Proof.Machine
end

section
/-! The retained check value through the sequencer and the output stage, whose events write the store where a lock or a setting
changes alone (R159). -/

namespace Sys2Proof.Machine

/-! ### Events -/

/-- An event's admissions and its report touch neither the store nor its check value. -/
theorem State.CheckCurrent.sequencerEvent {f : State → State} {s : State} (change : (f s).CheckCurrent) :
    (sequencerEvent f s).CheckCurrent := by
  obtain ⟨gone, rest, event⟩ := sequencerEvent_admits f s
  rw [event.frame]
  exact change

section Operations

variable {s : State} (current : s.CheckCurrent)
include current

theorem State.CheckCurrent.admitDue : s.admitDue.CheckCurrent := by
  obtain ⟨gone, rest, admitted⟩ := s.admitDue_tested
  rw [admitted.admits, State.admitEach_frame]
  exact current

theorem State.CheckCurrent.retest (test : State → Chan → Bool) (chs : List Chan) : (s.retest test chs).CheckCurrent :=
  current.foldl (fun s ch before => .ite (before.of_act (s.testEligible_act ch)) before) chs

theorem State.CheckCurrent.takeHandOff (ts : List (Chan × Level)) : (s.takeHandOff ts).CheckCurrent := by
  have recorded : (s.recordTargets ts).CheckCurrent := by
    refine current.foldl (fun s p before => ?_) ts
    exact before
  have lowered : ((s.recordTargets ts).passZero ts).CheckCurrent :=
    recorded.foldl (fun s p before => .ite (before.of_act (s.targetZero_act p.1)) before) ts
  exact .sequencerEvent
    (lowered.foldl (fun s p before => .ite before (before.of_act (s.targetNonZero_act p.1 p.2))) ts)

theorem State.CheckCurrent.takeOldestHandOff : s.takeOldestHandOff.CheckCurrent := by
  unfold State.takeOldestHandOff
  split
  · exact current
  · refine State.CheckCurrent.takeHandOff ?_ _
    exact current

theorem State.CheckCurrent.staggerExpiry : s.staggerExpiry.CheckCurrent := .sequencerEvent current.admitDue

theorem State.CheckCurrent.endGap (g : Group) : (s.endGap g).CheckCurrent := .ite (current.retest ..) current

theorem State.CheckCurrent.markLongPast (t : LongPastTimer) : (s.markLongPast t).CheckCurrent := by
  cases t <;> exact .ite current current

/-! ### Changed lengths -/

omit current in
theorem State.setStagger_checkCurrent (interval : Byte) (s : State) : (s.setStagger interval).CheckCurrent :=
  (State.setRet_checkCurrent ..).staggerExpiry

omit current in
theorem State.configureGroup_checkCurrent (g : Group) (gap : Byte) (s : State) : (s.configureGroup g gap).CheckCurrent :=
  .ite rfl (.sequencerEvent ((State.setRet_checkCurrent ..).endGap g))

theorem State.CheckCurrent.retime (ch : Chan) (old : ChanRec) : (s.retime ch old).CheckCurrent := by
  have minOn : (if (s.chan ch).minOn < old.minOn then s.endMinOn ch else s).CheckCurrent :=
    .ite (current.of_act (s.endMinOn_act ch)) current
  have minOff {u : State} (before : u.CheckCurrent) :
      (if (s.chan ch).minOff < old.minOff then u.endMinOff ch else u).CheckCurrent :=
    .ite (before.of_act (u.endMinOff_act ch)) before
  have ramp {u : State} (before : u.CheckCurrent) : (u.retimeRamp ch (s.chan ch) old).CheckCurrent :=
    .ite (before.of_act (u.completeRamp_act ch)) (.ite (before.of_act (u.endRampStep_act ch)) before)
  exact ramp (minOff minOn)

omit current in
theorem State.setChannelTiming_checkCurrent (ch : Chan) (minOn minOff : Byte) (ramp : Fin 16) (retry : Fin 4) (s : State) :
    (s.setChannelTiming ch minOn minOff ramp retry).CheckCurrent :=
  .sequencerEvent ((State.setRet_checkCurrent ..).retime ch _)

/-! ### The ALL-OFF condition and faults -/

theorem State.CheckCurrent.enterAllOff : s.enterAllOff.CheckCurrent :=
  State.CheckCurrent.foldl (s := s.forcing) current (fun s ch before => before.of_act (s.forceOff_act ch)) _

omit current in
theorem State.CheckCurrent.allOffInput {f : State → State} (input : (f s).CheckCurrent) : (s.allOffInput f).CheckCurrent :=
  .sequencerEvent (.ite input (.ite input.enterAllOff (State.CheckCurrent.retest (s := (f s).raiseAllOff) input _ _)))

theorem State.CheckCurrent.takePin (asserted : Bool) : (s.takePin asserted).CheckCurrent := .allOffInput current

omit current in
theorem State.setLatch_checkCurrent (b : Bool) (s : State) : (s.setLatch b).CheckCurrent := .allOffInput rfl

theorem State.CheckCurrent.restOrLock (ch : Chan) : (s.restOrLock ch).CheckCurrent :=
  .ite ((State.setRet_checkCurrent ..).of_act (State.goTo_act ..)) (current.of_act (s.goTo_act ch .faulted))

theorem State.CheckCurrent.takeOvercurrent (ch : Chan) : (s.takeOvercurrent ch).CheckCurrent := by
  refine .ite (.sequencerEvent (State.CheckCurrent.restOrLock ?_ ch)) current
  rw [State.drop_eq]
  exact current

theorem State.CheckCurrent.handBack (ch : Chan) : (s.handBack ch).CheckCurrent := by
  have rests : (s.goTo ch .off).CheckCurrent := current.of_act (s.goTo_act ch .off)
  exact .ite rests (rests.of_act (State.testEligible_act ..))

theorem State.CheckCurrent.retryExpiry (ch : Chan) : (s.retryExpiry ch).CheckCurrent :=
  .ite (.sequencerEvent (current.handBack ch)) current

theorem State.CheckCurrent.cleanExpiry (ch : Chan) : (s.cleanExpiry ch).CheckCurrent := .ite current current

theorem State.CheckCurrent.clearFault (ch : Chan) : (s.clearFault ch).CheckCurrent :=
  .ite (.sequencerEvent ((State.setRet_checkCurrent ..).handBack ch)) current

/-! ### The host link -/

theorem State.CheckCurrent.endTransaction : s.endTransaction.CheckCurrent := by
  rw [State.endTransaction_frame]
  exact current

theorem State.CheckCurrent.riseMidFrame : s.riseMidFrame.CheckCurrent := by
  unfold State.riseMidFrame
  cases s.link.state with
  | receiving _ => exact current.endTransaction
  | idle | executing _ | ready _ => exact current

theorem State.CheckCurrent.nameTransaction {act : State → State} {n : Nat} (named : (act s).CheckCurrent) :
    (s.nameTransaction n act).CheckCurrent := by
  unfold State.nameTransaction
  split
  · exact .ite current named
  · exact current

theorem State.CheckCurrent.transact {act : State → State} (named : ∀ s, State.CheckCurrent s → (act s).CheckCurrent)
    (part : FirstByte) (n : Nat) : (transact part n act s).CheckCurrent := by
  have begun : s.beginTransaction.CheckCurrent := current.endTransaction
  refine .ite ?_ ?_
  · cases part with
    | whole => exact begun.nameTransaction (named _ begun)
    | begins => exact begun
    | taken => exact current.nameTransaction (named s current)
  · cases part <;> exact current

theorem State.CheckCurrent.receive (bytes : List Byte) : (s.receive bytes).CheckCurrent := by
  unfold State.receive
  split
  · exact current
  · exact current
  · refine .ite current ?_
    split
    · exact current
    · exact .ite current (.ite current current)

theorem State.CheckCurrent.nameCommand (bytes : List Byte) : (s.nameCommand bytes).CheckCurrent := by
  unfold State.nameCommand
  dsimp only
  split
  · refine State.CheckCurrent.receive ?_ bytes
    exact current
  all_goals exact current

end Operations

end Sys2Proof.Machine
end

section
/-! The retained check value through every row and every step (R159). A loss of the backup domain takes its meaning away until the
cold start that follows it (R156, R162, R163). -/

namespace Sys2Proof.Machine

/-! ### Host commands -/

/-- An answer of two arms leaves the check value current where both do. -/
theorem Answer.ite_checkCurrent {p : Prop} [Decidable p] {a b : Answer} (ha : a.state.CheckCurrent)
    (hb : b.state.CheckCurrent) : (if p then a else b).state.CheckCurrent := by
  split <;> assumption

section Commands

variable {s : State} (current : s.CheckCurrent)
include current

theorem State.CheckCurrent.complete {code : Byte} {owner : List Byte → State → Answer}
    (answers : ∀ ps, (owner ps s).state.CheckCurrent) : (complete code owner s).CheckCurrent := by
  unfold Machine.complete
  split
  · exact answers _
  · exact current

theorem State.CheckCurrent.checked {α : Type} {read : Except Nat α} {f : α → Answer}
    (answers : ∀ a, (f a).state.CheckCurrent) : (checked read s f).state.CheckCurrent := by
  cases read with
  | ok a => exact answers a
  | error index => exact current

theorem State.CheckCurrent.onProgram {n : Name 96} {f : ProgRec → Answer} (live : ∀ r, (f r).state.CheckCurrent) :
    (s.onProgram n f).state.CheckCurrent := by
  unfold State.onProgram
  cases s.namedProgram n with
  | stale | free => exact current
  | live r => exact live r

theorem State.CheckCurrent.onOverride {n : Name 16} {f : OvrRec → Answer} (live : ∀ r, (f r).state.CheckCurrent) :
    (s.onOverride n f).state.CheckCurrent := by
  unfold State.onOverride
  cases s.namedOverride n with
  | stale | free => exact current
  | live r => exact live r

theorem State.CheckCurrent.ownCreateProgram (ps : List Byte) : (ownCreateProgram ps s).state.CheckCurrent := by
  refine current.checked fun _ => Answer.ite_checkCurrent current ?_
  split
  · exact current
  · exact State.advanceEpoch_checkCurrent ..

theorem State.CheckCurrent.ownEditProgram (ps : List Byte) : (ownEditProgram ps s).state.CheckCurrent :=
  current.checked fun _ => current.onProgram fun _ =>
    Answer.ite_checkCurrent current (State.advanceEpoch_checkCurrent ..)

theorem State.CheckCurrent.ownReadProgram (ps : List Byte) : (ownReadProgram ps s).state.CheckCurrent := by
  refine current.checked fun n => ?_
  cases s.namedProgram n <;> exact current

theorem State.CheckCurrent.ownExtendOverride (ps : List Byte) : (ownExtendOverride ps s).state.CheckCurrent := by
  refine current.checked fun _ => current.onOverride fun r => ?_
  cases r.kind with
  | timed _ _ => exact State.advanceEpoch_checkCurrent ..
  | untilNext _ | latched => exact current

theorem State.CheckCurrent.ownReadOverrides (ps : List Byte) : (ownReadOverrides ps s).state.CheckCurrent := by
  refine current.checked fun q => ?_
  cases q with
  | page first => exact current
  | single n =>
    dsimp only
    cases s.namedOverride n <;> exact current

end Commands

/-! ### The supervisor's rows -/

section Supervisor

variable {s : State} (current : s.CheckCurrent)
include current

theorem State.CheckCurrent.assertReset : s.assertReset.CheckCurrent := by
  unfold State.assertReset
  dsimp only
  split <;> exact current

theorem State.CheckCurrent.releaseReset : s.releaseReset.CheckCurrent := by
  unfold State.releaseReset
  dsimp only
  split <;> exact current

theorem State.CheckCurrent.qualified : s.qualified.CheckCurrent := .ite current current

theorem State.CheckCurrent.takeStart (code : Byte) (cold : Bool) : (takeStart code cold s).CheckCurrent := by
  unfold Machine.takeStart
  split
  · split <;> exact current
  · exact current

end Supervisor

/-! ### The rows -/

/-- Every row but the end of a start and those that bring supply levels leaves a current check value current. -/
theorem exec_checkCurrent {c : Instr} {s t : State} (hr : remakesStore c = false) (current : s.CheckCurrent)
    (h : exec c s = .next t) : t.CheckCurrent := by
  have next {u : State} (left : u.CheckCurrent) (h : (Host.Outcome.next u : Host.Outcome State Fault Refusal) = .next t) :
      t.CheckCurrent := Host.Outcome.next.inj h ▸ left
  have event {f : State → State} (taken : (f s).CheckCurrent)
      (h : (Host.Outcome.next (whileRunning f s) : Host.Outcome State Fault Refusal) = .next t) : t.CheckCurrent :=
    next (.ite taken current) h
  have sequenced {f : State → State} (change : (f s).CheckCurrent)
      (h : (Host.Outcome.next (whileRunning (sequencerEvent f) s) : Host.Outcome State Fault Refusal) = .next t) :
      t.CheckCurrent := event (.sequencerEvent change) h
  have command {code : Byte} {owner : List Byte → State → Answer} (answers : ∀ ps, (owner ps s).state.CheckCurrent)
      (h : (Host.Outcome.next (complete code owner s) : Host.Outcome State Fault Refusal) = .next t) : t.CheckCurrent :=
    next (current.complete answers) h
  cases c with
  | startingEnd _ | vddFall _ | vddRise _ | backupSupplyFall _ | backupDomainLoss _ _ | backupDomainPowerUp _ _
  | vddBelowQualificationThreshold _ => simp [remakesStore, endsStart, bringsSupplyLevels] at hr
  | readTime | readGates | readChannel | explainChannel | readQueue | readKeyBinding | readAttention =>
    exact command (fun _ => current.checked fun _ => current) h
  | setResumePolicy | bindKey | setAttentionMask =>
    exact command (fun _ => current.checked fun _ => State.setRet_checkCurrent ..) h
  | calendarAdvance => exact next current.tick h
  | yearRollover => exact next (.ite (.ite current.tick.takeBoundaries current.tick) current) h
  | setTime stepDue => exact command (fun _ => current.checked fun _ => State.evaluateTable_checkCurrent ..) h
  | minuteBoundary => exact event current.takeOldestBoundary h
  | createProgram => exact command current.ownCreateProgram h
  | editProgram => exact command current.ownEditProgram h
  | readProgram => exact command current.ownReadProgram h
  | enableProgram =>
    exact command (fun _ => current.checked fun _ => current.onProgram fun _ => current.enableProgram ..) h
  | disableProgram =>
    exact command (fun _ => current.checked fun _ => current.onProgram fun _ => current.disableProgram ..) h
  | deleteProgram =>
    exact command (fun _ => current.checked fun _ => current.onProgram fun _ => State.advanceEpoch_checkCurrent ..) h
  | listPrograms => exact command (fun _ => current.checked fun _ => Answer.ite_checkCurrent current current) h
  | reResolutionRequest place => exact event (current.takeRequestAt place) h
  | verdictReport => exact event current.takeOldestVerdicts h
  | gateChangeReport => exact event current.takeOldestGateReport h
  | createOverride => exact command (fun _ => current.checked fun _ => State.createOverride_checkCurrent ..) h
  | creationRequest k => exact event (current.takeOldestCreation k) h
  | extendOverride => exact command current.ownExtendOverride h
  | cancelOverride =>
    exact command (fun _ => current.checked fun _ => current.onOverride fun _ => State.endOverrides_checkCurrent ..) h
  | releaseChannels => exact command (fun _ => current.checked fun _ => State.endOverrides_checkCurrent ..) h
  | release k => exact event (current.takeOldestRelease k) h
  | overrideExpiry i => exact event (current.expireOverride i) h
  | readOverrides => exact command current.ownReadOverrides h
  | converterRound a0 a1 a2 a3 completed => exact event (current.converterRound a0 a1 a2 a3 completed) h
  | configureGate =>
    exact command (fun _ => current.checked fun _ => (State.setRet_checkCurrent ..).changeGate ..) h
  | setGateMode =>
    exact command (fun _ => current.checked fun _ => Answer.ite_checkCurrent current (current.changeGate ..)) h
  | configureChannel =>
    exact command (fun _ => current.checked fun _ =>
      Answer.ite_checkCurrent (State.configureChannel_checkCurrent ..) current) h
  | setChannelTiming =>
    exact command (fun _ => current.checked fun _ =>
      Answer.ite_checkCurrent current (State.setChannelTiming_checkCurrent ..)) h
  | setFallback => exact command (fun _ => current.checked fun _ => State.setFallback_checkCurrent ..) h
  | configureGroup => exact command (fun _ => current.checked fun _ => State.configureGroup_checkCurrent ..) h
  | appliedLevelReport place => exact event (current.takeLevelsAt place) h
  | handOff => exact event current.takeOldestHandOff h
  | staggerExpiry => exact event current.staggerExpiry h
  | minOnExpiry ch => exact sequenced (current.of_act (s.endMinOn_act ch)) h
  | minOffExpiry ch => exact sequenced (current.of_act (s.endMinOff_act ch)) h
  | changeoverGapExpiry g => exact sequenced (current.endGap g) h
  | rampTimerExpiry ch => exact sequenced (current.of_act (s.endRampStep_act ch)) h
  | longPastMark m => exact event (current.markLongPast m) h
  | allOffPinChange asserted => exact event (current.takePin asserted) h
  | forceAllOff | releaseAllOff => exact command (fun _ => current.checked fun _ => State.setLatch_checkCurrent ..) h
  | setStagger => exact command (fun _ => current.checked fun _ => State.setStagger_checkCurrent ..) h
  | overcurrentReport ch => exact event (current.takeOvercurrent ch) h
  | retryTimerExpiry ch => exact event (current.retryExpiry ch) h
  | cleanRunExpiry ch => exact event (current.cleanExpiry ch) h
  | clearFault => exact command (fun _ => current.checked fun ch => current.clearFault ch) h
  | keySample pressed => exact event (current.keySample pressed) h
  | holdTimerExpiry k => exact event (current.holdExpiry k) h
  | setPanelLock => exact command (fun _ => current.checked fun _ => State.setPanelLock_checkCurrent ..) h
  | rstAssert => exact next current.assertReset h
  | rstRelease => exact next current.releaseReset h
  | supplyQualified => exact next current.qualified h
  | restart => exact next (current.takeStart 0x5E false) h
  | factoryClear => exact next (current.takeStart 0x5F true) h
  | status n part => exact next (current.transact (act := State.nameStatus n) (fun _ before => before) part n) h
  | command bytes part => exact next (current.transact (fun _ before => before.nameCommand bytes) part _) h
  | fetch n part => exact next (current.transact (act := State.nameFetch n) (fun _ before => before) part n) h
  | framing cause =>
    cases cause with
    | firstByte b part n =>
      exact next (.ite current (current.transact (act := State.nameNone n) (fun _ before => before) part n)) h
    | riseMidFrame => exact event current.riseMidFrame h
  | transactionEnd => exact event current.endTransaction h

/-! ### Supply levels and starts (R156, R162 to R164) -/

/-- RETENTION's judgement leaves the store of a domain that has its meaning after it. -/
theorem State.CheckCurrent.judgeLevels {s : State} (current : s.CheckCurrent) (m : s.judgeLevels.meaningful) :
    s.judgeLevels.CheckCurrent := by
  unfold State.judgeLevels at m ⊢
  split
  · rename_i lost
    rw [if_pos lost] at m
    exact absurd rfl m.1
  · exact current

/-- Supply levels leave the store of a domain that has its meaning after them. -/
theorem State.CheckCurrent.takeLevels {s : State} (current : s.CheckCurrent) {vdd vbat : Nat}
    (m : (s.takeLevels vdd vbat).meaningful) : (s.takeLevels vdd vbat).CheckCurrent := by
  cases hs : s.sup.state with
  | running | starting =>
    rw [State.takeLevels_powered (by simp [hs])] at m ⊢
    split
    · rename_i falls
      rw [if_pos falls] at m
      refine State.CheckCurrent.judgeLevels ?_ m
      exact current
    · exact current
  | retention =>
    rw [State.takeLevels_retention hs] at m ⊢
    refine State.CheckCurrent.judgeLevels ?_ m
    exact current
  | off =>
    rw [State.takeLevels_off hs]
    exact .ite current current

/-- A cold start computes the check value over the cold store, and a warm one over the store it has settled (R163, R164). -/
theorem State.CheckFollows.endStarting {s : State} (follows : s.CheckFollows) (pin : Bool) :
    (s.endStarting pin).CheckFollows := by
  unfold State.endStarting
  split
  · split
    · exact fun _ => rfl
    · obtain ⟨v, -, warmed⟩ := s.warmStart_eq pin
      rw [warmed]
      exact fun _ => rfl
  · exact follows

theorem exec_checkFollows {c : Instr} {s t : State} (follows : s.CheckFollows) (h : exec c s = .next t) :
    t.CheckFollows := by
  cases hr : remakesStore c with
  | false => exact fun m => exec_checkCurrent hr (follows (exec_meaningful hr h m)) h
  | true =>
    obtain supply | ends := (Bool.or_eq_true ..).mp hr
    · obtain ⟨vdd, vbat, rfl⟩ := exec_supplyLevels supply h
      exact fun m => State.CheckCurrent.takeLevels (follows (State.takeLevels_meaningful m).2) m
    · obtain ⟨pin, rfl⟩ := endsStart_iff.mp ends
      rw [← Host.Outcome.next.inj h]
      exact follows.endStarting pin

/-- Settles O6: a step is a row on the queue's rest, which the agreement does not speak of. -/
theorem everyStepKeepsTheCheckValue : Obligations.EveryStepKeepsTheCheckValue := by
  intro s t follows h
  unfold step at h
  split at h
  · rwa [← Host.Outcome.next.inj h]
  · rename_i c rest _
    exact exec_checkFollows (s := { s with pending := rest }) follows h

end Sys2Proof.Machine
end

section
/-! Outside RUNNING no event of another block and no host command is taken, and no transaction (R42, R61, R82, R124, R157, R158). -/

namespace Sys2Proof.Machine

section Dark

variable {s : State} (dark : s.sup.state ≠ .running)
include dark

/-- Outside RUNNING no command is found in EXECUTING (R172). -/
theorem State.slot_dark (code : Byte) : s.slot code = none := by
  cases found : s.slot code with
  | none => rfl
  | some ps => exact absurd (State.holds_of_slot found).1 dark

theorem complete_dark (code : Byte) (owner : List Byte → State → Answer) : complete code owner s = s :=
  complete_of_none owner (State.slot_dark dark code)

theorem takeStart_dark (code : Byte) (cold : Bool) : takeStart code cold s = s := by
  simp only [takeStart, State.slot_dark dark]

/-- A row that only a RUNNING part takes is an event or a completion, and changes nothing outside RUNNING. -/
theorem exec_dark {c : Instr} (guarded : takenWhileRunning c = true) : exec c s = .next s := by
  cases c with
  | minuteBoundary | reResolutionRequest _ | verdictReport | gateChangeReport | creationRequest _ | release _
  | overrideExpiry _ | converterRound _ _ _ _ _ | appliedLevelReport _ | handOff | staggerExpiry | minOnExpiry _
  | minOffExpiry _ | changeoverGapExpiry _ | rampTimerExpiry _ | longPastMark _ | allOffPinChange _ | overcurrentReport _
  | retryTimerExpiry _ | cleanRunExpiry _ | keySample _ | holdTimerExpiry _ | transactionEnd =>
    exact congrArg _ (whileRunning_other _ dark)
  | readTime | setTime _ | createProgram | editProgram | readProgram | enableProgram | disableProgram | deleteProgram
  | listPrograms | createOverride | extendOverride | cancelOverride | releaseChannels | readOverrides | setResumePolicy
  | configureGate | setGateMode | readGates | configureChannel | setChannelTiming | setFallback | configureGroup
  | readChannel | explainChannel | forceAllOff | releaseAllOff | setStagger | readQueue | clearFault | bindKey
  | readKeyBinding | setPanelLock | readAttention | setAttentionMask =>
    exact congrArg _ (complete_dark dark ..)
  | restart | factoryClear => exact congrArg _ (takeStart_dark dark ..)
  | framing cause =>
    cases cause with
    | firstByte _ _ _ => cases guarded
    | riseMidFrame => exact congrArg _ (whileRunning_other _ dark)
  | calendarAdvance | yearRollover | vddFall _ | rstAssert | rstRelease | vddRise _ | supplyQualified | backupSupplyFall _
  | backupDomainLoss _ _ | backupDomainPowerUp _ _ | startingEnd _ | status _ _ | command _ _ | fetch _ _
  | vddBelowQualificationThreshold _ => cases guarded

/-- Every byte of a transaction reads 0xFF outside RUNNING: the status byte, and those clocked after it where the row stands for
more than its first bit (R158). -/
theorem transact_dark_miso (part : FirstByte) (n : Nat) (act : State → State) : transact part n act s =
    { s with link := { s.link with miso := List.replicate (if part = .begins then 1 else n + 1) 0xFF } } := by
  rw [transact_dark part n act dark]
  cases part <;> rfl

end Dark

/-- Settles O4, by the guard of RUNNING on events and completions and by the transactions outside it. -/
theorem nothingIsTakenOutsideRunning : Obligations.NothingIsTakenOutsideRunning := by
  intro s dark
  refine ⟨fun c guarded => exec_dark dark guarded, fun part n bytes b => ?_⟩
  have deaf (further : Nat) (act : State → State) := congrArg (Host.Outcome.next (φ := Fault) (ρ := Refusal))
    (transact_dark_miso dark part further act)
  refine ⟨deaf n _, deaf n _, deaf bytes.length _, fun unnamed => ?_⟩
  have framing : ¬(b = 0x00 ∨ b = 0xC3 ∨ b = 0x3C) := by simpa [namesTransaction, and_assoc] using unnamed
  exact (congrArg _ (if_neg framing)).trans (deaf n _)

end Sys2Proof.Machine
end

section
/-! The end of a start (R161 to R163): the three causes of a cold start, the values it takes, and the state after reset, which is that
of a cold start. -/

namespace Sys2Proof.Machine

section Starts

variable {s : State}

/-- A cold start leaves the state after reset, but for the pin as sampled, the supervisor, what was shifted out, and the model's own
fields (R163). -/
theorem State.coldStart_eq (pin : Bool) (s : State) : s.coldStart pin = { State.reset with
    pinTaken := pin
    sup := { s.sup with state := .running, backupLost := false, coldRequest := false, startingFor := 0 }
    link := ⟨.idle, false, none, s.link.miso⟩
    freeCount := s.freeCount
    pending := s.pending } := rfl

/-- STARTING that has lasted its two steps ends, cold or warm (R161, R162). -/
theorem State.endStarting_ends (starting : s.sup.state = .starting) (lasted : 2 ≤ s.sup.startingFor) (pin : Bool) :
    s.endStarting pin = if s.startsCold then s.coldStart pin else s.warmStart pin := if_pos ⟨starting, lasted⟩

/-- Sooner, and in any other state, nothing ends (R161). -/
theorem State.endStarting_stands (stands : s.sup.state ≠ .starting ∨ s.sup.startingFor < 2) (pin : Bool) :
    s.endStarting pin = s :=
  if_neg fun ⟨starting, lasted⟩ => stands.elim (absurd starting) (Nat.not_lt.mpr lasted)

/-- Either mark brings a cold start, whatever the check gives (R162). -/
theorem State.startsCold_marked (marked : s.sup.backupLost = true ∨ s.sup.coldRequest = true) : s.startsCold = true := by
  rw [State.startsCold, (Bool.or_eq_true ..).mpr marked, Bool.true_or]

/-- With both marks clear the check decides (R162). -/
theorem State.startsCold_unmarked (kept : s.sup.backupLost = false) (unasked : s.sup.coldRequest = false) :
    s.startsCold = !s.checkAgrees := by
  rw [State.startsCold, kept, unasked, Bool.false_or, Bool.false_or]

/-- The check over another store gives what the collision gives (R159). -/
theorem State.checkAgrees_other (other : s.check.store ≠ s.ret) :
    s.checkAgrees = Config.checkCollides s.check.store s.ret := if_neg other

/-- A warm start writes the store, and so makes the check value afresh, before anything reads it (R164). -/
theorem State.warmStart_setRet (pin : Bool) (s : State) : (s.setRet s.ret).warmStart pin = s.warmStart pin := by
  have same : (s.setRet s.ret).resumed pin = s.resumed pin := rfl
  rw [State.warmStart, State.warmStart, State.resumed_eq, State.resumed_eq, same]

/-- With both marks clear and a check that agrees the start is warm, and the same for the check value of the store itself
(R162, R164). -/
theorem State.endStarting_agrees (starting : s.sup.state = .starting) (lasted : 2 ≤ s.sup.startingFor)
    (kept : s.sup.backupLost = false) (unasked : s.sup.coldRequest = false) (agrees : s.checkAgrees = true) (pin : Bool) :
    s.endStarting pin = (s.setRet s.ret).endStarting pin := by
  have warm {u : State} (sup : u.sup = s.sup) (agrees : u.checkAgrees = true) : u.endStarting pin = u.warmStart pin := by
    rw [← sup] at starting lasted kept unasked
    rw [State.endStarting_ends starting lasted, State.startsCold_unmarked kept unasked, agrees]
    rfl
  have current : (s.setRet s.ret).checkAgrees = true := if_pos rfl
  rw [warm rfl agrees, warm (u := s.setRet s.ret) rfl current, State.warmStart_setRet]

/-- Settles O54, by the three causes of a cold start. -/
theorem aColdStartTakesTheColdValues : Obligations.AColdStartTakesTheColdValues := by
  refine ⟨fun s pin starting lasted => ?_, fun s pin stands => congrArg _ (State.endStarting_stands stands pin)⟩
  intro cold
  have starts (isCold : s.startsCold = true) : exec (.startingEnd pin) s = .next cold :=
    congrArg _ ((State.endStarting_ends starting lasted pin).trans ((if_pos isCold).trans (s.coldStart_eq pin)))
  refine ⟨fun marked => starts (State.startsCold_marked marked),
    fun kept unasked other => ⟨fun fails => ?_, fun collides => ?_⟩⟩
  · refine starts ?_
    rw [State.startsCold_unmarked kept unasked, State.checkAgrees_other other, fails]
    rfl
  · have agrees : s.checkAgrees = true := (State.checkAgrees_other other).trans collides
    exact congrArg Host.Outcome.next (State.endStarting_agrees starting lasted kept unasked agrees pin)

end Starts

/-- Reset stands where a cold start that sampled the pin released has just ended (R163; notes/assumptions/1.md). -/
theorem State.reset_eq_coldStart : State.reset = State.reset.coldStart false := rfl

/-- Settles O12: what a cold start leaves meets every invariant. -/
theorem resetMeetsTheInvariants : Obligations.ResetMeetsTheInvariants := by
  rw [Obligations.ResetMeetsTheInvariants, State.reset_eq_coldStart]
  exact ⟨fun _ => rfl, fun _ => rfl, fun _ => State.coldStart_overridesApart false _,
    fun _ => State.coldStart_targetsAgree false _, fun _ => State.coldStart_switchingAgrees false _,
    fun _ => State.coldStart_gatesAgree false _⟩

end Sys2Proof.Machine
end

section
/-! Every row answers a next state, keeps the queue of waiting commands, and every completion but a start's is answered (R171,
R172). -/

namespace Sys2Proof.Machine

/-! ### The queue of waiting commands -/

theorem State.tick_pending (s : State) : s.tick.pending = s.pending := by
  by_cases off : s.sup.state = .off
  · rw [State.tick_off off]
  cases replaced : s.stepReplaced with
  | true => rw [State.tick_replaced off replaced]
  | false =>
    by_cases last : s.cal = .last
    · rw [State.tick_rollover off replaced last]
    · rw [State.tick_inside off replaced last]

theorem State.judgeLevels_pending (s : State) : s.judgeLevels.pending = s.pending :=
  ite_keepsView (view := State.pending) rfl rfl

theorem State.takeLevels_pending (vdd vbat : Nat) (s : State) : (s.takeLevels vdd vbat).pending = s.pending := by
  unfold State.takeLevels
  dsimp only
  split
  · exact ite_keepsView (view := State.pending) (State.judgeLevels_pending _) rfl
  · exact ite_keepsView (view := State.pending) (State.judgeLevels_pending _) rfl
  · exact State.judgeLevels_pending _
  · exact ite_keepsView (view := State.pending) rfl rfl

theorem State.assertReset_pending (s : State) : s.assertReset.pending = s.pending := by
  unfold State.assertReset
  dsimp only
  split <;> rfl

theorem State.releaseReset_pending (s : State) : s.releaseReset.pending = s.pending := by
  unfold State.releaseReset
  dsimp only
  split <;> rfl

theorem State.qualified_pending (s : State) : s.qualified.pending = s.pending := ite_keepsView rfl rfl

theorem takeStart_pending (code : Byte) (cold : Bool) (s : State) : (takeStart code cold s).pending = s.pending := by
  unfold takeStart
  split
  · split <;> rfl
  · rfl

theorem State.endStarting_pending (pin : Bool) (s : State) : (s.endStarting pin).pending = s.pending :=
  ite_keepsView (view := State.pending)
    (ite_keepsView (view := State.pending) rfl (congrArg TimeView.pending (s.warmStart_timeView pin))) rfl

/-- A SET TIME completed leaves the queue and the supervisor (R10). -/
theorem complete_setTime (stepDue : Bool) (s : State) :
    let t := complete 0x02 (fun ps s => checked (readSetTime ps) s fun v => answerOk (s.takeSetTime v stepDue) []) s
    t.pending = s.pending ∧ t.sup = s.sup := by
  unfold complete
  split
  · rename_i ps _
    beta_reduce
    cases readSetTime ps with
    | error index => exact ⟨rfl, rfl⟩
    | ok v =>
      have view := s.takeSetTime_timeView v stepDue
      exact ⟨congrArg TimeView.pending view, congrArg TimeView.sup view⟩
  · exact ⟨rfl, rfl⟩

/-- No row touches the queue of waiting commands (notes/assumptions/2.md). -/
theorem exec_pending {c : Instr} {s t : State} (h : exec c s = .next t) : t.pending = s.pending := by
  cases writes : writesTime c with
  | true =>
    obtain rfl | rfl | ⟨stepDue, rfl⟩ | ⟨pin, rfl⟩ | supply := writesTime_iff.mp writes
    · exact next_keepsView s.tick_pending h
    · refine next_keepsView (ite_keepsView ?_ rfl) h
      have boundaries : s.tick.takeBoundaries.pending = s.tick.pending :=
        congrArg TimeView.pending s.tick.takeBoundaries_timeView
      exact (whileRunning_keepsView boundaries).trans s.tick_pending
    · exact next_keepsView (complete_setTime stepDue s).1 h
    · exact next_keepsView (s.endStarting_pending pin) h
    · obtain ⟨vdd, vbat, rfl⟩ := exec_supplyLevels supply h
      exact s.takeLevels_pending vdd vbat
  | false =>
    cases moves : movesSupervisor c with
    | false => exact congrArg TimeView.pending (exec_timeView writes moves h)
    | true =>
      cases c with
      | rstAssert => exact next_keepsView s.assertReset_pending h
      | rstRelease => exact next_keepsView s.releaseReset_pending h
      | supplyQualified => exact next_keepsView s.qualified_pending h
      | restart => exact next_keepsView (takeStart_pending 0x5E false s) h
      | factoryClear => exact next_keepsView (takeStart_pending 0x5F true s) h
      | _ => simp [movesSupervisor] at moves

/-- Every row has a meaning, and none stops the part. -/
theorem exec_answers (c : Instr) (s : State) : ∃ t, exec c s = .next t := by
  cases c with
  | framing cause => cases cause <;> exact ⟨_, rfl⟩
  | _ => exact ⟨_, rfl⟩

/-! ### Completions (R172) -/

/-- The row of a host command but RESTART and FACTORY CLEAR is its completion by an owner. -/
theorem exec_completes {c : Instr} {code : Byte} (coded : hostCode c = some code) (noRestart : code ≠ 0x5E)
    (noClear : code ≠ 0x5F) : ∃ owner, ∀ s, exec c s = .next (complete code owner s) := by
  cases c with
  | restart => exact absurd (Option.some.inj coded).symm noRestart
  | factoryClear => exact absurd (Option.some.inj coded).symm noClear
  | readTime | setTime _ | createProgram | editProgram | readProgram | enableProgram | disableProgram | deleteProgram
  | listPrograms | createOverride | extendOverride | cancelOverride | releaseChannels | readOverrides | setResumePolicy
  | configureGate | setGateMode | readGates | configureChannel | setChannelTiming | setFallback | configureGroup
  | readChannel | explainChannel | forceAllOff | releaseAllOff | setStagger | readQueue | clearFault | bindKey
  | readKeyBinding | setPanelLock | readAttention | setAttentionMask =>
    obtain rfl := Option.some.inj coded
    exact ⟨_, fun _ => rfl⟩
  | _ => cases coded

/-- A completion leaves the supervisor as it is: only RESTART and FACTORY CLEAR move it (R160, R172). -/
theorem exec_sup_of_hostCode {c : Instr} {code : Byte} {s t : State} (coded : hostCode c = some code)
    (noRestart : code ≠ 0x5E) (noClear : code ≠ 0x5F) (h : exec c s = .next t) : t.sup = s.sup := by
  have moves : movesSupervisor c = false := by
    cases c with
    | restart => exact absurd (Option.some.inj coded).symm noRestart
    | factoryClear => exact absurd (Option.some.inj coded).symm noClear
    | rstAssert | rstRelease | supplyQualified => cases coded
    | _ => rfl
  cases writes : writesTime c with
  | false => exact State.sup_of_timeView (exec_timeView writes moves h)
  | true =>
    obtain rfl | rfl | ⟨stepDue, rfl⟩ | ⟨pin, rfl⟩ | supply := writesTime_iff.mp writes
    · cases coded
    · cases coded
    · exact next_keepsView (view := State.sup) (complete_setTime stepDue s).2 h
    · cases coded
    · cases c with
      | vddFall _ | vddRise _ | vddBelowQualificationThreshold _ | backupSupplyFall _ | backupDomainLoss _ _
      | backupDomainPowerUp _ _ => cases coded
      | _ => cases supply

/-- A completion fills the response slot with the code's echo, takes the link to READY and raises RESPONSE (R172). -/
theorem exec_of_holds {c : Instr} {code : Byte} {params : List Byte} {s : State} (coded : hostCode c = some code)
    (noRestart : code ≠ 0x5E) (noClear : code ≠ 0x5F) (held : s.holds code params) :
    ∃ a : Answer, exec c s = .next (a.respond code) := by
  obtain ⟨owner, completes⟩ := exec_completes coded noRestart noClear
  exact ⟨owner params s, by rw [completes, complete_of_holds owner held]⟩

/-- Settles O2, by the rows' effect on the queue and the shape of a completion. -/
theorem everyCommandCompletes : Obligations.EveryCommandCompletes := by
  refine ⟨fun c s => ?_, fun c code params s coded noRestart noClear held => ?_⟩
  · obtain ⟨t, h⟩ := exec_answers c s
    exact ⟨t, h, exec_pending h⟩
  · obtain ⟨a, h⟩ := exec_of_holds coded noRestart noClear held
    exact ⟨_, a.result, a.payload, h, rfl, rfl, exec_sup_of_hostCode coded noRestart noClear h⟩

end Sys2Proof.Machine
end

section
/-! The first byte of a transaction and the rise of CS# (R167 to R169, R171, R173). -/

namespace Sys2Proof.Machine

/-! ### The rise of CS# -/

section Rise

variable {s : State} {x : Transaction} (opened : s.link.transaction = some x)
include opened

/-- The rise discards a frame cut short, and flags it (R171). -/
theorem State.endTransaction_receiving {frame : List Byte} (receiving : s.link.state = .receiving frame) :
    s.endTransaction = { s with
      link := { s.link with state := .idle, stickyError := true, transaction := none }
      att := { s.att with framing := true } } := by
  simp [State.endTransaction, opened, State.discardPartial, receiving, State.setLink, State.flagFraming, State.flagError,
    State.raiseFraming, State.releaseResponse, State.settleSticky]

/-- The rise after a FETCH empties the response slot where the whole response was collected (R173). -/
theorem State.endTransaction_ready {r : Response} (ready : s.link.state = .ready r) :
    s.endTransaction = { s with link := { s.link with
      state := if x.collected = true then .idle else .ready r
      stickyError := s.link.stickyError && !(x.sawError && x.named && !x.flagged)
      transaction := none } } := by
  cases collected : x.collected <;>
    simp [State.endTransaction, opened, State.discardPartial, ready, State.releaseResponse, collected, State.setLink,
      State.settleSticky]

/-- With no frame and no response in the link, the rise settles the sticky error alone (R169). -/
theorem State.endTransaction_settles (quiet : s.link.state = .idle ∨ ∃ c, s.link.state = .executing c) :
    s.endTransaction = { s with link := { s.link with
      stickyError := s.link.stickyError && !(x.sawError && x.named && !x.flagged)
      transaction := none } } := by
  obtain idle | ⟨c, executing⟩ := quiet
  · simp [State.endTransaction, opened, State.discardPartial, idle, State.releaseResponse, State.settleSticky]
  · simp [State.endTransaction, opened, State.discardPartial, executing, State.releaseResponse, State.settleSticky]

end Rise

theorem exec_transactionEnd {s : State} (running : s.sup.state = .running) :
    exec .transactionEnd s = .next s.endTransaction := congrArg _ (whileRunning_running _ running)

/-- Settles O58, by the link state at the rise. -/
theorem theRiseEndsTheTransaction : Obligations.TheRiseEndsTheTransaction := by
  intro s x running opened
  rw [exec_transactionEnd running]
  refine ⟨fun frame receiving => ⟨congrArg _ (State.endTransaction_receiving opened receiving), ?_⟩,
    fun r ready => congrArg _ (State.endTransaction_ready opened ready),
    fun quiet => congrArg _ (State.endTransaction_settles opened quiet)⟩
  refine next_whileRunning running ?_
  simp only [State.riseMidFrame, receiving]

/-! ### The first byte -/

/-- The part as the first byte of a transaction is taken, the status byte shifted out. -/
def State.opened (s : State) (x : Transaction) (before : List Byte) : State :=
  { s with link := { s.link with transaction := some x, miso := before } }

/-- What is shifted out after the status byte of an open transaction. -/
theorem State.shiftOut_opened (s : State) (x : Transaction) (before shifted : List Byte) (collected : Bool) :
    (s.opened x before).shiftOut shifted collected =
      s.opened { x with named := true, collected := collected } (before ++ shifted) := rfl

theorem State.opened_linkState (s : State) (x : Transaction) (before : List Byte) :
    (s.opened x before).link.state = s.link.state := rfl

/-- The fall of CS# with no transaction open begins one, whose first byte out is the status byte (R167, R168). -/
theorem State.beginTransaction_closed {s : State} (closed : s.link.transaction = none) :
    s.beginTransaction = s.opened ⟨s.link.stickyError, false, false, false⟩ [s.statusByte] := by
  rw [State.beginTransaction, State.endTransaction_none closed]
  rfl

/-- A row that takes a first byte acts on the transaction it opens, whether it stands for the whole byte or for its eighth
bit. -/
theorem State.TakesFirstByte.transact {s : State} {part : FirstByte} {x : Transaction} {before : List Byte}
    (takes : s.TakesFirstByte part x before) (n : Nat) (act : State → State) :
    transact part n act s = act (s.opened x before) := by
  obtain ⟨running, ⟨rfl, closed, rfl, rfl⟩ | ⟨rfl, begun, unnamed, rfl⟩⟩ := takes
  · rw [transact_whole n act running, State.beginTransaction_closed closed]
  · rw [transact_taken n act running begun unnamed, State.opened, ← begun]

/-! ### COMMAND (R169 to R171) -/

/-- The host commands' rows, in the order of their codes; SET TIME with no step due. -/
def hostRows : List Instr :=
  [.readTime, .setTime, .createProgram, .editProgram, .readProgram, .enableProgram, .disableProgram, .deleteProgram,
   .listPrograms, .createOverride, .extendOverride, .cancelOverride, .releaseChannels, .readOverrides, .configureChannel,
   .setChannelTiming, .setFallback, .readChannel, .explainChannel, .clearFault, .configureGroup, .setStagger, .readQueue,
   .configureGate, .setGateMode, .readGates, .bindKey, .readKeyBinding, .setPanelLock, .forceAllOff, .releaseAllOff,
   .setResumePolicy, .setAttentionMask, .readAttention, .restart, .factoryClear]

theorem commandCodes_eq : commandCodes = hostRows.filterMap hostCode := rfl

/-- The codes the link knows are those of the host commands' rows. -/
theorem mem_commandCodes_iff (code : Byte) : code ∈ commandCodes ↔ ∃ c : Instr, hostCode c = some code := by
  rw [commandCodes_eq, List.mem_filterMap]
  refine ⟨fun ⟨c, _, coded⟩ => ⟨c, coded⟩, fun ⟨c, coded⟩ => ?_⟩
  cases c with
  | setTime _ => exact ⟨.setTime, by decide, coded⟩
  | readTime | createProgram | editProgram | readProgram | enableProgram | disableProgram | deleteProgram | listPrograms
  | createOverride | extendOverride | cancelOverride | releaseChannels | readOverrides | setResumePolicy | configureGate
  | setGateMode | readGates | configureChannel | setChannelTiming | setFallback | configureGroup | readChannel
  | explainChannel | forceAllOff | releaseAllOff | setStagger | readQueue | clearFault | bindKey | readKeyBinding
  | setPanelLock | readAttention | setAttentionMask | restart | factoryClear => exact ⟨_, by decide, coded⟩
  | _ => cases coded

/-- Fewer than two bytes give no length yet (R171). -/
theorem State.receive_short {bytes : List Byte} (short : bytes.length < 2) (s : State) :
    s.receive bytes = s.setLink (.receiving bytes) := by
  match bytes, short with
  | [], _ => rfl
  | [_], _ => rfl

section Receive

variable {code len : Byte} {rest : List Byte}

/-- A length above 40 is answered as soon as it arrives (R171). -/
theorem State.receive_tooLong (long : 40 < len.toNat) (s : State) :
    s.receive (code :: len :: rest) = s.linkResponse code .badLength := if_pos long

/-- A frame whose check byte has not arrived is received further (R171). -/
theorem State.receive_partial (fits : len.toNat ≤ 40) (cut : rest.length ≤ len.toNat) (s : State) :
    s.receive (code :: len :: rest) = s.setLink (.receiving (code :: len :: rest)) := by
  have fits : ¬Config.maxParams < len.toNat := Nat.not_lt.mpr fits
  simp only [State.receive, if_neg fits, List.drop_eq_nil_of_le cut]

/-- A whole frame is judged by its check and its code (R171). -/
theorem State.receive_whole {params after : List Byte} {check : Byte} (fits : len.toNat ≤ 40)
    (whole : params.length = len.toNat) (s : State) : s.receive (code :: len :: (params ++ check :: after)) =
      if check ≠ crc8 (code :: len :: params) then s.linkResponse code .badCheck
      else if code ∈ commandCodes then s.setLink (.executing ⟨code, params⟩)
      else s.linkResponse code .unknownCommand := by
  have fits : ¬Config.maxParams < len.toNat := Nat.not_lt.mpr fits
  simp only [State.receive, if_neg fits, List.drop_left' whole, List.take_left' whole]

end Receive

/-- In IDLE the bytes after the first are received; the part shifts out zeros (R171). -/
theorem State.nameCommand_idle {s : State} (idle : s.link.state = .idle) (x : Transaction) (before bytes : List Byte) :
    (s.opened x before).nameCommand bytes =
      State.receive bytes (s.opened { x with named := true, collected := false } (before ++ zeros bytes.length)) := by
  simp only [State.nameCommand, State.shiftOut_opened, State.opened_linkState, idle]

/-- With a command or a response in the link the COMMAND is refused with OVERRUN (R171). -/
theorem State.nameCommand_refused {s : State}
    (held : (∃ c, s.link.state = .executing c) ∨ ∃ r, s.link.state = .ready r) (x : Transaction)
    (before bytes : List Byte) : (s.opened x before).nameCommand bytes =
      State.flagOverrun (s.opened { x with named := true, collected := false } (before ++ zeros bytes.length)) := by
  obtain ⟨c, executing⟩ | ⟨r, ready⟩ := held
  · simp only [State.nameCommand, State.shiftOut_opened, State.opened_linkState, executing]
  · simp only [State.nameCommand, State.shiftOut_opened, State.opened_linkState, ready]

/-- Settles O56, by the first byte taken and the frame judged. -/
theorem commandFramesAreJudged : Obligations.CommandFramesAreJudged := by
  intro s part x before bytes takes shifted opened answered
  have taken : exec (.command bytes part) s = .next ((s.opened x before).nameCommand bytes) :=
    congrArg _ (takes.transact bytes.length (State.nameCommand bytes))
  refine ⟨fun idle => ?_, fun held => ?_⟩
  · rw [taken, State.nameCommand_idle idle]
    refine ⟨fun short => ?_, ?_⟩
    · rw [State.receive_short short]
      rfl
    rintro code len rest rfl
    refine ⟨fun long => ?_, fun fits => ⟨fun cut => ?_, ?_⟩⟩
    · rw [State.receive_tooLong long]
      rfl
    · rw [State.receive_partial fits cut]
      rfl
    rintro params after check rfl whole
    rw [State.receive_whole fits whole, ← mem_commandCodes_iff]
    refine ⟨fun bad => ?_, fun good => ⟨fun known => ?_, fun unknown => ?_⟩⟩
    · rw [if_pos bad]
      rfl
    · rw [if_neg (not_not_intro good), if_pos known]
      rfl
    · rw [if_neg (not_not_intro good), if_neg unknown]
      rfl
  · rw [taken, State.nameCommand_refused held]
    rfl

end Sys2Proof.Machine
end

section
/-! STATUS and FETCH (R167, R168, R170, R173, R174): the status byte bit by bit, the frame shifted out, and a completion between the
status byte and the FETCH. -/

namespace Sys2Proof.Machine

/-! ### The status byte (R168) -/

/-- A flag in a byte, read at any place of the byte. -/
theorem flagBit_getLsbD (i j : Nat) (b : Bool) (hj : j < 8) : (flagBit i b).getLsbD j = (b && decide (i = j)) := by
  cases b with
  | false => simp [flagBit]
  | true => simp [flagBit, hj, eq_comm]

/-- The same, in the form simp gives a bit of a word. -/
@[simp] theorem flagBit_getElem (i j : Nat) (b : Bool) (hj : j < 8) : (flagBit i b)[j] = (b && decide (i = j)) := by
  rw [← BitVec.getLsbD_eq_getElem, flagBit_getLsbD i j b hj]

/-- A command is in EXECUTING. -/
def LinkState.isExecuting : LinkState → Bool
  | .executing _ => true
  | .idle | .receiving _ | .ready _ => false

theorem LinkState.isExecuting_iff (st : LinkState) : st.isExecuting = true ↔ ∃ c, st = .executing c := by
  cases st <;> simp [LinkState.isExecuting]

theorem LinkState.isReady_iff (st : LinkState) : st.isReady = true ↔ ∃ r, st = .ready r := by
  cases st <;> simp [LinkState.isReady]

/-- The status byte as a byte of flags. -/
theorem State.statusByte_eq (s : State) : s.statusByte =
    flagBit 7 true ||| flagBit 5 s.link.state.isReady ||| flagBit 4 s.link.state.isExecuting ||| flagBit 3 s.attn |||
      flagBit 2 s.allOff ||| flagBit 1 s.ret.clockValid ||| flagBit 0 s.link.stickyError := rfl

/-! ### The frame shifted out (R170, R173) -/

/-- The bytes clocked out of a frame are those of the frame with zeros after it. -/
theorem clockOut_eq (frame : List Byte) (n : Nat) : clockOut frame n = (frame ++ List.replicate n 0).take n := by
  rw [clockOut, List.take_append, List.take_replicate, Nat.min_eq_left (Nat.sub_le ..), zeros]

theorem Response.frame_length (r : Response) : r.frame.length = r.payload.length + 4 := by
  simp [Response.frame]

section FirstByte

variable {s : State} (x : Transaction) (before : List Byte) (n : Nat)

theorem State.nameFetch_opened : (s.opened x before).nameFetch n =
    s.opened { x with
        named := true
        collected := s.link.state.isReady && decide (s.link.state.fetched.frame.length ≤ n) }
      (before ++ clockOut s.link.state.fetched.frame n) := rfl

/-- Where no response is held, no FETCH collects one (R173). -/
theorem State.nameFetch_notReady (notReady : s.link.state.isReady = false) : (s.opened x before).nameFetch n =
    s.opened { x with named := true, collected := false }
      (before ++ clockOut s.link.state.fetched.frame n) := by
  rw [State.nameFetch_opened, notReady]
  rfl

end FirstByte

/-! ### What a completion leaves of the transaction (R172, R174) -/

/-- What the transaction in progress holds, and what has been shifted out in it. -/
def State.wire (s : State) : Option Transaction × List Byte := (s.link.transaction, s.link.miso)

theorem State.evaluateTable_link (p : Present) (s : State) : (s.evaluateTable p).link = s.link := by
  rw [State.evaluateTable_eq]

theorem State.takeSetTime_link (v : TimeValue) (stepDue : Bool) (s : State) : (s.takeSetTime v stepDue).link = s.link := by
  have boundaries : s.takeBoundaries.link = s.link :=
    foldl_keepsView (view := State.link) (fun _ _ => State.evaluateTable_link ..) _ _
  exact (State.evaluateTable_link ..).trans boundaries

theorem State.replaceProgram_link (i : ProgIdx) (x : ProgSlot) (s : State) :
    ((s.setProgram i x).advanceEpoch 1).link = s.link := by
  rw [State.replaceProgram_eq]

theorem State.endOverrides_link (t : Vector OvrSlot 16) (s : State) : (s.endOverrides t).link = s.link := by
  rw [State.endOverrides_eq]

theorem State.createOverride_link (c : Creation) (s : State) : (s.createOverride c).link = s.link := by
  unfold State.createOverride
  rw [State.supersede, State.settleOverrides_eq]
  dsimp only
  split
  · rw [State.request_eq]
    rfl
  · rfl

theorem State.changeGate_link (g : GateIdx) (w : GateWork) (s : State) : (s.changeGate g w).link = s.link := by
  rw [State.changeGate_eq]

theorem State.resolve_link (sc : Scope) (s : State) : (s.resolve sc).link = s.link := by
  rw [State.resolve_eq]

theorem State.link_of_besideSwitching {s t : State} (h : t.besideSwitching = s.besideSwitching) : t.link = s.link :=
  have link : t.besideSwitching.link = s.besideSwitching.link := congrArg State.link h
  link

theorem State.configureChannel_link (ch : Chan) (kind : ChanKind) (group : Option Group) (cls : QueueClass) (s : State) :
    (s.configureChannel ch kind group cls).link = s.link := ite_keepsView rfl (State.resolve_link ..)

theorem State.setChannelTiming_link (ch : Chan) (minOn minOff : Byte) (ramp : Fin 16) (retry : Fin 4) (s : State) :
    (s.setChannelTiming ch minOn minOff ramp retry).link = s.link :=
  (State.link_of_besideSwitching (State.setChannelTiming_besideSwitching ..)).trans rfl

theorem State.configureGroup_link (g : Group) (gap : Byte) (s : State) : (s.configureGroup g gap).link = s.link :=
  (State.link_of_besideSwitching (State.configureGroup_besideSwitching ..)).trans rfl

theorem State.setLatch_link (b : Bool) (s : State) : (s.setLatch b).link = s.link :=
  (State.link_of_besideSwitching (State.setLatch_besideSwitching b s)).trans rfl

theorem State.setStagger_link (interval : Byte) (s : State) : (s.setStagger interval).link = s.link :=
  (State.link_of_besideSwitching (State.setStagger_besideSwitching ..)).trans rfl

theorem State.setPanelLock_link (locked : Bool) (s : State) : (s.setPanelLock locked).link = s.link :=
  ite_keepsView (view := State.link) rfl rfl

theorem checked_link {α : Type} {read : Except Nat α} {s : State} {f : α → Answer}
    (kept : ∀ a, (f a).state.link = s.link) : (checked read s f).state.link = s.link := checked_keepsView kept

theorem completion_wire {code : Byte} {owner : List Byte → State → Answer} {s t : State}
    (kept : ∀ ps s, (owner ps s).state.link = s.link)
    (h : (Host.Outcome.next (complete code owner s) : Host.Outcome State Fault Refusal) = .next t) : t.wire = s.wire :=
  completion_keepsView (fun _ _ => rfl) (fun ps => by rw [State.wire, kept, State.wire]) h

theorem ownCreateProgram_link (ps : List Byte) (s : State) : (ownCreateProgram ps s).state.link = s.link := by
  refine checked_link fun ⟨disabled, d⟩ => Answer.ite_keepsView rfl ?_
  split
  · rfl
  · exact State.replaceProgram_link ..

theorem ownReadProgram_link (ps : List Byte) (s : State) : (ownReadProgram ps s).state.link = s.link := by
  refine checked_link fun n => ?_
  cases s.namedProgram n <;> rfl

theorem ownExtendOverride_link (ps : List Byte) (s : State) : (ownExtendOverride ps s).state.link = s.link := by
  refine checked_link fun _ => State.onOverride_keepsView _ fun r => ?_
  cases r.kind <;> rfl

theorem ownReadOverrides_link (ps : List Byte) (s : State) : (ownReadOverrides ps s).state.link = s.link := by
  refine checked_link fun q => ?_
  cases q with
  | page first => rfl
  | single n =>
    dsimp only
    cases s.namedOverride n <;> rfl

/-- The owner of a host command leaves the link to the response (R171, R172). -/
theorem exec_wire {c : Instr} {code : Byte} {s t : State} (coded : hostCode c = some code) (noRestart : code ≠ 0x5E)
    (noClear : code ≠ 0x5F) (h : exec c s = .next t) : t.wire = s.wire := by
  cases c with
  | restart => exact absurd (Option.some.inj coded).symm noRestart
  | factoryClear => exact absurd (Option.some.inj coded).symm noClear
  | readTime | setResumePolicy | readGates | readChannel | explainChannel | readQueue | bindKey | readKeyBinding
  | setAttentionMask | readAttention => exact completion_wire (fun _ _ => checked_link fun _ => rfl) h
  | setTime stepDue =>
    exact completion_wire (fun _ _ => checked_link fun _ => State.takeSetTime_link ..) h
  | createProgram => exact completion_wire ownCreateProgram_link h
  | editProgram =>
    exact completion_wire (fun _ _ => checked_link fun _ => State.onProgram_keepsView _ fun _ =>
      Answer.ite_keepsView rfl (State.replaceProgram_link ..)) h
  | readProgram => exact completion_wire ownReadProgram_link h
  | enableProgram =>
    exact completion_wire (fun _ _ => checked_link fun _ => State.onProgram_keepsView _ fun _ =>
      ite_keepsView (State.replaceProgram_link ..) rfl) h
  | disableProgram =>
    exact completion_wire (fun _ _ => checked_link fun _ => State.onProgram_keepsView _ fun _ =>
      ite_keepsView rfl (State.replaceProgram_link ..)) h
  | deleteProgram =>
    exact completion_wire (fun _ _ => checked_link fun _ => State.onProgram_keepsView _ fun _ =>
      State.replaceProgram_link ..) h
  | listPrograms =>
    exact completion_wire (fun _ _ => checked_link fun _ => Answer.ite_keepsView rfl rfl) h
  | createOverride =>
    exact completion_wire (fun _ _ => checked_link fun _ => State.createOverride_link ..) h
  | extendOverride => exact completion_wire ownExtendOverride_link h
  | cancelOverride =>
    exact completion_wire (fun _ _ => checked_link fun _ => State.onOverride_keepsView _ fun _ =>
      State.endOverrides_link ..) h
  | releaseChannels =>
    exact completion_wire (fun _ _ => checked_link fun _ => State.endOverrides_link ..) h
  | readOverrides => exact completion_wire ownReadOverrides_link h
  | configureGate =>
    exact completion_wire (fun _ _ => checked_link fun _ => State.changeGate_link ..) h
  | setGateMode =>
    exact completion_wire (fun _ _ => checked_link fun _ =>
      Answer.ite_keepsView rfl (State.changeGate_link ..)) h
  | configureChannel =>
    exact completion_wire (fun _ _ => checked_link fun _ =>
      Answer.ite_keepsView (State.configureChannel_link ..) rfl) h
  | setChannelTiming =>
    exact completion_wire (fun _ _ => checked_link fun _ =>
      Answer.ite_keepsView rfl (State.setChannelTiming_link ..)) h
  | setFallback => exact completion_wire (fun _ _ => checked_link fun _ => State.resolve_link ..) h
  | configureGroup =>
    exact completion_wire (fun _ _ => checked_link fun _ =>
      State.configureGroup_link ..) h
  | forceAllOff | releaseAllOff =>
    exact completion_wire (fun _ _ => checked_link fun _ =>
      State.setLatch_link ..) h
  | setStagger =>
    exact completion_wire (fun _ _ => checked_link fun _ =>
      State.setStagger_link ..) h
  | clearFault =>
    exact completion_wire (fun _ _ => checked_link fun _ =>
      State.link_of_besideSwitching (State.clearFault_besideSwitching ..)) h
  | setPanelLock =>
    exact completion_wire (fun _ _ => checked_link fun _ => State.setPanelLock_link ..) h
  | _ => cases coded

/-! ### The first byte, row by row -/

/-- While RUNNING, the fall of CS# begins a transaction, whichever row it is a part of (R167, R168). -/
theorem transact_begins_closed {s : State} (running : s.sup.state = .running) (closed : s.link.transaction = none) (n : Nat)
    (act : State → State) : transact .begins n act s = s.opened ⟨s.link.stickyError, false, false, false⟩ [s.statusByte] := by
  rw [transact_begins n act running, State.beginTransaction_closed closed]

/-- The eighth bit of a first byte that the part did not see begin (notes/assumptions/17.md). -/
theorem transact_taken_unseen {s : State} (running : s.sup.state = .running) (closed : s.link.transaction = none) (n : Nat)
    (act : State → State) : transact .taken n act s = s.deafTransaction n := by
  simp only [transact, if_pos running, State.nameTransaction, closed]

/-- A first byte already taken is not taken again. -/
theorem transact_taken_named {s : State} {x : Transaction} (running : s.sup.state = .running)
    (opened : s.link.transaction = some x) (named : x.named = true) (n : Nat) (act : State → State) :
    transact .taken n act s = s := by
  simp only [transact, if_pos running, State.nameTransaction, opened, if_pos named]

/-- A transaction that begins while one is open begins after its end (notes/assumptions/17.md). -/
theorem transact_endTransaction {s : State} (running : s.sup.state = .running) {part : FirstByte} (begins : part ≠ .taken)
    (n : Nat) (act : State → State) : transact part n act s = transact part n act s.endTransaction := by
  have ended : s.endTransaction.sup.state = .running := by
    rw [State.endTransaction_frame]
    exact running
  have begun : s.beginTransaction = s.endTransaction.beginTransaction := by
    rw [State.beginTransaction, State.beginTransaction, State.endTransaction_none s.endTransaction_closes]
  cases part with
  | whole => rw [transact_whole n act running, transact_whole n act ended, begun]
  | begins => rw [transact_begins n act running, transact_begins n act ended, begun]
  | taken => exact absurd rfl begins

/-- A first byte that names no transaction is FRAMING's (R167). -/
theorem exec_framing_firstByte {b : Byte} (stray : b ≠ 0x00 ∧ b ≠ 0xC3 ∧ b ≠ 0x3C) (part : FirstByte) (n : Nat) (s : State) :
    exec (.framing (.firstByte b part n)) s = .next (transact part n (State.nameNone n) s) :=
  congrArg _ (if_neg (by simpa [not_or] using stray))

/-- A FETCH whose status byte showed EXECUTING gives the response that a completion before its eighth bit has made
(R174). -/
theorem fetch_sees_completion {c : Instr} {code : Byte} {params : List Byte} {s : State} (n : Nat)
    (closed : s.link.transaction = none) (coded : hostCode c = some code) (noRestart : code ≠ 0x5E) (noClear : code ≠ 0x5F)
    (held : s.holds code params) :
    ∃ u t v r, exec (.fetch n .begins) s = .next u ∧ exec c u = .next t ∧ t.link.state = .ready r ∧
      exec (.fetch n .taken) t = .next v ∧ v.link.miso = s.statusByte :: clockOut r.frame n := by
  let u := s.opened ⟨s.link.stickyError, false, false, false⟩ [s.statusByte]
  have begins : exec (.fetch n .begins) s = .next u := congrArg _ (transact_begins_closed held.1 closed n _)
  have heldThen : u.holds code params := held
  obtain ⟨a, completes⟩ := exec_of_holds coded noRestart noClear heldThen
  have wire : (a.respond code).wire = u.wire := exec_wire coded noRestart noClear completes
  have running : (a.respond code).sup.state = .running := by
    rw [exec_sup_of_hostCode coded noRestart noClear completes]
    exact held.1
  have fetches : exec (.fetch n .taken) (a.respond code) = .next ((a.respond code).nameFetch n) :=
    congrArg _ (transact_taken n _ running (congrArg Prod.fst wire) rfl)
  refine ⟨u, _, _, ⟨code, a.result, a.payload⟩, begins, completes, rfl, fetches, ?_⟩
  exact congrArg (· ++ clockOut _ n) (congrArg Prod.snd wire)

/-- Settles O57, by the first byte taken and the link state that a FETCH finds. -/
theorem statusAndFetchAnswerTheHost : Obligations.StatusAndFetchAnswerTheHost := by
  unfold Obligations.StatusAndFetchAnswerTheHost
  intro fetched
  have clocked (r : Response) (n : Nat) : clockOut r.frame n = fetched r n := clockOut_eq r.frame n
  refine ⟨fun s part x before n takes => ?_, fun s => ?_, fun s n bytes b running closed h0 h1 h2 => ?_,
    fun s n bytes running => ⟨fun closed => ?_, fun closed => ?_, fun x opened named => ?_⟩,
    fun s c code params n closed coded noRestart noClear held => ?_, fun s t running rises part begins => ?_⟩
  · intro opened
    have fetches : exec (.fetch n part) s = .next ((s.opened x before).nameFetch n) :=
      congrArg _ (takes.transact n (State.nameFetch n))
    refine ⟨congrArg _ (takes.transact n (State.nameStatus n)), fun r ready => ?_, fun c executing => ?_, fun idle => ?_,
      fun b h0 h1 h2 => ?_⟩
    · rw [fetches, State.nameFetch_opened, ready, ← clocked, ← Response.frame_length]
      rfl
    · rw [fetches, State.nameFetch_notReady x before n (by rw [executing]; rfl), executing, ← clocked]
      rfl
    · rw [fetches, State.nameFetch_notReady x before n (by rw [idle]; rfl), idle, ← clocked]
      rfl
    · rw [exec_framing_firstByte ⟨h0, h1, h2⟩, takes.transact]
      rfl
  · rw [← LinkState.isReady_iff, ← LinkState.isExecuting_iff, State.statusByte_eq]
    simp [State.allOff]
  · have begins (k : Nat) (act : State → State) := congrArg (Host.Outcome.next (φ := Fault) (ρ := Refusal))
      (transact_begins_closed running closed k act)
    simp only [List.forall_mem_cons, List.not_mem_nil, false_implies, implies_true, and_true]
    exact ⟨begins n _, begins bytes.length _, begins n _, (exec_framing_firstByte ⟨h0, h1, h2⟩ ..).trans (begins n _)⟩
  · have unseen (act : State → State) := congrArg (Host.Outcome.next (φ := Fault) (ρ := Refusal))
      (transact_taken_unseen running closed n act)
    simp only [List.forall_mem_cons, List.not_mem_nil, false_implies, implies_true, and_true]
    exact ⟨unseen _, unseen _⟩
  · exact congrArg _ (transact_taken_unseen running closed bytes.length _)
  · have again (k : Nat) (act : State → State) := congrArg (Host.Outcome.next (φ := Fault) (ρ := Refusal))
      (transact_taken_named running opened named k act)
    simp only [List.forall_mem_cons, List.not_mem_nil, false_implies, implies_true, and_true]
    exact ⟨again n _, again bytes.length _, again n _⟩
  · obtain ⟨u, t, v, r, begins, completes, ready, fetches, miso⟩ :=
      fetch_sees_completion n closed coded noRestart noClear held
    exact ⟨u, t, v, r, begins, completes, ready, fetches, by rw [miso, clocked]⟩
  · rw [exec_transactionEnd running] at rises
    obtain rfl := Host.Outcome.next.inj rises
    have after (k : Nat) (act : State → State) := congrArg (Host.Outcome.next (φ := Fault) (ρ := Refusal))
      (transact_endTransaction running begins k act)
    exact ⟨fun n => ⟨after n _, after n _⟩, fun bytes => after bytes.length _⟩

end Sys2Proof.Machine
end

section
/-! READ ATTENTION and ATTN# (R178, R179, R186): every pending flag at its place in the report, and ATTN# by the enabled
categories. -/

namespace Sys2Proof.Machine

/-! ### Bits of a payload -/

/-- Bit `n` of a payload, counted from bit 0 of its first byte. -/
def bitAt (l : List Byte) (n : Nat) : Bool := (l.getD (n / 8) 0).getLsbD (n % 8)

theorem bitAt_cons (b : Byte) (l : List Byte) (n : Nat) :
    bitAt (b :: l) n = if n < 8 then b.getLsbD n else bitAt l (n - 8) := by
  unfold bitAt
  split
  · rename_i first
    rw [Nat.div_eq_of_lt first, Nat.mod_eq_of_lt first, List.getD_cons_zero]
  · rename_i further
    have place : n / 8 = (n - 8) / 8 + 1 := by omega
    have bit : n % 8 = (n - 8) % 8 := by omega
    rw [place, bit, List.getD_cons_succ]

theorem bitAt_append (l₁ l₂ : List Byte) (n : Nat) :
    bitAt (l₁ ++ l₂) n = if n < 8 * l₁.length then bitAt l₁ n else bitAt l₂ (n - 8 * l₁.length) := by
  unfold bitAt
  split
  · rw [List.getD_append _ _ _ _ (by omega)]
  · have place : n / 8 - l₁.length = (n - 8 * l₁.length) / 8 := by omega
    have bit : n % 8 = (n - 8 * l₁.length) % 8 := by omega
    rw [List.getD_append_right _ _ _ _ (by omega), place, bit]

theorem wordBytes_length (n k : Nat) : (wordBytes n k).length = k := by
  induction k generalizing n with
  | zero => rfl
  | succ k ih => rw [wordBytes, List.length_cons, ih]

/-- The bytes of a word hold its bits in order (R180). -/
theorem bitAt_wordBytes (w k n : Nat) (inside : n < 8 * k) : bitAt (wordBytes w k) n = w.testBit n := by
  induction k generalizing w n with
  | zero => omega
  | succ k ih =>
    rw [wordBytes, bitAt_cons]
    split
    · rename_i first
      rw [byte, BitVec.getLsbD_ofNat, decide_eq_true first, Bool.true_and]
    · rename_i further
      have shifted : n - 8 + 8 = n := Nat.sub_add_cancel (Nat.not_lt.mp further)
      have divided : (w / 2 ^ 8).testBit (n - 8) = w.testBit (n - 8 + 8) := Nat.testBit_div_two_pow w (n - 8)
      rw [ih (w / 256) (n - 8) (by omega), ← shifted]
      exact divided

/-! ### The report (R186) -/

theorem attentionReport_length (p : Pending) : (attentionReport p).length = 20 := by
  simp [attentionReport, wordBytes_length]

/-- The flags of the report's last two bytes, the first of them at bit 144. -/
theorem bitAt_lastFlags (p : Pending) (n : Nat) (after : 144 ≤ n) (inside : n < 160) :
    bitAt [byte p.gate.toNat ||| flagBit 4 p.clock ||| flagBit 5 p.start ||| flagBit 6 p.allOff ||| flagBit 7 p.response,
      flagBit 0 p.overrun ||| flagBit 1 p.framing] (n - 144) =
      if n < 148 then p.gate.getLsbD (n - 144) else if n = 148 then p.clock else if n = 149 then p.start
      else if n = 150 then p.allOff else if n = 151 then p.response else if n = 152 then p.overrun
      else if n = 153 then p.framing else false := by
  interval_cases n <;> simp [bitAt, byte]

/-- Every pending flag has its place in the report. -/
theorem bitAt_attentionReport (p : Pending) (n : Nat) (inside : n < 160) : bitAt (attentionReport p) n =
    if n < 16 then p.channel.getLsbD n
    else if n < 32 then p.fault.getLsbD (n - 16)
    else if n < 128 then p.program.getLsbD (n - 32)
    else if n < 144 then p.override.getLsbD (n - 128)
    else if n < 148 then p.gate.getLsbD (n - 144)
    else if n = 148 then p.clock
    else if n = 149 then p.start
    else if n = 150 then p.allOff
    else if n = 151 then p.response
    else if n = 152 then p.overrun
    else if n = 153 then p.framing
    else false := by
  have range : n < 16 ∨ (16 ≤ n ∧ n < 32) ∨ (32 ≤ n ∧ n < 128) ∨ (128 ≤ n ∧ n < 144) ∨ 144 ≤ n := by omega
  unfold attentionReport
  simp only [bitAt_append, List.length_append, wordBytes_length]
  obtain h | h | h | h | h := range
  · simp (disch := omega) only [if_pos, bitAt_wordBytes, BitVec.testBit_toNat]
  · simp (disch := omega) only [if_pos, if_neg, bitAt_wordBytes, BitVec.testBit_toNat]
  · simp (disch := omega) only [if_pos, if_neg, bitAt_wordBytes, BitVec.testBit_toNat]
  · simp (disch := omega) only [if_pos, if_neg, bitAt_wordBytes, BitVec.testBit_toNat]
  · simp (disch := omega) only [if_neg]
    exact bitAt_lastFlags p n h inside

/-! ### ATTN# (R178) -/

theorem ite_twoPow_getLsbD {w : Nat} (i j : Nat) (b : Bool) (hj : j < w) :
    (if b then BitVec.twoPow w i else 0).getLsbD j = (b && decide (i = j)) := by
  cases b with
  | false => simp
  | true => simp [hj, eq_comm]

/-- A flag of a category is pending, the categories numbered as the mask's bits are (R186). -/
def Pending.inCategory (p : Pending) : Nat → Bool
  | 0 => p.channel != 0
  | 1 => p.fault != 0
  | 2 => p.program != 0
  | 3 => p.override != 0
  | 4 => p.gate != 0
  | 5 => p.clock
  | 6 => p.start
  | 7 => p.allOff
  | 8 => p.response
  | 9 => p.overrun || p.framing
  | _ => false

theorem Pending.categories_getLsbD (p : Pending) (i : Nat) (h : i < 10) : p.categories.getLsbD i = p.inCategory i := by
  unfold Pending.categories
  simp only [BitVec.getLsbD_or, ite_twoPow_getLsbD _ i _ h]
  interval_cases i <;> simp [Pending.inCategory]

/-- Two sets of categories meet where some category is in both. -/
theorem and_ne_zero_iff (a b : BitVec 10) : a &&& b ≠ 0 ↔ ∃ i ∈ List.range 10, b.getLsbD i = true ∧ a.getLsbD i = true := by
  refine ⟨fun meet => ?_, fun ⟨i, _, inB, inA⟩ apart => ?_⟩
  · by_contra none
    refine meet (BitVec.eq_of_getLsbD_eq fun i hi => ?_)
    have apart : ¬(a.getLsbD i = true ∧ b.getLsbD i = true) :=
      fun ⟨inA, inB⟩ => none ⟨i, List.mem_range.mpr hi, inB, inA⟩
    rw [BitVec.getLsbD_and]
    simpa using apart
  · have bit : (a &&& b).getLsbD i = true := by rw [BitVec.getLsbD_and, inA, inB, Bool.and_self]
    simp [apart] at bit

/-- ATTN# is asserted exactly while RUNNING with a pending flag of an enabled category (R178). -/
theorem State.attn_iff (s : State) : s.attn = true ↔ s.sup.state = .running ∧
    ∃ i ∈ List.range 10, s.ret.mask.getLsbD i = true ∧ s.att.inCategory i = true := by
  rw [State.attn, Bool.and_eq_true, decide_eq_true_iff, bne_iff_ne, and_ne_zero_iff]
  refine and_congr_right fun _ => exists_congr fun i => and_congr_right fun h => ?_
  rw [Pending.categories_getLsbD _ _ (List.mem_range.mp h)]

/-- Settles O59, by the places of the flags and the categories of the mask. -/
theorem readAttentionClearsWhatItReports : Obligations.ReadAttentionClearsWhatItReports := by
  refine ⟨fun s held => ⟨attentionReport s.att, next_complete held rfl, attentionReport_length _, fun n inside => ?_⟩,
    fun s => ?_⟩
  · exact bitAt_attentionReport s.att n inside
  · rw [State.attn_iff]
    simp [List.range_succ, Pending.inCategory]

end Sys2Proof.Machine
end

section
/-! Program definitions on the wire (R19 to R24, R181, R191 to R193): a definition read is a valid one, and a valid definition is read
back from the bytes that report it. -/

namespace Sys2Proof.Machine

/-! ### Numbers and sets in bytes (R180) -/

theorem byte_toNat (n : Nat) : (byte n).toNat = n % 256 := BitVec.toNat_ofNat n 8

theorem nibbles_toNat (high low : Nat) : (nibbles high low).toNat = high % 16 * 16 + low % 16 := by
  rw [nibbles, byte_toNat, Nat.mod_eq_of_lt (by omega)]

/-- A 2-byte field is read as the number it holds. -/
theorem word16_bytes {n : Nat} (h : n < 65536) : word16 (byte n) (byte (n / 256)) = n := by
  rw [word16, byte_toNat, byte_toNat]
  omega

/-- A channel set on the wire is the word of its two bytes. -/
theorem wireSet_toNat (lo hi : Byte) : (wireSet lo hi).toNat = word16 lo hi := by
  rw [wireSet, BitVec.toNat_append, ← Nat.shiftLeft_add_eq_or_of_lt lo.isLt, Nat.shiftLeft_eq, word16]
  omega

theorem wireSet_ne_zero_iff (lo hi : Byte) : wireSet lo hi ≠ 0 ↔ word16 lo hi ≠ 0 := by
  rw [← wireSet_toNat, ne_eq, ne_eq, ← BitVec.toNat_inj]
  rfl

theorem wireSet_bytes (cs : ChanSet) : wireSet (byte cs.toNat) (byte (cs.toNat / 256)) = cs :=
  BitVec.eq_of_toNat_eq (by rw [wireSet_toNat, word16_bytes cs.isLt])

/-- A bit of a byte, by arithmetic. -/
theorem getLsbD_eq_decide (b : Byte) (i : Nat) : b.getLsbD i = decide (b.toNat / 2 ^ i % 2 = 1) := by
  rw [BitVec.getLsbD, Nat.testBit_eq_decide_div_mod_eq]

/-! ### The fields that every kind shares (R181) -/

theorem Timing.code_lt (t : Timing) : t.code < 3 := by cases t <;> simp [Timing.code]

theorem kindPriority_toNat (d : ProgDef) : (kindPriority d).toNat = d.timing.code * 16 + d.priority.val := by
  have code := d.timing.code_lt
  rw [kindPriority, nibbles_toNat]
  omega

theorem highNibble_kindPriority (d : ProgDef) : highNibble (kindPriority d) = d.timing.code := by
  rw [highNibble, kindPriority_toNat]
  omega

theorem priority_kindPriority (d : ProgDef) : Fin.ofNat 8 (kindPriority d).toNat = d.priority := by
  refine Fin.ext ?_
  rw [kindPriority_toNat, Fin.val_ofNat]
  omega

/-- The sense's bit in a condition byte (R181). -/
def Sense.bit : Sense → Nat
  | .low => 0
  | .high => 16

theorem conditionByte_some (c : Condition) (l : Level) :
    (conditionByte (some c) l).toNat = 128 + c.gate.val * 32 + c.sense.bit + l.val := by
  have sense : (if c.sense = .high then 16 else 0) = c.sense.bit := by cases c.sense <;> rfl
  have bit : c.sense.bit ≤ 16 := by cases c.sense <;> decide
  rw [conditionByte, byte_toNat, sense, Nat.mod_eq_of_lt (by omega)]

theorem conditionByte_none (l : Level) : (conditionByte none l).toNat = l.val := by
  rw [conditionByte, byte_toNat, Nat.mod_eq_of_lt (by omega)]

theorem lowNibble_conditionByte (c : Option Condition) (l : Level) : lowNibble (conditionByte c l) = l := by
  refine Fin.ext ?_
  rw [lowNibble, Fin.val_ofNat]
  cases c with
  | none =>
    rw [conditionByte_none]
    omega
  | some c =>
    rw [conditionByte_some]
    cases c.sense <;> simp only [Sense.bit] <;> omega

theorem readCondition_conditionByte (c : Option Condition) (l : Level) : readCondition (conditionByte c l) = c := by
  rw [readCondition, getLsbD_eq_decide, getLsbD_eq_decide]
  cases c with
  | none =>
    rw [conditionByte_none, if_neg (by rw [decide_eq_true_iff]; omega)]
  | some c =>
    obtain ⟨gate, sense⟩ := c
    rw [conditionByte_some, if_pos (by rw [decide_eq_true_iff]; cases sense <;> simp only [Sense.bit] <;> omega)]
    refine congrArg some (Condition.mk.injEq .. ▸ ⟨Fin.ext ?_, ?_⟩)
    · rw [Fin.val_ofNat]
      cases sense <;> simp only [Sense.bit] <;> omega
    · cases sense with
      | low => exact if_neg (by rw [decide_eq_true_iff]; simp only [Sense.bit]; omega)
      | high => exact if_pos (by rw [decide_eq_true_iff]; simp only [Sense.bit]; omega)

/-- The fields that every kind shares are read back (R181, R191). -/
theorem sharedDef_bytes (d : ProgDef) : sharedDef (kindPriority d) (conditionByte d.condition d.level)
    (byte d.targets.toNat) (byte (d.targets.toNat / 256)) d.timing = d := by
  rw [sharedDef, priority_kindPriority, lowNibble_conditionByte, wireSet_bytes, readCondition_conditionByte]

/-! ### Timing (R21 to R23, R188, R191) -/

theorem require_true {α : Type} {b : Bool} {index : Nat} {k : Except Nat α} (h : b = true) : require b index k = k := if_pos h

theorem readStamp_inRange {y mo d m0 m1 : Byte} {index : Nat} {t : Stamp} (read : readStamp y mo d m0 m1 index = .ok t) :
    t.inRange = true := by
  simp only [readStamp, require_eq_ok, decide_eq_true_eq, Except.ok.injEq] at read
  obtain ⟨year, ⟨month, month'⟩, ⟨day, day'⟩, minute, rfl⟩ := read
  exact (Stamp.inRange_iff _).mpr ⟨Nat.le_add_right .., Nat.add_le_add_left year 2000, month, month', day, day', minute⟩

theorem monthLength_le (y m : Nat) : monthLength y m ≤ 31 := by
  unfold monthLength
  split_ifs <;> decide

/-- A stamp of the range is read back from its bytes (R188). -/
theorem readStamp_bytes {t : Stamp} (range : t.inRange = true) (index : Nat) :
    readStamp (byte (t.year - 2000)) (byte t.month) (byte t.day) (byte t.minute) (byte (t.minute / 256)) index = .ok t := by
  obtain ⟨year, year', month, month', day, day', minute⟩ := t.inRange_iff.mp range
  have length := monthLength_le t.year t.month
  have yearByte : (byte (t.year - 2000)).toNat = t.year - 2000 := by rw [byte_toNat, Nat.mod_eq_of_lt (by omega)]
  have monthByte : (byte t.month).toNat = t.month := by rw [byte_toNat, Nat.mod_eq_of_lt (by omega)]
  have dayByte : (byte t.day).toNat = t.day := by rw [byte_toNat, Nat.mod_eq_of_lt (by omega)]
  have minuteBytes : word16 (byte t.minute) (byte (t.minute / 256)) = t.minute := word16_bytes (by omega)
  have sum : 2000 + (t.year - 2000) = t.year := by omega
  simp only [readStamp, require_eq_ok, decide_eq_true_eq, yearByte, monthByte, dayByte, minuteBytes, sum, and_true]
  exact ⟨by omega, ⟨month, month'⟩, ⟨day, day'⟩, minute⟩

/-- The ranges of a kind's timing (R21 to R23). -/
def Timing.Valid : Timing → Prop
  | .daily days on off => days ≠ 0 ∧ on ≤ 1439 ∧ off ≤ 1439 ∧ off ≠ on
  | .dated start stop => start.inRange = true ∧ stop.inRange = true ∧ start.minutes < stop.minutes ∧
      stop.minutes ≤ start.minutes + 527040
  | .cycle anchor period onLength => anchor.inRange = true ∧ 2 ≤ period ∧ period ≤ 1440 ∧ 1 ≤ onLength ∧ onLength < period

theorem ProgDef.valid_iff (d : ProgDef) : d.Valid ↔ d.targets ≠ 0 ∧ d.timing.Valid := by
  obtain ⟨timing, _, _, _, _⟩ := d
  cases timing <;> rfl

theorem readDaily_eq_ok {days on0 on1 off0 off1 : Byte} {base : Nat} {t : Timing} :
    readDaily days on0 on1 off0 off1 base = .ok t ↔
      t = .daily (days.setWidth 7) (word16 on0 on1) (word16 off0 off1) ∧ t.Valid := by
  simp only [readDaily, require_eq_ok, decide_eq_true_eq, Except.ok.injEq]
  constructor
  · rintro ⟨days, on, off, rfl⟩
    exact ⟨rfl, days, on, off⟩
  · rintro ⟨rfl, days, on, off⟩
    exact ⟨days, on, off, rfl⟩

theorem readDated_eq_ok {a b : Stamp} {base : Nat} {t : Timing} (ha : a.inRange = true) (hb : b.inRange = true) :
    readDated (.ok a) (.ok b) base = .ok t ↔ t = .dated a b ∧ t.Valid := by
  have longest : Config.longestDated = 527040 := rfl
  rw [readDated, require_eq_ok, Bool.and_eq_true, decide_eq_true_iff, Stamp.before_iff ha hb, minutesBetween, longest,
    Except.ok.injEq]
  constructor
  · rintro ⟨⟨less, length⟩, rfl⟩
    exact ⟨rfl, ha, hb, less, by omega⟩
  · rintro ⟨rfl, -, -, less, length⟩
    exact ⟨⟨less, by omega⟩, rfl⟩

theorem readCycle_eq_ok {a : Stamp} {p0 p1 o0 o1 : Byte} {base : Nat} {t : Timing} (ha : a.inRange = true) :
    readCycle (.ok a) p0 p1 o0 o1 base = .ok t ↔ t = .cycle a (word16 p0 p1) (word16 o0 o1) ∧ t.Valid := by
  simp only [readCycle, require_eq_ok, decide_eq_true_eq, Except.ok.injEq]
  constructor
  · rintro ⟨⟨period, period'⟩, ⟨onLength, onLength'⟩, rfl⟩
    exact ⟨rfl, ha, period, period', onLength, onLength'⟩
  · rintro ⟨rfl, -, period, period', onLength, onLength'⟩
    exact ⟨⟨period, period'⟩, ⟨onLength, onLength'⟩, rfl⟩

/-! ### Definitions read are valid -/

theorem map_eq_ok {α β : Type} {f : α → β} {e : Except Nat α} {b : β} : e.map f = .ok b ↔ ∃ a, e = .ok a ∧ f a = b := by
  cases e <;> simp [Except.map]

/-- A timing read between the shared fields makes a valid definition where it is valid itself. -/
theorem requireTargets_valid {kp cl t0 t1 : Byte} {base : Nat} {timing : Except Nat Timing} {d : ProgDef}
    (valid : ∀ t, timing = .ok t → t.Valid)
    (read : requireTargets t0 t1 base (timing.map (sharedDef kp cl t0 t1)) = .ok d) : d.Valid := by
  obtain ⟨targets, read⟩ := require_eq_ok.mp read
  obtain ⟨t, ok, rfl⟩ := map_eq_ok.mp read
  exact (ProgDef.valid_iff _).mpr ⟨of_decide_eq_true targets, valid t ok⟩

theorem readDefinition_valid {ps : List Byte} {base : Nat} {d : ProgDef} (read : readDefinition ps base = .ok d) :
    d.Valid := by
  unfold readDefinition at read
  split at read
  · exact requireTargets_valid (fun t ok => (readDaily_eq_ok.mp ok).2) read
  · refine requireTargets_valid (fun t ok => ?_) read
    unfold readDated at ok
    split at ok
    · rename_i a b start stop
      exact ((readDated_eq_ok (readStamp_inRange start) (readStamp_inRange stop)).mp ok).2
    all_goals cases ok
  · refine requireTargets_valid (fun t ok => ?_) read
    unfold readCycle at ok
    split at ok
    · cases ok
    · rename_i a anchor
      exact ((readCycle_eq_ok (readStamp_inRange anchor)).mp ok).2
  · cases read

end Sys2Proof.Machine
end

section
/-! Parameters read at their places (R191 to R193, R198, R203, R204, R208, R211 to R213): the definition behind a flags byte or a name,
and the fields of the commands whose layout is fixed. -/

namespace Sys2Proof.Machine

/-! ### Definitions read back (R191 to R193) -/

theorem map_ok {α β : Type} {e : Except Nat α} {a : α} (h : e = .ok a) (f : α → β) : e.map f = .ok (f a) := by
  rw [h]
  rfl

/-- A valid definition behind `base` other bytes is read as itself (R181, R191). -/
theorem readDefinition_bytes {ps : List Byte} {base : Nat} {d : ProgDef} (valid : d.Valid) (behind : ps.drop base = d.bytes) :
    readDefinition ps base = .ok d := by
  obtain ⟨targets, timed⟩ := d.valid_iff.mp valid
  have chosen : decide (wireSet (byte d.targets.toNat) (byte (d.targets.toNat / 256)) ≠ 0) = true :=
    decide_eq_true (by rwa [wireSet_bytes])
  have shared {timing : Except Nat Timing} (read : timing = .ok d.timing) :
      requireTargets (byte d.targets.toNat) (byte (d.targets.toNat / 256)) base
        (timing.map (sharedDef (kindPriority d) (conditionByte d.condition d.level) (byte d.targets.toNat)
          (byte (d.targets.toNat / 256)))) = .ok d := by
    rw [requireTargets, require_true chosen, map_ok read, sharedDef_bytes]
  unfold readDefinition
  cases kind : d.timing with
  | daily days on off =>
    rw [kind] at timed
    obtain ⟨-, hon, hoff, -⟩ := id timed
    rw [behind, ProgDef.bytes, kind]
    refine shared (readDaily_eq_ok.mpr ⟨?_, kind ▸ timed⟩)
    have week : (days.setWidth 8).setWidth 7 = days := by simp
    rw [week, word16_bytes (by omega), word16_bytes (by omega), kind]
  | dated start stop =>
    rw [kind] at timed
    obtain ⟨hstart, hstop, -, -⟩ := id timed
    rw [behind, ProgDef.bytes, kind]
    refine shared ?_
    rw [readStamp_bytes hstart, readStamp_bytes hstop]
    exact (readDated_eq_ok hstart hstop).mpr ⟨kind, kind ▸ timed⟩
  | cycle anchor period onLength =>
    rw [kind] at timed
    obtain ⟨hanchor, -, period', -, onLength'⟩ := id timed
    rw [behind, ProgDef.bytes, kind]
    refine shared ?_
    rw [readStamp_bytes hanchor]
    refine (readCycle_eq_ok hanchor).mpr ⟨?_, kind ▸ timed⟩
    rw [word16_bytes (by omega), word16_bytes (by omega), kind]

/-- A definition's bytes have the length that goes with its kind (R191). -/
theorem definitionLength_bytes (d : ProgDef) : definitionLength (highNibble (kindPriority d)) = some d.bytes.length := by
  rw [highNibble_kindPriority, ProgDef.bytes]
  cases d.timing <;> rfl

theorem requireDefinitionLength_bytes {α : Type} {d : ProgDef} {length base : Nat} (k : Except Nat α)
    (fits : length = base + d.bytes.length) : requireDefinitionLength (kindPriority d) length base k = k := by
  rw [requireDefinitionLength, definitionLength_bytes]
  exact require_true (decide_eq_true fits)

theorem readCreateProgram_bytes {d : ProgDef} (valid : d.Valid) (f : Byte) :
    readCreateProgram (f :: d.bytes) = .ok (f.getLsbD 0, d) := by
  have read : readDefinition (f :: d.bytes) 1 = .ok d := readDefinition_bytes valid rfl
  exact (requireDefinitionLength_bytes _ (Nat.add_comm ..)).trans (map_ok read _)

/-- Behind a name in range the definition is checked and read (R193). -/
theorem readEditProgram_named {h g kp : Byte} {rest : List Byte} {n : Name 96} (name : readNameBytes 96 h g = .ok n) :
    readEditProgram (h :: g :: kp :: rest) = requireDefinitionLength kp (h :: g :: kp :: rest).length 2
      ((readDefinition (h :: g :: kp :: rest) 2).map fun d => (n, d)) := by
  simp only [readEditProgram, name]

theorem readEditProgram_bytes {d : ProgDef} (valid : d.Valid) {h g : Byte} {i : ProgIdx} {gen : Gen}
    (hh : h.toNat = i.val + 1) (hg : g.toNat = gen.val) : readEditProgram (h :: g :: d.bytes) = .ok (⟨i, gen⟩, d) := by
  have name : readNameBytes 96 h g = .ok ⟨i, gen⟩ := readName_val hh hg
  have read : readDefinition (h :: g :: d.bytes) 2 = .ok d := readDefinition_bytes valid rfl
  have fits : (h :: g :: d.bytes).length = 2 + d.bytes.length := Nat.add_comm d.bytes.length 2
  exact (readEditProgram_named name).trans ((requireDefinitionLength_bytes _ fits).trans (map_ok read _))

theorem readCreateProgram_valid {params : List Byte} {disabled : Bool} {d : ProgDef}
    (read : readCreateProgram params = .ok (disabled, d)) : d.Valid := by
  unfold readCreateProgram requireDefinitionLength at read
  split at read
  · split at read
    · cases read
    · obtain ⟨-, read⟩ := require_eq_ok.mp read
      obtain ⟨d', ok, same⟩ := map_eq_ok.mp read
      cases same
      exact readDefinition_valid ok
  all_goals cases read

theorem readEditProgram_valid {params : List Byte} {n : Name 96} {d : ProgDef}
    (read : readEditProgram params = .ok (n, d)) : d.Valid := by
  unfold readEditProgram requireDefinitionLength at read
  split at read
  · split at read
    · split at read
      · cases read
      · obtain ⟨-, read⟩ := require_eq_ok.mp read
        obtain ⟨d', ok, same⟩ := map_eq_ok.mp read
        cases same
        exact readDefinition_valid ok
    · cases read
  all_goals cases read

/-! ### The commands of a fixed layout -/

/-- A list of checks passes where each of them does. -/
@[simp] theorem firstFailing_cons (b : Bool) (index : Nat) (rest : List (Bool × Nat)) :
    firstFailing ((b, index) :: rest) = none ↔ b = true ∧ firstFailing rest = none := by
  cases b <;> simp [firstFailing]

@[simp] theorem firstFailing_nil : firstFailing [] = none := rfl

section Layouts

variable {b0 b1 b2 b3 b4 b5 b6 : Byte}

theorem createOverride_passes : firstFailing (paramChecks [b0, b1, b2, b3, b4] .createOverride) = none ↔
    b0.toNat / 16 ≤ 2 ∧ word16 b1 b2 ≠ 0 ∧ (b0.toNat / 16 = 0 → 1 ≤ word16 b3 b4 ∧ word16 b3 b4 ≤ 1440) := by
  show firstFailing [_, _, _, _] = none ↔ _
  simp only [firstFailing_cons, lengthCheck, rangeCheck, firstFailing_nil, decide_eq_true_eq, Nat.zero_le,
    and_true, true_and]
  exact and_iff_right rfl

theorem readCreateOverride_ok (passes : firstFailing (paramChecks [b0, b1, b2, b3, b4] .createOverride) = none) :
    readCreateOverride [b0, b1, b2, b3, b4] = .ok ⟨.host, lowNibble b0, wireSet b1 b2,
      if b0.toNat / 16 = 0 then .timed (word16 b3 b4) else if b0.toNat / 16 = 1 then .untilNext else .latched⟩ := by
  obtain ⟨kind, targets, minutes⟩ := createOverride_passes.mp passes
  have chosen : wireSet b1 b2 ≠ 0 := (wireSet_ne_zero_iff ..).mpr targets
  have known : highNibble b0 ≤ 2 := kind
  simp only [readCreateOverride, require_true (decide_eq_true known), require_true (decide_eq_true chosen)]
  by_cases timed : b0.toNat / 16 = 0
  · have inRange : minutesInRange (word16 b3 b4) = true := decide_eq_true (minutes timed)
    rw [highNibble, if_pos timed, if_pos timed, require_true inRange]
  · rw [highNibble, if_neg timed, if_neg timed]
    split_ifs <;> rfl

theorem configureChannel_passes : firstFailing (paramChecks [b0, b1] .configureChannel) = none ↔
    b0.toNat ≤ 15 ∧ b1.toNat / 8 % 8 ≤ 4 := by
  show firstFailing [_, _, _] = none ↔ _
  simp only [firstFailing_cons, lengthCheck, rangeCheck, firstFailing_nil, decide_eq_true_eq, Nat.zero_le,
    and_true, true_and]
  exact and_iff_right rfl

/-- A group code's group (R183). -/
theorem groupOfCode_eq {code : Nat} (h : code ≤ 4) : groupOfCode code =
    if code = 1 then some .A else if code = 2 then some .B else if code = 3 then some .C else if code = 4 then some .D
    else none := by
  interval_cases code <;> rfl

theorem readConfigureChannel_ok (passes : firstFailing (paramChecks [b0, b1] .configureChannel) = none) {ch : Chan}
    (hch : b0.toNat = ch.val) : readConfigureChannel [b0, b1] = .ok ⟨ch, if b1.getLsbD 7 then .dimmed else .switch,
      (if b1.toNat / 8 % 8 = 1 then some .A else if b1.toNat / 8 % 8 = 2 then some .B
        else if b1.toNat / 8 % 8 = 3 then some .C else if b1.toNat / 8 % 8 = 4 then some .D else none),
      if b1.getLsbD 6 then .first else .normal⟩ := by
  obtain ⟨-, code⟩ := configureChannel_passes.mp passes
  simp only [readConfigureChannel, readChanByte_val hch, require_true (decide_eq_true code), groupOfCode_eq code]

theorem readChannelTiming_ok {ch : Chan} {ramp : Fin 16} {retry : Fin 4} (hch : b0.toNat = ch.val)
    (hramp : b3.toNat = ramp.val) (hretry : b4.toNat = retry.val) :
    readChannelTiming [b0, b1, b2, b3, b4] = .ok ⟨ch, b1, b2, ramp, retry⟩ := by
  simp only [readChannelTiming, readChanByte_val hch, hramp, hretry, asFin_val]

theorem readConfigureGroup_ok {g : Group} (hg : b0.toNat = g.idx.val + 1) : readConfigureGroup [b0, b1] = .ok (g, b1) := by
  have range : 1 ≤ b0.toNat ∧ b0.toNat ≤ 4 := by omega
  rw [readConfigureGroup, require_true (decide_eq_true range), hg]
  cases g <;> rfl

theorem configureGate_passes : firstFailing (paramChecks [b0, b1, b2, b3, b4] .configureGate) = none ↔
    b0.toNat ≤ 3 ∧ b2.toNat ≤ 254 ∧ (max 1 (b2.toNat + 1) ≤ b3.toNat ∧ b3.toNat ≤ 255) ∧
      (1 ≤ b4.toNat ∧ b4.toNat ≤ 15) := by
  show firstFailing [_, _, _, _, _] = none ↔ _
  simp only [firstFailing_cons, lengthCheck, rangeCheck, firstFailing_nil, decide_eq_true_eq, Nat.zero_le,
    and_true, true_and]
  exact and_iff_right rfl

theorem readConfigureGate_ok (passes : firstFailing (paramChecks [b0, b1, b2, b3, b4] .configureGate) = none) {g : GateIdx}
    {debounce : Fin 16} (hg : b0.toNat = g.val) (hd : b4.toNat = debounce.val) :
    readConfigureGate [b0, b1, b2, b3, b4] = .ok (g, ⟨b1.getLsbD 7, b2, b3, debounce⟩) := by
  obtain ⟨-, low, ⟨high, -⟩, count⟩ := configureGate_passes.mp passes
  have above : 1 ≤ b3.toNat ∧ b2.toNat < b3.toNat := by omega
  have field : Fin.ofNat 16 b4.toNat = debounce := by rw [hd, Fin.ofNat_val_eq_self]
  simp only [readConfigureGate, hg, asFin_val, require_true (decide_eq_true low), require_true (decide_eq_true above),
    require_true (decide_eq_true count), field]

theorem setGateMode_passes : firstFailing (paramChecks [b0, b1] .setGateMode) = none ↔ b0.toNat ≤ 3 ∧ b1.toNat ≤ 2 := by
  show firstFailing [_, _, _] = none ↔ _
  simp only [firstFailing_cons, lengthCheck, rangeCheck, firstFailing_nil, decide_eq_true_eq, Nat.zero_le,
    and_true, true_and]
  exact and_iff_right rfl

theorem readGateMode_ok (passes : firstFailing (paramChecks [b0, b1] .setGateMode) = none) {g : GateIdx}
    (hg : b0.toNat = g.val) : readGateMode [b0, b1] =
      .ok (g, if b1 = 0 then .auto else if b1 = 1 then .forcedLow else .forcedHigh) := by
  obtain ⟨-, code⟩ := setGateMode_passes.mp passes
  have mode : gateModeOfCode b1 1 = .ok (if b1 = 0 then .auto else if b1 = 1 then .forcedLow else .forcedHigh) := by
    unfold gateModeOfCode
    split_ifs with auto low high
    · rfl
    · rfl
    · rfl
    · bv_omega
  simp only [readGateMode, hg, asFin_val, mode]

theorem bindKey_passes : firstFailing (paramChecks [b0, b1, b2, b3, b4, b5, b6] .bindKey) = none ↔
    (1 ≤ b0.toNat ∧ b0.toNat ≤ 8) ∧ b1.toNat / 16 ≤ 4 ∧ (b1.toNat / 16 ≠ 0 → word16 b2 b3 ≠ 0) ∧
      (b1.toNat / 16 ≠ 0 → b1.toNat % 16 ≠ 0) ∧ (b1.toNat / 16 ≠ 0 → 1 ≤ b4.toNat / 16 ∧ b4.toNat / 16 ≤ 3) ∧
      (b1.toNat / 16 ≠ 0 → b4.toNat / 16 = 1 → 1 ≤ word16 b5 b6 ∧ word16 b5 b6 ≤ 1440) := by
  show firstFailing [_, _, _, _, _, _, _] = none ↔ _
  simp only [firstFailing_cons, lengthCheck, rangeCheck, firstFailing_nil, decide_eq_true_eq, Nat.zero_le,
    and_true, true_and]
  exact and_iff_right rfl

theorem readDuration_ok {code minutes : Nat} (range : 1 ≤ code ∧ code ≤ 3)
    (timed : code = 1 → 1 ≤ minutes ∧ minutes ≤ 1440) : readDuration code minutes =
      .ok (if code = 1 then .timed minutes else if code = 2 then .untilNext else .latched) := by
  unfold readDuration
  split_ifs with one two three
  · exact require_true (decide_eq_true (timed one))
  · rfl
  · rfl
  · omega

/-- The action a code of 1 to 4 stands for (R185). -/
def keyActionOf (code : Nat) : KeyAction :=
  if code = 1 then .toggle else if code = 2 then .on else if code = 3 then .off else .release

theorem actionOfCode_eq {code : Nat} (bound : code ≠ 0) (h : code ≤ 4) (index : Nat) :
    actionOfCode code index = .ok (some (keyActionOf code)) := by
  interval_cases code <;> first | exact absurd rfl bound | rfl

theorem readBindKey_none {k : KeyIdx} (hk : b0.toNat = k.val + 1) (unbound : b1.toNat / 16 = 0) :
    readBindKey [b0, b1, b2, b3, b4, b5, b6] = .ok (k, none) := by
  simp only [readBindKey, readHandle_val hk, highNibble, unbound, actionOfCode, if_true]

theorem readBindKey_some (passes : firstFailing (paramChecks [b0, b1, b2, b3, b4, b5, b6] .bindKey) = none) {k : KeyIdx}
    (hk : b0.toNat = k.val + 1) (bound : b1.toNat / 16 ≠ 0) : readBindKey [b0, b1, b2, b3, b4, b5, b6] =
      .ok (k, some ⟨keyActionOf (b1.toNat / 16), wireSet b2 b3, lowNibble b1,
        if b4.toNat / 16 = 1 then .timed (word16 b5 b6) else if b4.toNat / 16 = 2 then .untilNext else .latched⟩) := by
  obtain ⟨-, action, targets, level, duration, minutes⟩ := bindKey_passes.mp passes
  have chosen : wireSet b2 b3 ≠ 0 := (wireSet_ne_zero_iff ..).mpr (targets bound)
  have lit : lowNibble b1 ≠ 0 := fun dark => level bound (congrArg Fin.val dark)
  simp only [readBindKey, readHandle_val hk, highNibble, actionOfCode_eq bound action, require_true (decide_eq_true chosen),
    require_true (decide_eq_true lit), readDuration_ok (duration bound) (minutes bound)]
  rfl

end Layouts

/-- Settles O60: the definition's round trip, and each layout's fields. -/
theorem definitionsReadBackAsReported : Obligations.DefinitionsReadBackAsReported := by
  refine ⟨fun _ _ _ => readCreateProgram_valid, fun _ _ _ => readEditProgram_valid, fun d valid =>
    ⟨readCreateProgram_bytes valid, fun h g i gen => readEditProgram_bytes valid⟩, fun b0 b1 b2 b3 b4 b5 b6 => ?_⟩
  refine ⟨readCreateOverride_ok, fun passes ch => readConfigureChannel_ok passes,
    fun _ ch ramp retry => readChannelTiming_ok, fun g => readConfigureGroup_ok,
    fun passes g debounce => readConfigureGate_ok passes, fun passes g => readGateMode_ok passes, fun passes k hk => ?_⟩
  intro duration bound
  by_cases unbound : b1.toNat / 16 = 0
  · rw [readBindKey_none hk unbound, if_pos unbound]
  · have action : (if b1.toNat / 16 = 1 then some (bound .toggle) else if b1.toNat / 16 = 2 then some (bound .on)
        else if b1.toNat / 16 = 3 then some (bound .off) else some (bound .release)) =
        some (bound (keyActionOf (b1.toNat / 16))) := by
      unfold keyActionOf
      split_ifs <;> rfl
    rw [readBindKey_some passes hk unbound, if_neg unbound, action]
    rfl

end Sys2Proof.Machine
end

section
/-! The reports' encodings (R180 to R185): each field of the model's reports as the layouts give it. -/

namespace Sys2Proof.Machine

/-! ### Recurring encodings (R180) -/

theorem nibbles_eq {high : Nat} (low : Nat) (h : high < 16) : nibbles high low = byte (high * 16 + low % 16) := by
  rw [nibbles, Nat.mod_eq_of_lt h]

theorem nibbles_of_lt {high low : Nat} (h : high < 16) (l : low < 16) : nibbles high low = byte (high * 16 + low) := by
  rw [nibbles_eq low h, Nat.mod_eq_of_lt l]

theorem flagBit_eq (i : Nat) (b : Bool) : flagBit i b = if b then BitVec.ofNat 8 (2 ^ i) else 0 := by
  have place : BitVec.twoPow 8 i = BitVec.ofNat 8 (2 ^ i) := BitVec.eq_of_toNat_eq (by simp [BitVec.toNat_twoPow])
  rw [flagBit, place]

theorem sourceBytes_eq (x : Source) (l : Level) : sourceBytes x l = match x with
    | .fallback => [0, byte l.val]
    | .program i g => [byte (i.val + 1), byte (g.val * 16 + l.val)]
    | .override i g => [byte (0x81 + i.val), byte (g.val * 16 + l.val)] := by
  cases x with
  | fallback => rw [sourceBytes, Source.gen, nibbles_of_lt (by decide) l.isLt, Nat.zero_mul, Nat.zero_add, Source.byte]
  | program i g | override i g => rw [sourceBytes, Source.gen, nibbles_of_lt g.isLt l.isLt, Source.byte]

theorem byte_originCode (o : Origin) : byte o.code = match o with
    | .host => 0
    | .key k => byte (k.val + 1) := by
  cases o <;> rfl

theorem holderByte_zero (h : Option Chan) : holderByte h 0 = match h with
    | some c => byte (128 + c.val)
    | none => 0 := by
  cases h <;> rfl

/-- A report's completion: its parameters pass, and the report is the payload of its answer (R172, R187). -/
theorem next_report {α : Type} {code : Byte} {ps payload : List Byte} {read : List Byte → Except Nat α} {a : α} {s : State}
    (report : State → α → List Byte) (held : s.holds code ps) (passes : read ps = .ok a) (layout : report s a = payload) :
    (Host.Outcome.next (complete code (fun ps s => checked (read ps) s fun a => answerOk s (report s a)) s) :
      Host.Outcome State Fault Refusal) = .next (s.answered code .ok payload) :=
  next_complete held (by rw [checked_ok passes, ← layout]; rfl)

theorem readKey_val {b : Byte} {k : KeyIdx} (h : b.toNat = k.val + 1) : readKey [b] = .ok k := readHandle_val h 0

/-! ### Programs (R181, R197) -/

theorem kindPriority_eq (d : ProgDef) : kindPriority d = byte (d.timing.code * 16 + d.priority.val) :=
  nibbles_of_lt (d.timing.code_lt.trans (by decide)) (d.priority.isLt.trans (by decide))

theorem conditionByte_eq (c : Option Condition) (l : Level) : conditionByte c l = byte ((match c with
    | none => 0
    | some c => 128 + c.gate.val * 32 + (match c.sense with
      | .low => 0
      | .high => 16)) + l.val) := by
  cases c with
  | none => rw [conditionByte, Nat.zero_add]
  | some c =>
    obtain ⟨gate, sense⟩ := c
    cases sense <;> rfl

theorem days_byte (days : BitVec 7) : days.setWidth 8 = byte days.toNat := (BitVec.ofNat_toNat 8 days).symm

/-- A live record's report, with its timing and its activation stamp apart (R181). -/
theorem programReport_eq {i : ProgIdx} {x : ProgSlot} {r : ProgRec} (live : x.live = some r) : programReport i x r =
    [byte (i.val + 1), byte (x.gen.val * 16 + r.state.code), byte (r.defn.timing.code * 16 + r.defn.priority.val),
      conditionByte r.defn.condition r.defn.level] ++ bytes16 r.defn.targets.toNat ++ r.defn.timing.bytes ++
      match r.state with
      | .active since => stampBytes since
      | .disabled | .untimed | .waiting | .suppressed => [] := by
  rw [programReport, ProgDef.bytes, ProgSlot.genState_live live, kindPriority_eq]
  rfl

/-- A live slot's entry of a LIST PROGRAMS page. -/
theorem listEntry_eq (t : Vector ProgSlot 96) (i : ProgIdx) : listEntry t i = match t[i].live with
    | some r => [byte (i.val + 1), byte (t[i].gen.val * 16 + r.state.code),
        byte (r.defn.timing.code * 16 + r.defn.priority.val)]
    | none => [] := by
  unfold listEntry
  cases live : t[i].live with
  | none => rfl
  | some r =>
    simp only [ProgSlot.genState_live live, kindPriority_eq]
    rfl

theorem readListPrograms_ok {c e0 e1 : Byte} (h : c.toNat ≤ 96) : readListPrograms [c, e0, e1] = .ok (c.toNat, e1 ++ e0) :=
  require_true (decide_eq_true h)

/-! ### Overrides (R182) -/

theorem OvrKind.code_lt (k : OvrKind) : k.code < 16 := by cases k <;> simp [OvrKind.code]

theorem OvrKind.bits_eq (k : OvrKind) : k.code * 16 = match k with
    | .timed _ _ => 0
    | .untilNext _ => 16
    | .latched => 32 := by
  cases k <;> rfl

theorem OvrKind.bytes_eq (k : OvrKind) (now : RunCount) : k.bytes now = match k with
    | .timed start minutes => bytes32 (start + BitVec.ofNat 32 (minutes * 600)).toNat ++
        bytes16 ((minutes * 600 - (now - start).toNat + 599) / 600)
    | .untilNext baselines => (baselines.map fun x => sourceBytes x.2.source x.2.level).flatten
    | .latched => [] := by
  cases k <;> rfl

theorem OvrReason.byte_eq (reason : OvrReason) : byte reason.code = match reason with
    | .none => 0
    | .expired => 1
    | .programChanged => 2
    | .cancelled => 3
    | .superseded => 4
    | .restart => 5 := by
  cases reason <;> rfl

/-- A slot's summary: 3 bytes while it is free, the record with what its kind adds while it is live. -/
theorem overrideSummary_eq (i : OvrIdx) (x : OvrSlot) (now : RunCount) : overrideSummary i x now = match x.live with
    | none => [byte (i.val + 1), byte (x.gen.val * 16), byte x.reason.code]
    | some r => [byte (i.val + 1), byte (x.gen.val * 16 + 1), byte r.origin.code, byte (r.kind.code * 16 + r.level.val)] ++
        bytes16 r.channels.toNat ++ bytes32 r.createdAt.toNat ++ r.kind.bytes now := by
  unfold overrideSummary
  cases x.live with
  | none =>
    have genFree : nibbles x.gen.val 0 = byte (x.gen.val * 16) := nibbles_of_lt x.gen.isLt (by decide)
    simp only [genFree]
  | some r =>
    have genLive : nibbles x.gen.val 1 = byte (x.gen.val * 16 + 1) := nibbles_of_lt x.gen.isLt (by decide)
    simp only [genLive, nibbles_of_lt r.kind.code_lt r.level.isLt]
    rfl

/-- The summaries that fit whole are the first of those listed, as many as fit, and the slot to ask for next is the first that
did not (R182). -/
theorem fitSummaries_eq (t : Vector OvrSlot 16) (now : RunCount) (is : List OvrIdx) (left : Nat) :
    ∃ k ≤ is.length, let summaries := is.map fun i => overrideSummary i t[i] now
      fitSummaries t now is left = ((summaries.take k).flatten, match is[k]? with
        | some i => i.val + 1
        | none => 0) ∧
      (summaries.take k).flatten.length ≤ left ∧ (k < is.length → left < (summaries.take (k + 1)).flatten.length) := by
  induction is generalizing left with
  | nil => exact ⟨0, Nat.le_refl 0, rfl, Nat.zero_le left, fun h => absurd h (Nat.lt_irrefl 0)⟩
  | cons i is ih =>
    rw [fitSummaries]
    split
    · rename_i fits
      obtain ⟨k, bound, fitted, inside, exceeds⟩ := ih (left - (overrideSummary i t[i] now).length)
      refine ⟨k + 1, Nat.succ_le_succ bound, ?_, ?_, fun more => ?_⟩
      · simp only [fitted]
        rfl
      · simp only [List.map_cons, List.take_succ_cons, List.flatten_cons, List.length_append]
        omega
      · have exceeds := exceeds (Nat.lt_of_succ_lt_succ more)
        simp only [List.map_cons, List.take_succ_cons, List.flatten_cons, List.length_append]
        omega
    · rename_i wide
      refine ⟨0, Nat.zero_le _, rfl, Nat.zero_le left, fun _ => ?_⟩
      simpa using wide

/-- The slots from one on, in order. -/
theorem slotsFrom_eq (first : OvrIdx) :
    ((List.finRange 16).filter fun i => decide (first ≤ i)) = (List.finRange 16).drop first.val := by
  revert first
  decide

/-- A READ OVERRIDES page: the summaries from the slot asked for, as many as fit whole in 60 bytes with the epoch and the next
slot to ask for (R182). -/
theorem overridePage_eq (epoch : BitVec 16) (t : Vector OvrSlot 16) (now : RunCount) (first : OvrIdx) :
    ∃ k : Nat, first.val + k ≤ 16 ∧
      let rest := ((List.finRange 16).drop first.val).map fun i => overrideSummary i t[i] now
      overridePage epoch t now first = bytes16 epoch.toNat ++
        [byte (if first.val + k = 16 then 0 else first.val + k + 1)] ++ (rest.take k).flatten ∧
      (rest.take k).flatten.length ≤ 57 ∧ (first.val + k < 16 → 57 < (rest.take (k + 1)).flatten.length) := by
  obtain ⟨k, bound, fitted, inside, exceeds⟩ := fitSummaries_eq t now ((List.finRange 16).drop first.val) 57
  have length : ((List.finRange 16).drop first.val).length = 16 - first.val := by simp
  rw [length] at bound exceeds
  refine ⟨k, by omega, ?_, inside, fun more => exceeds (by omega)⟩
  have next : (match ((List.finRange 16).drop first.val)[k]? with
      | some i => i.val + 1
      | none => 0) = if first.val + k = 16 then 0 else first.val + k + 1 := by
    rw [List.getElem?_drop]
    split_ifs with last
    · simp [last]
    · have inTable : first.val + k < 16 := by omega
      simp [inTable]
  have budget : Config.maxPayload - 3 = 57 := rfl
  rw [overridePage, slotsFrom_eq, budget, fitted, ← next]
  rfl

theorem State.namedOverride_live {s : State} {n : Name 16} {r : OvrRec} (gen : s.ret.overrides[n.slot].gen = n.gen)
    (live : s.ret.overrides[n.slot].live = some r) : s.namedOverride n = .live r := by
  rw [State.namedOverride, judgeName_present gen.symm, live]

theorem State.namedProgram_live {s : State} {n : Name 96} {r : ProgRec} (gen : s.ret.programs[n.slot].gen = n.gen)
    (live : s.ret.programs[n.slot].live = some r) : s.namedProgram n = .live r := by
  rw [State.namedProgram, judgeName_present gen.symm, live]

end Sys2Proof.Machine
end

section
/-! The reports' answers (R37, R39, R58, R72, R94, R95, R122, R152). -/

namespace Sys2Proof.Machine

theorem Timing.bytes_eq (t : Timing) : t.bytes = match t with
    | .daily days on off => [byte days.toNat] ++ bytes16 on ++ bytes16 off
    | .dated start stop => calendarStampBytes start ++ calendarStampBytes stop
    | .cycle anchor period onLength => calendarStampBytes anchor ++ bytes16 period ++ bytes16 onLength := by
  cases t with
  | daily days on off => rw [Timing.bytes, days_byte]
  | dated start stop => rfl
  | cycle anchor period onLength => rfl

theorem listed_eq (t : Vector ProgSlot 96) (cursor : Nat) : listed t cursor =
    ((List.finRange 96).filter fun i => decide (cursor ≤ i.val) && t[i].live.isSome).take 8 := by
  simp only [listed, Nat.lt_succ_iff]

theorem programPage_eq (epoch : BitVec 16) (t : Vector ProgSlot 96) (cursor : Nat) : programPage epoch t cursor =
    let page := ((List.finRange 96).filter fun i => decide (cursor ≤ i.val) && t[i].live.isSome).take 8
    bytes16 epoch.toNat ++ [byte page.length] ++ (page.map (listEntry t)).flatten := by
  rw [programPage, listed_eq]

/-- READ OVERRIDES with one parameter byte asks for a page. -/
theorem readOverridesQuery_page {f : Byte} {first : OvrIdx} (h : f.toNat = first.val + 1) :
    readOverridesQuery [f] = .ok (.page first) := by
  rw [readOverridesQuery, readHandle_val h 0]
  rfl

/-! ### The owners' answers -/

theorem ownReadProgram_live {s : State} {h g : Byte} {i : ProgIdx} {r : ProgRec} (handle : h.toNat = i.val + 1)
    (gen : g.toNat = s.ret.programs[i].gen.val) (live : s.ret.programs[i].live = some r) :
    ownReadProgram [h, g] s = answerOk s (programReport i s.ret.programs[i] r) := by
  rw [ownReadProgram, checked_ok (readName_val handle gen), State.namedProgram_live rfl live]

theorem ownListPrograms_moved {s : State} {c e0 e1 : Byte} (inRange : c.toNat ≤ 96)
    (moved : c ≠ 0 ∧ e1 ++ e0 ≠ s.ret.epoch) :
    ownListPrograms [c, e0, e1] s = ⟨s, .epochMoved, bytes16 s.ret.epoch.toNat⟩ := by
  rw [ownListPrograms, checked_ok (readListPrograms_ok inRange)]
  exact if_pos ⟨fun zero => moved.1 (BitVec.eq_of_toNat_eq zero), moved.2⟩

theorem ownListPrograms_page {s : State} {c e0 e1 : Byte} (inRange : c.toNat ≤ 96)
    (fresh : c = 0 ∨ e1 ++ e0 = s.ret.epoch) :
    ownListPrograms [c, e0, e1] s = answerOk s (programPage s.ret.epoch s.ret.programs c.toNat) := by
  rw [ownListPrograms, checked_ok (readListPrograms_ok inRange)]
  refine if_neg fun ⟨more, other⟩ => ?_
  obtain rfl | same := fresh
  · exact more rfl
  · exact other same

theorem ownReadOverrides_page {s : State} {f : Byte} {first : OvrIdx} (handle : f.toNat = first.val + 1) :
    ownReadOverrides [f] s = answerOk s (overridePage s.ret.epoch s.ret.overrides s.runCount first) := by
  rw [ownReadOverrides, checked_ok (readOverridesQuery_page handle)]

theorem ownReadOverrides_single {s : State} {h g : Byte} {i : OvrIdx} {r : OvrRec} (handle : h.toNat = i.val + 1)
    (gen : g.toNat = s.ret.overrides[i].gen.val) (live : s.ret.overrides[i].live = some r) :
    ownReadOverrides [h, g] s =
      answerOk s (bytes16 s.ret.epoch.toNat ++ overrideSummary i s.ret.overrides[i] s.runCount) := by
  rw [ownReadOverrides, checked_ok (readOverridesQuery_single handle gen)]
  dsimp only
  rw [State.namedOverride_live rfl live]

end Sys2Proof.Machine
end

section
/-! The reports on channels, gates, the queue and the keys, field by field (R183 to R185). -/

namespace Sys2Proof.Machine

/-! ### Channels (R183) -/

theorem groupBits_eq (g : Option Group) : groupCode g * 8 = match g with
    | none => 0
    | some .A => 0x08
    | some .B => 0x10
    | some .C => 0x18
    | some .D => 0x20 := by
  cases g with
  | none => rfl
  | some g => cases g <;> rfl

theorem rankByte_eq (r : Rank) : byte r.code = match r with
    | .program p => byte p.val
    | .override => 8
    | .fallback => 15 := by
  cases r <;> rfl

theorem switchingByte_eq (w : SwState) : nibbles w.code w.holdCode = match w with
    | .off => 0x00
    | .hold .allOff => 0x11
    | .hold .dwell => 0x12
    | .hold .group => 0x13
    | .queued => 0x20
    | .on => 0x30
    | .ending => 0x40
    | .fading => 0x50
    | .faulted => 0x60
    | .locked => 0x70 := by
  cases w with
  | hold why => cases why <;> rfl
  | off | queued | on | ending | fading | faulted | locked => rfl

theorem channelReport_length (s : State) (ch : Chan) : (channelReport s ch).length = 28 := rfl

/-! ### The ranked list (R184) -/

/-- A candidate is the override on its channel. -/
def Candidate.isOverride : Candidate → Bool
  | .override _ => true
  | .program _ | .fallback _ => false

theorem overrideCands_isOverride (t : Vector OvrSlot 16) (ch : Chan) (c : Candidate) (listed : c ∈ overrideCands t ch) :
    c.isOverride = true := by
  rw [overrideCands_eq, List.mem_filterMap] at listed
  obtain ⟨i, -, candidate⟩ := listed
  obtain ⟨r, -, -, rfl⟩ := overrideCandAt_eq_some.mp candidate
  rfl

theorem programRanking_not_isOverride (s : State) (ch : Chan) (c : Candidate) (listed : c ∈ programRanking s ch) :
    ¬ c.isOverride = true := by
  rw [programRanking, List.mem_append, List.mem_map, List.mem_singleton] at listed
  obtain ⟨p, -, rfl⟩ | rfl := listed <;> exact Bool.false_ne_true

/-- The candidates before the verdict's place are the overrides (R184). -/
theorem ranking_filter_isOverride (s : State) (ch : Chan) :
    (ranking s ch).filter Candidate.isOverride = overrideCands s.ret.overrides ch := by
  rw [ranking, List.filter_append, List.filter_eq_self.mpr (overrideCands_isOverride _ ch),
    List.filter_eq_nil_iff.mpr (programRanking_not_isOverride s ch), List.append_nil]

/-- The group's code stands between a holder byte's two fields. -/
theorem holderByte_group (h : Option Chan) (g : Group) :
    holderByte h (groupCode (some g) * 16) = holderByte h 0 ||| byte (match g with
      | .A => 0x10
      | .B => 0x20
      | .C => 0x30
      | .D => 0x40) := by
  cases h with
  | none => cases g <;> rfl
  | some c => revert c; cases g <;> decide

theorem State.groupHolderByte_eq (s : State) (ch : Chan) :
    holderByte (s.holderOf ch) (groupCode (s.chan ch).group * 16) = match (s.chan ch).group with
      | none => 0
      | some g => holderByte s.holders[g.idx] 0 ||| byte (match g with
        | .A => 0x10
        | .B => 0x20
        | .C => 0x30
        | .D => 0x40) := by
  rw [State.holderOf]
  cases (s.chan ch).group with
  | none => rfl
  | some g => exact holderByte_group _ g

theorem Candidate.bytes_eq (c : Candidate) : c.bytes = match c with
    | .override o => sourceBytes (.override o.slot o.gen) o.level ++ [byte o.origin.code]
    | .program p => sourceBytes (.program p.slot p.gen) p.level ++ [byte p.priority.val] ++ bytes32 p.stamp.toNat
    | .fallback l => [0x00, byte l.val] := by
  cases c <;> rfl

theorem Candidate.bytes_length (c : Candidate) : c.bytes.length ≤ 7 := by
  cases c with
  | override c => exact (by decide : 3 ≤ 7)
  | program c => exact (by decide : 7 ≤ 7)
  | fallback l => exact (by decide : 2 ≤ 7)

/-- Eight candidates fit a payload behind the header of 4 bytes. -/
theorem explainReport_length (s : State) (ch : Chan) : (explainReport s ch).length ≤ 60 := by
  have each : ∀ n ∈ ((ranking s ch).take 8).map fun c => c.bytes.length, n ≤ 7 := by
    intro n listed
    obtain ⟨c, -, rfl⟩ := List.mem_map.mp listed
    exact c.bytes_length
  have whole := List.sum_le_card_nsmul _ 7 each
  have eight : ((ranking s ch).take 8).length ≤ 8 := List.length_take_le 8 _
  simp only [explainReport, List.length_append, List.length_flatten, List.map_map, Function.comp_def, List.length_cons,
    List.length_nil]
  simp only [List.length_map, smul_eq_mul] at whole
  omega

/-! ### Gates, the queue and the keys (R185) -/

theorem GateMode.bits_eq (m : GateMode) : m.code * 32 = match m with
    | .auto => 0
    | .forcedLow => 0x20
    | .forcedHigh => 0x40 := by
  cases m <;> rfl

theorem GateState.bits_eq (st : GateState) : st.code * 8 = match st with
    | .disabled => 0
    | .unknown => 0x08
    | .low => 0x10
    | .high => 0x18 := by
  cases st <;> rfl

theorem Direction.bits_eq (d : Direction) : d.code * 2 = match d with
    | .none => 0
    | .towardLow => 2
    | .towardHigh => 4 := by
  cases d <;> rfl

/-- The tenths before the head may be admitted (R122). -/
theorem State.headWait_eq (s : State) : s.headWait =
    if s.queue = [] ∨ s.staggerPast = true then 0 else s.ret.stagger.toNat - (s.runCount - s.lastAdm).toNat := by
  rw [State.headWait, remainingUnlessPast, remaining]
  split_ifs <;> tauto

theorem KeyAction.code_lt (a : KeyAction) : a.code < 16 := by cases a <;> simp [KeyAction.code]

theorem Duration.code_lt (d : Duration) : d.code < 16 := by cases d <;> simp [Duration.code]

theorem KeyState.code_lt (st : KeyState) : st.code < 16 := by cases st <;> simp [KeyState.code]

theorem KeyAction.bits_eq (a : KeyAction) : a.code * 16 = match a with
    | .toggle => 0x10
    | .on => 0x20
    | .off => 0x30
    | .release => 0x40 := by
  cases a <;> rfl

theorem durationBytes_eq (d : Duration) (state : Nat) : [byte (d.code * 16 + state)] ++ bytes16 d.minutes = match d with
    | .timed minutes => [byte (0x10 + state)] ++ bytes16 minutes
    | .untilNext => [byte (0x20 + state), 0, 0]
    | .latched => [byte (0x30 + state), 0, 0] := by
  cases d with
  | timed minutes => rw [Duration.code, Duration.minutes, Nat.one_mul]
  | untilNext => rfl
  | latched => rfl

theorem KeyState.heldByte_eq (st : KeyState) (now : RunCount) : byte (st.held now) = match st with
    | .pressed since => byte (now - since).toNat
    | _ => 0 := by
  cases st <;> rfl

theorem keyReport_unbound {s : State} {k : KeyIdx} (unbound : s.ret.bindings[k] = none) : keyReport s k =
    [byte (k.val + 1)] ++ [0, 0, 0, byte s.keys[k].state.code, 0, 0] ++
      [flagBit 0 s.keys[k].down ||| flagBit 1 s.ret.panelLocked, byte (s.keys[k].state.held s.runCount)] := by
  have low := nibbles_of_lt (high := 0) (by decide) s.keys[k].state.code_lt
  rw [Nat.zero_mul, Nat.zero_add] at low
  simp only [keyReport, unbound, low]
  rfl

theorem keyReport_bound {s : State} {k : KeyIdx} {x : Binding} (bound : s.ret.bindings[k] = some x) : keyReport s k =
    [byte (k.val + 1)] ++ ([byte (x.action.code * 16 + x.level.val)] ++ bytes16 x.channels.toNat ++
        ([byte (x.duration.code * 16 + s.keys[k].state.code)] ++ bytes16 x.duration.minutes)) ++
      [flagBit 0 s.keys[k].down ||| flagBit 1 s.ret.panelLocked, byte (s.keys[k].state.held s.runCount)] := by
  simp only [keyReport, bound, nibbles_of_lt x.action.code_lt x.level.isLt,
    nibbles_of_lt x.duration.code_lt s.keys[k].state.code_lt]
  rfl

end Sys2Proof.Machine
end

section
/-! What the reports answer (R181 to R185). -/

namespace Sys2Proof.Machine

/-- Settles O27: each report passes its checks and is completed with its payload, whose fields are the layout's. -/
theorem reportsChangeNothing : Obligations.ReportsChangeNothing := by
  unfold Obligations.ReportsChangeNothing
  intro b flag two four calendarStamp source origin holder kind progState
  have flagEq : flag = flagBit := (funext₂ flagBit_eq).symm
  have sourceEq : source = sourceBytes := (funext₂ sourceBytes_eq).symm
  have originEq : origin = fun o => byte o.code := (funext byte_originCode).symm
  have holderEq : holder = fun h => holderByte h 0 := (funext holderByte_zero).symm
  have kindEq : kind = Timing.code := by funext t; cases t <;> rfl
  have stateEq : progState = ProgState.code := by funext st; cases st <;> rfl
  clear_value flag source origin holder kind progState
  subst flagEq sourceEq originEq holderEq kindEq stateEq
  refine ⟨?_, ?_, ?_, ?_, ?_, ?_, ?_, ?_⟩
  case refine_1 =>
    intro s h g i r held handle gen live
    refine next_complete held ?_
    rw [ownReadProgram_live handle gen live, programReport_eq live, conditionByte_eq, Timing.bytes_eq, gen]
    obtain ⟨defn, _ | _ | _ | _ | _⟩ := r <;> rfl
  case refine_2 =>
    intro s c e0 e1 held inRange
    refine ⟨fun moved => ?_, fun fresh => ?_⟩
    · exact next_complete held (by rw [ownListPrograms_moved inRange moved]; rfl)
    · exact next_complete held (by rw [ownListPrograms_page inRange fresh, programPage_eq, funext (listEntry_eq _)]; rfl)
  case refine_3 =>
    intro s summary
    have summaryEq : summary = fun i => overrideSummary i s.ret.overrides[i] s.runCount := by
      funext i
      simp only [overrideSummary_eq, OvrReason.byte_eq, OvrKind.bits_eq, OvrKind.bytes_eq]
      rfl
    clear_value summary
    subst summaryEq
    refine ⟨fun f first held handle => ?_, fun h g i r held handle gen live => ?_⟩
    · obtain ⟨k, bound, page, inside, exceeds⟩ := overridePage_eq s.ret.epoch s.ret.overrides s.runCount first
      exact ⟨k, bound, next_complete held (by rw [ownReadOverrides_page handle, page]; rfl), inside, exceeds⟩
    · exact next_complete held (by rw [ownReadOverrides_single handle gen live]; rfl)
  case refine_4 =>
    intro s held
    refine next_report (fun s _ => gatesReport s) held readNone_nil ?_
    dsimp only [gatesReport, gateReport]
    simp only [GateMode.bits_eq, GateState.bits_eq, Direction.bits_eq, nibbles_eq _ (Fin.isLt _)]
    rfl
  case refine_5 =>
    intro s c ch held named r w x f left payload
    have layout : channelReport s ch = payload := by
      dsimp only [channelReport]
      rw [groupBits_eq, rankByte_eq, switchingByte_eq]
      rw [nibbles_of_lt (Fin.isLt _) (Fin.isLt _), nibbles_of_lt (Fin.isLt _) (Fin.isLt _),
        nibbles_eq _ ((s.chan ch).retry.isLt.trans (by decide))]
      rfl
    exact ⟨layout ▸ channelReport_length s ch, next_report channelReport held (readChan_val named) layout⟩
  case refine_6 =>
    intro s c ch held named x isOverride
    have isOverrideEq : isOverride = Candidate.isOverride := by funext y; cases y <;> rfl
    clear_value isOverride
    subst isOverrideEq
    intro payload
    have layout : explainReport s ch = payload := by
      dsimp only [explainReport]
      rw [← ranking_filter_isOverride, nibbles_of_lt (Fin.isLt _) (Fin.isLt _), State.groupHolderByte_eq,
        funext Candidate.bytes_eq]
      rfl
    exact ⟨layout ▸ explainReport_length s ch, next_report explainReport held (readChan_val named) layout⟩
  case refine_7 =>
    intro s held
    refine next_report (fun s _ => queueReport s) held readNone_nil ?_
    dsimp only [queueReport]
    rw [State.headWait_eq]
    rfl
  case refine_8 =>
    intro s f k held handle state
    refine next_report keyReport held (readKey_val handle) ?_
    cases bound : s.ret.bindings[k] with
    | none =>
      rw [keyReport_unbound bound, KeyState.heldByte_eq]
      rfl
    | some x =>
      rw [keyReport_bound bound, KeyAction.bits_eq, durationBytes_eq, KeyState.heldByte_eq]
      rfl

end Sys2Proof.Machine
end

section
/-! The report of the time (R12, R185, R189). -/

namespace Sys2Proof.Machine

/-- The report byte by byte: the calendar, the weekday counted from 1, the validity, and the run count (R185). -/
theorem timeReport_eq (s : State) : timeReport s =
    [BitVec.ofNat 8 (s.cal.year - 2000), BitVec.ofNat 8 s.cal.month, BitVec.ofNat 8 s.cal.day,
      BitVec.ofNat 8 s.cal.hour, BitVec.ofNat 8 s.cal.minute, BitVec.ofNat 8 s.cal.second,
      BitVec.ofNat 8 s.cal.tenth, BitVec.ofNat 8 (weekday s.cal.year s.cal.month s.cal.day + 1),
      if s.ret.clockValid then 1 else 0,
      s.runCount.setWidth 8, (s.runCount >>> 8).setWidth 8, (s.runCount >>> 16).setWidth 8,
      (s.runCount >>> 24).setWidth 8] := by
  rw [timeReport, stampBytes_eq, flagBit_eq]
  rfl

/-- Settles O19: the report's completion, and the length check's index for surplus bytes. -/
theorem readTimeReportsTheTime : Obligations.ReadTimeReportsTheTime := fun s =>
  ⟨fun held => next_report (fun s _ => timeReport s) held readNone_nil (timeReport_eq s),
    fun _ surplus held => next_complete held (by rw [checked_error (readNone_surplus surplus)]; rfl)⟩

end Sys2Proof.Machine
end

section
/-! The parameter readers make the checks of `paramChecks`, in their order (R187, R188, R190 to R217): what a reader fails with is
the index of the first check that fails. -/

namespace Sys2Proof.Machine

/-! ### Checks made one after another -/

/-- The index a reader fails with, where it fails. -/
def failure {α : Type} : Except Nat α → Option Nat
  | .ok _ => none
  | .error index => some index

theorem failure_map {α β : Type} (e : Except Nat α) (f : α → β) : failure (e.map f) = failure e := by cases e <;> rfl

theorem firstFailing_of_true {b : Bool} (h : b = true) (index : Nat) (rest : List (Bool × Nat)) :
    firstFailing ((b, index) :: rest) = firstFailing rest := if_pos h

theorem firstFailing_of_false {b : Bool} (h : b = false) (index : Nat) (rest : List (Bool × Nat)) :
    firstFailing ((b, index) :: rest) = some index := if_neg (by simp [h])

/-- Checks behind others are reached where those all pass. -/
theorem firstFailing_append (l rest : List (Bool × Nat)) :
    firstFailing (l ++ rest) = (firstFailing l).or (firstFailing rest) := by
  induction l with
  | nil => rfl
  | cons check l ih =>
    obtain ⟨b, index⟩ := check
    cases b with
    | false => rfl
    | true => exact ih

/-- A reader that makes one check and goes on makes it before the checks that follow. -/
theorem failure_require {α : Type} {b c : Bool} {index : Nat} {k : Except Nat α} {rest : List (Bool × Nat)} (same : b = c)
    (next : b = true → failure k = firstFailing rest) :
    failure (require b index k) = firstFailing ((c, index) :: rest) := by
  subst same
  cases b with
  | false => rfl
  | true => exact next rfl

/-- A reader of parameters of one length checks that length before the fields (R187). -/
theorem failure_fixedLength {α : Type} {read : List Byte → Except Nat α} {ps : List Byte} {n : Nat}
    {rest : List (Bool × Nat)} (other : ps.length ≠ n → read ps = .error (lengthIndex ps.length n))
    (fits : ps.length = n → failure (read ps) = firstFailing rest) :
    failure (read ps) = firstFailing (lengthCheck ps n :: rest) := by
  by_cases h : ps.length = n
  · exact (fits h).trans (firstFailing_of_true (decide_eq_true h) _ _).symm
  · rw [other h]
    exact (firstFailing_of_false (decide_eq_false h) _ _).symm

/-! ### Ranges (R188) -/

/-- A field bounded from above alone is in the range from 0. -/
theorem failure_require_le {α : Type} {value high index : Nat} {k : Except Nat α} {rest : List (Bool × Nat)}
    (inside : value ≤ high → failure k = firstFailing rest) :
    failure (require (decide (value ≤ high)) index k) = firstFailing (rangeCheck value 0 high index :: rest) :=
  failure_require (decide_eq_decide.mpr (and_iff_right (Nat.zero_le value)).symm) fun h => inside (of_decide_eq_true h)

theorem firstFailing_rangeCheck (value low high index : Nat) :
    firstFailing [rangeCheck value low high index] = if low ≤ value ∧ value ≤ high then none else some index := by
  simp [rangeCheck, firstFailing]

theorem failure_asFin {n : Nat} (pos : 0 < n) (value index : Nat) :
    failure (asFin n value index) = firstFailing [rangeCheck value 0 (n - 1) index] := by
  rw [firstFailing_rangeCheck, asFin]
  split
  · exact (if_pos (by omega)).symm
  · exact (if_neg (by omega)).symm

theorem failure_readHandle {n : Nat} (b : Byte) (index : Nat) :
    failure (readHandle n b index) = firstFailing [rangeCheck b.toNat 1 n index] := by
  rw [firstFailing_rangeCheck, readHandle, asFin]
  by_cases zero : b.toNat = 0
  · rw [if_pos zero, if_neg (by omega)]
    rfl
  · rw [if_neg zero]
    split
    · exact (if_pos (by omega)).symm
    · exact (if_neg (by omega)).symm

theorem failure_readChanByte (b : Byte) (index : Nat) :
    failure (readChanByte b index) = firstFailing [rangeCheck b.toNat 0 15 index] := failure_asFin (by decide) ..

/-- A name's handle is checked before its generation (R187). -/
theorem failure_readNameBytes (n : Nat) (h g : Byte) (rest : List Byte) :
    failure (readNameBytes n h g) = firstFailing (nameChecks (h :: g :: rest) n) := by
  have handle := failure_readHandle (n := n) h 0
  have gen := failure_asFin (n := 16) (by decide) g.toNat 1
  change _ = firstFailing ([rangeCheck h.toNat 1 n 0] ++ [rangeCheck g.toNat 0 15 1])
  rw [firstFailing_append, ← handle, ← gen, readNameBytes]
  cases readHandle n h 0 with
  | error e => rfl
  | ok i => cases asFin 16 g.toNat 1 <;> rfl

end Sys2Proof.Machine
end

section
/-! Each host command's reader against the checks its entry gives (R187 to R215). -/

namespace Sys2Proof.Machine

/-! ### No parameter, one byte, a name -/

theorem failure_readNone (ps : List Byte) : failure (readNone ps) = firstFailing [lengthCheck ps 0] := by
  refine failure_fixedLength (fun other => if_neg fun empty => other (by rw [empty]; rfl)) fun fits => ?_
  match ps, fits with
  | [], _ => rfl

theorem readByte_other {ps : List Byte} (other : ps.length ≠ 1) : readByte ps = .error (lengthIndex ps.length 1) := by
  unfold readByte
  split
  · exact absurd rfl other
  · rfl

theorem failure_readByte (ps : List Byte) : failure (readByte ps) = firstFailing [lengthCheck ps 1] := by
  refine failure_fixedLength readByte_other fun fits => ?_
  match ps, fits with
  | [_], _ => rfl

theorem failure_readName (n : Nat) (ps : List Byte) :
    failure (readName n ps) = firstFailing (lengthCheck ps 2 :: nameChecks ps n) := by
  refine failure_fixedLength (fun other => by unfold readName; split <;> simp_all) fun fits => ?_
  match ps, fits with
  | [h, g], _ => exact failure_readNameBytes n h g []

theorem failure_readChan (ps : List Byte) :
    failure (readChan ps) = firstFailing [lengthCheck ps 1, rangeCheck (byteAt ps 0) 0 15 0] := by
  refine failure_fixedLength (fun other => by rw [readChan, readByte_other other]) fun fits => ?_
  match ps, fits with
  | [b], _ => exact failure_readChanByte b 0

theorem failure_readKey (ps : List Byte) : failure (readKey ps) = firstFailing (paramChecks ps .readKeyBinding) := by
  refine failure_fixedLength (fun other => by rw [readKey, readByte_other other]) fun fits => ?_
  match ps, fits with
  | [b], _ => exact failure_readHandle b 0

/-! ### Time and policies -/

theorem failure_readSetTime (stepDue : Bool) (ps : List Byte) :
    failure (readSetTime ps) = firstFailing (paramChecks ps (.setTime stepDue)) := by
  refine failure_fixedLength (fun other => by unfold readSetTime; split <;> simp_all) fun fits => ?_
  match ps, fits with
  | [_, _, _, _, _, _], _ =>
    exact failure_require_le fun _ => failure_require rfl fun _ => failure_require rfl fun _ =>
      failure_require_le fun _ => failure_require_le fun _ => failure_require_le fun _ => rfl

theorem failure_readResumePolicy (ps : List Byte) :
    failure (readResumePolicy ps) = firstFailing (paramChecks ps .setResumePolicy) := by
  refine failure_fixedLength (fun other => by rw [readResumePolicy, readByte_other other]) fun fits => ?_
  match ps, fits with
  | [b], _ =>
    by_cases known : b.toNat ≤ 1
    · obtain rfl | rfl : b = 0 ∨ b = 1 := by bv_omega
      all_goals rfl
    · rw [readResumePolicy_byte, if_neg (by bv_omega), if_neg (by bv_omega)]
      exact (firstFailing_of_false (decide_eq_false fun inside => known inside.2) _ _).symm

theorem failure_readMask (ps : List Byte) : failure (readMask ps) = firstFailing (paramChecks ps .setAttentionMask) := by
  refine failure_fixedLength (fun other => by unfold readMask; split <;> simp_all) fun fits => ?_
  match ps, fits with
  | [_, _], _ => rfl

theorem failure_readListPrograms (ps : List Byte) :
    failure (readListPrograms ps) = firstFailing (paramChecks ps .listPrograms) := by
  refine failure_fixedLength (fun other => by unfold readListPrograms; split <;> simp_all) fun fits => ?_
  match ps, fits with
  | [_, _, _], _ => exact failure_require_le fun _ => rfl

/-! ### Overrides -/

/-- A channel set is empty where its two bytes make 0. -/
theorem decide_wireSet (lo hi : Byte) : decide (wireSet lo hi ≠ 0) = decide (word16 lo hi ≠ 0) :=
  decide_eq_decide.mpr (wireSet_ne_zero_iff lo hi)

theorem failure_readCreateOverride (ps : List Byte) :
    failure (readCreateOverride ps) = firstFailing (paramChecks ps .createOverride) := by
  refine failure_fixedLength (fun other => by unfold readCreateOverride; split <;> simp_all) fun fits => ?_
  match ps, fits with
  | [kl, c0, c1, m0, m1], _ =>
    refine failure_require_le fun _ => failure_require (decide_wireSet c0 c1) fun _ => ?_
    by_cases timed : highNibble kl = 0
    · rw [if_pos timed]
      exact failure_require (decide_eq_decide.mpr ⟨fun minutes _ => minutes, fun minutes => minutes timed⟩) fun _ => rfl
    · rw [if_neg timed]
      refine Eq.trans ?_ (firstFailing_of_true (decide_eq_true fun kind => absurd kind timed) 3 []).symm
      split_ifs <;> rfl

theorem failure_readExtendOverride (ps : List Byte) :
    failure (readExtendOverride ps) = firstFailing (paramChecks ps .extendOverride) := by
  refine failure_fixedLength (fun other => by unfold readExtendOverride; split <;> simp_all) fun fits => ?_
  match ps, fits with
  | [h, g, m0, m1], _ =>
    rw [firstFailing_append, ← failure_readNameBytes 16 h g, readExtendOverride]
    cases readNameBytes 16 h g with
    | error e => rfl
    | ok n => exact failure_require rfl fun _ => rfl

theorem failure_readChannelSet (ps : List Byte) :
    failure (readChannelSet ps) = firstFailing (paramChecks ps .releaseChannels) := by
  refine failure_fixedLength (fun other => by unfold readChannelSet; split <;> simp_all) fun fits => ?_
  match ps, fits with
  | [c0, c1], _ => exact failure_require (decide_wireSet c0 c1) fun _ => rfl

/-- A page's handle, a name's handle and generation, or a length of neither form (R202). -/
theorem failure_readOverridesQuery (ps : List Byte) :
    failure (readOverridesQuery ps) = firstFailing (paramChecks ps .readOverrides) := by
  match ps with
  | [] => rfl
  | [f] =>
    rw [readOverridesQuery, failure_map, failure_readHandle]
    rfl
  | [h, g] =>
    rw [readOverridesQuery, failure_map, failure_readNameBytes 16 h g []]
    simp [nameChecks, paramChecks, rangeCheck, firstFailing]
  | _ :: _ :: _ :: _ => simp [readOverridesQuery, failure, paramChecks, firstFailing, lengthIndex]

/-! ### Channels, groups and gates -/

theorem failure_readConfigureChannel (ps : List Byte) :
    failure (readConfigureChannel ps) = firstFailing (paramChecks ps .configureChannel) := by
  refine failure_fixedLength (fun other => by unfold readConfigureChannel; split <;> simp_all) fun fits => ?_
  match ps, fits with
  | [c, b], _ =>
    change _ = firstFailing ([rangeCheck c.toNat 0 15 0] ++ [rangeCheck (b.toNat / 8 % 8) 0 4 1])
    rw [firstFailing_append, ← failure_readChanByte, readConfigureChannel]
    cases readChanByte c 0 with
    | error e => rfl
    | ok ch => exact failure_require_le fun _ => rfl

theorem failure_readChannelTiming (ps : List Byte) :
    failure (readChannelTiming ps) = firstFailing (paramChecks ps .setChannelTiming) := by
  refine failure_fixedLength (fun other => by unfold readChannelTiming; split <;> simp_all) fun fits => ?_
  match ps, fits with
  | [c, _, _, r, t], _ =>
    have ramp := failure_asFin (n := 16) (by decide) r.toNat 3
    have retry := failure_asFin (n := 4) (by decide) t.toNat 4
    change _ = firstFailing ([rangeCheck c.toNat 0 15 0] ++ ([rangeCheck r.toNat 0 15 3] ++ [rangeCheck t.toNat 0 3 4]))
    rw [firstFailing_append, firstFailing_append, ← failure_readChanByte, ← ramp, ← retry, readChannelTiming]
    cases readChanByte c 0 with
    | error e => rfl
    | ok ch =>
      cases asFin 16 r.toNat 3 with
      | error e => rfl
      | ok ramp => cases asFin 4 t.toNat 4 <;> rfl

theorem failure_readFallback (ps : List Byte) : failure (readFallback ps) = firstFailing (paramChecks ps .setFallback) := by
  refine failure_fixedLength (fun other => by unfold readFallback; split <;> simp_all) fun fits => ?_
  match ps, fits with
  | [c, _], _ => exact (failure_map _ _).trans (failure_readChanByte c 0)

theorem failure_readConfigureGroup (ps : List Byte) :
    failure (readConfigureGroup ps) = firstFailing (paramChecks ps .configureGroup) := by
  refine failure_fixedLength (fun other => by unfold readConfigureGroup; split <;> simp_all) fun fits => ?_
  match ps, fits with
  | [_, _], _ => exact failure_require rfl fun _ => rfl

theorem failure_readConfigureGate (ps : List Byte) :
    failure (readConfigureGate ps) = firstFailing (paramChecks ps .configureGate) := by
  refine failure_fixedLength (fun other => by unfold readConfigureGate; split <;> simp_all) fun fits => ?_
  match ps, fits with
  | [g, _, low, high, d], _ =>
    have gate := failure_asFin (n := 4) (by decide) g.toNat 0
    have above : decide (1 ≤ high.toNat ∧ low.toNat < high.toNat) =
        decide (max 1 (low.toNat + 1) ≤ high.toNat ∧ high.toNat ≤ 255) := decide_eq_decide.mpr (by bv_omega)
    change _ = firstFailing ([rangeCheck g.toNat 0 3 0] ++ [rangeCheck low.toNat 0 254 2,
      rangeCheck high.toNat (max 1 (low.toNat + 1)) 255 3, rangeCheck d.toNat 1 15 4])
    rw [firstFailing_append, ← gate, readConfigureGate]
    cases asFin 4 g.toNat 0 with
    | error e => rfl
    | ok gate => exact failure_require_le fun _ => failure_require above fun _ => failure_require rfl fun _ => rfl

theorem failure_gateModeOfCode (b : Byte) (index : Nat) :
    failure (gateModeOfCode b index) = firstFailing [rangeCheck b.toNat 0 2 index] := by
  by_cases known : b.toNat ≤ 2
  · obtain rfl | rfl | rfl : b = 0 ∨ b = 1 ∨ b = 2 := by bv_omega
    all_goals rfl
  · rw [gateModeOfCode, if_neg (by bv_omega), if_neg (by bv_omega), if_neg (by bv_omega)]
    exact (firstFailing_of_false (decide_eq_false fun inside => known inside.2) _ _).symm

theorem failure_readGateMode (ps : List Byte) : failure (readGateMode ps) = firstFailing (paramChecks ps .setGateMode) := by
  refine failure_fixedLength (fun other => by unfold readGateMode; split <;> simp_all) fun fits => ?_
  match ps, fits with
  | [g, m], _ =>
    have gate := failure_asFin (n := 4) (by decide) g.toNat 0
    change _ = firstFailing ([rangeCheck g.toNat 0 3 0] ++ [rangeCheck m.toNat 0 2 1])
    rw [firstFailing_append, ← gate, ← failure_gateModeOfCode, readGateMode]
    cases asFin 4 g.toNat 0 with
    | error e => rfl
    | ok gate => cases gateModeOfCode m 1 <;> rfl

end Sys2Proof.Machine
end

section
/-! The readers of a key's binding and of a program's definition against their checks (R147, R181, R191 to R193, R213). -/

namespace Sys2Proof.Machine

/-! ### Key bindings -/

theorem actionOfCode_unknown {code : Nat} (unknown : 4 < code) (index : Nat) : actionOfCode code index = .error index := by
  rw [actionOfCode, if_neg (by omega), if_neg (by omega), if_neg (by omega), if_neg (by omega), if_neg (by omega)]

theorem failure_actionOfCode (code index : Nat) :
    failure (actionOfCode code index) = firstFailing [rangeCheck code 0 4 index] := by
  rw [firstFailing_rangeCheck]
  by_cases known : code ≤ 4
  · rw [if_pos ⟨Nat.zero_le code, known⟩]
    interval_cases code <;> rfl
  · rw [actionOfCode_unknown (Nat.lt_of_not_le known), if_neg (fun inside => known inside.2)]
    rfl

/-- Only the code 0 stands for no action. -/
theorem actionOfCode_eq_none {code index : Nat} (h : actionOfCode code index = .ok none) : code = 0 := by
  by_contra bound
  obtain unknown | known := Nat.lt_or_ge 4 code
  · cases (actionOfCode_unknown unknown index).symm.trans h
  · cases (actionOfCode_eq bound known index).symm.trans h

theorem failure_readDuration (code minutes : Nat) : failure (readDuration code minutes) =
    firstFailing [rangeCheck code 1 3 4, (decide (code = 1 → 1 ≤ minutes ∧ minutes ≤ 1440), 5)] := by
  by_cases timed : code = 1
  · subst timed
    exact failure_require (decide_eq_decide.mpr ⟨fun range _ => range, fun range => range rfl⟩) fun _ => rfl
  · unfold readDuration
    rw [if_neg timed]
    by_cases known : code = 2 ∨ code = 3
    · obtain rfl | rfl := known <;> rfl
    · rw [if_neg (by omega), if_neg (by omega)]
      exact (firstFailing_of_false (decide_eq_false (by omega)) _ _).symm

theorem failure_readBindKey (ps : List Byte) : failure (readBindKey ps) = firstFailing (paramChecks ps .bindKey) := by
  refine failure_fixedLength (fun other => by unfold readBindKey; split <;> simp_all) fun fits => ?_
  match ps, fits with
  | [k, al, c0, c1, dk, m0, m1], _ =>
    change _ = firstFailing ([rangeCheck k.toNat 1 8 0] ++ ([rangeCheck (highNibble al) 0 4 1] ++
      [(decide (highNibble al ≠ 0 → word16 c0 c1 ≠ 0), 2), (decide (highNibble al ≠ 0 → al.toNat % 16 ≠ 0), 1),
       (decide (highNibble al ≠ 0 → 1 ≤ highNibble dk ∧ highNibble dk ≤ 3), 4),
       (decide (highNibble al ≠ 0 → highNibble dk = 1 → 1 ≤ word16 m0 m1 ∧ word16 m0 m1 ≤ 1440), 5)]))
    rw [firstFailing_append, firstFailing_append, ← failure_readHandle, ← failure_actionOfCode, readBindKey]
    cases readHandle 8 k 0 with
    | error e => rfl
    | ok key =>
      by_cases unbound : highNibble al = 0
      · simp [unbound, actionOfCode, failure, firstFailing]
      · simp only [ne_eq, unbound, not_false_eq_true, forall_const]
        cases action : actionOfCode (highNibble al) 1 with
        | error e => rfl
        | ok choice =>
          cases choice with
          | none => exact absurd (actionOfCode_eq_none action) unbound
          | some a =>
            have lit : decide (lowNibble al ≠ 0) = decide (¬al.toNat % 16 = 0) :=
              decide_eq_decide.mpr (not_congr Fin.ext_iff)
            exact failure_require (decide_wireSet c0 c1) fun _ => failure_require lit fun _ =>
              (failure_map ..).trans (failure_readDuration ..)

/-! ### Calendar stamps (R188) -/

/-- The stamp whose first byte stands at a place. -/
def readStampAt (ps : List Byte) (i : Nat) : Except Nat Stamp :=
  readStamp (ps.getD i 0) (ps.getD (i + 1) 0) (ps.getD (i + 2) 0) (ps.getD (i + 3) 0) (ps.getD (i + 4) 0) i

theorem failure_readStampAt (ps : List Byte) (i : Nat) : failure (readStampAt ps i) = firstFailing (stampChecks ps i) :=
  failure_require_le fun _ => failure_require rfl fun _ => failure_require rfl fun _ => failure_require_le fun _ => rfl

theorem readStampAt_minutes {ps : List Byte} {i : Nat} {t : Stamp} (read : readStampAt ps i = .ok t) :
    t.minutes = stampMinutes ps i := by
  simp only [readStampAt, readStamp, require_eq_ok, Except.ok.injEq] at read
  obtain ⟨-, -, -, -, rfl⟩ := read
  rfl

/-! ### The timing of each kind (R191) -/

/-- The checks of a DAILY timing. -/
def dailyChecks (ps : List Byte) (b : Nat) : List (Bool × Nat) :=
  [(decide (byteAt ps (b + 4) % 128 ≠ 0), b + 4), rangeCheck (wordAt ps (b + 5)) 0 1439 (b + 5),
   (decide (wordAt ps (b + 7) ≤ 1439 ∧ wordAt ps (b + 7) ≠ wordAt ps (b + 5)), b + 7)]

/-- The checks of a DATED timing. -/
def datedChecks (ps : List Byte) (b : Nat) : List (Bool × Nat) :=
  stampChecks ps (b + 4) ++ (stampChecks ps (b + 9) ++
    [rangeCheck (stampMinutes ps (b + 9)) (stampMinutes ps (b + 4) + 1) (stampMinutes ps (b + 4) + 527040) (b + 9)])

/-- The checks of a CYCLE timing. -/
def cycleChecks (ps : List Byte) (b : Nat) : List (Bool × Nat) :=
  stampChecks ps (b + 4) ++
    [rangeCheck (wordAt ps (b + 9)) 2 1440 (b + 9), rangeCheck (wordAt ps (b + 11)) 1 (wordAt ps (b + 9) - 1) (b + 11)]

/-- The checks of the timing that goes with a kind code. -/
def timingChecks (ps : List Byte) (b : Nat) : Nat → List (Bool × Nat)
  | 0 => dailyChecks ps b
  | 1 => datedChecks ps b
  | _ => cycleChecks ps b

/-- The check that the targets of a definition are not empty. -/
def targetsCheck (ps : List Byte) (b : Nat) : Bool × Nat := (decide (wordAt ps (b + 2) ≠ 0), b + 2)

theorem definitionLength_eq_some {kind n : Nat} (length : definitionLength kind = some n) :
    kind = 0 ∧ n = 9 ∨ kind = 1 ∧ n = 14 ∨ kind = 2 ∧ n = 13 := by
  unfold definitionLength at length
  split_ifs at length <;> simp_all

theorem definitionLength_eq_none {kind : Nat} (length : definitionLength kind = none) : 2 < kind := by
  unfold definitionLength at length
  split_ifs at length
  omega

/-- Behind a known kind stand the checks of the length that goes with it, of the targets, and of the timing. -/
theorem definitionChecks_known {ps : List Byte} {b n : Nat} (length : definitionLength (byteAt ps b / 16) = some n) :
    firstFailing (definitionChecks ps b) =
      firstFailing (lengthCheck ps (b + n) :: targetsCheck ps b :: timingChecks ps b (byteAt ps b / 16)) := by
  obtain ⟨kind, rfl⟩ | ⟨kind, rfl⟩ | ⟨kind, rfl⟩ := definitionLength_eq_some length
  all_goals
    simp only [definitionChecks, kind, timingChecks, datedChecks, List.append_assoc]
    rfl

theorem definitionChecks_unknown {ps : List Byte} {b : Nat} (unknown : 2 < byteAt ps b / 16) :
    firstFailing (definitionChecks ps b) = some b :=
  firstFailing_of_false (decide_eq_false (by omega)) _ _

theorem failure_readDaily (ps : List Byte) (b : Nat) :
    failure (readDaily (ps.getD (b + 4) 0) (ps.getD (b + 5) 0) (ps.getD (b + 6) 0) (ps.getD (b + 7) 0)
      (ps.getD (b + 8) 0) b) = firstFailing (dailyChecks ps b) := by
  have week : decide ((ps.getD (b + 4) 0).setWidth 7 ≠ 0) = decide (byteAt ps (b + 4) % 128 ≠ 0) := by
    rw [byteAt, decide_eq_decide, not_iff_not, ← BitVec.toNat_inj, BitVec.toNat_setWidth]
    rfl
  exact failure_require week fun _ => failure_require_le fun _ => failure_require rfl fun _ => rfl

theorem failure_readDated (ps : List Byte) (b : Nat) :
    failure (readDated (readStampAt ps (b + 4)) (readStampAt ps (b + 9)) b) = firstFailing (datedChecks ps b) := by
  rw [datedChecks, firstFailing_append, firstFailing_append, ← failure_readStampAt, ← failure_readStampAt]
  unfold readDated
  cases start : readStampAt ps (b + 4) with
  | error e => rfl
  | ok first =>
    cases stop : readStampAt ps (b + 9) with
    | error e => rfl
    | ok last =>
      have before := Stamp.before_iff (readStamp_inRange start) (readStamp_inRange stop)
      have longest : Config.longestDated = 527040 := rfl
      refine failure_require ?_ fun _ => rfl
      rw [Bool.eq_iff_iff, Bool.and_eq_true, before, decide_eq_true_iff, decide_eq_true_iff, minutesBetween,
        readStampAt_minutes start, readStampAt_minutes stop, longest]
      omega

theorem failure_readCycle (ps : List Byte) (b : Nat) :
    failure (readCycle (readStampAt ps (b + 4)) (ps.getD (b + 9) 0) (ps.getD (b + 10) 0) (ps.getD (b + 11) 0)
      (ps.getD (b + 12) 0) b) = firstFailing (cycleChecks ps b) := by
  have shorter : decide (1 ≤ wordAt ps (b + 11) ∧ wordAt ps (b + 11) + 1 ≤ wordAt ps (b + 9)) =
      decide (1 ≤ wordAt ps (b + 11) ∧ wordAt ps (b + 11) ≤ wordAt ps (b + 9) - 1) := decide_eq_decide.mpr (by omega)
  rw [cycleChecks, firstFailing_append, ← failure_readStampAt]
  unfold readCycle
  cases readStampAt ps (b + 4) with
  | error e => rfl
  | ok anchor => exact failure_require rfl fun _ => failure_require shorter fun _ => rfl

/-! ### Definitions behind other bytes -/

/-- The bytes behind the first `base`, each at its place. -/
theorem drop_eq_map_getD {ps : List Byte} {base n : Nat} (fits : ps.length = base + n) :
    ps.drop base = (List.range n).map fun j => ps.getD (base + j) 0 := by
  refine List.ext_getElem (by simp [fits]) fun j inside _ => ?_
  have bound : base + j < ps.length := by simpa [fits] using inside
  simp [List.getD_eq_getElem?_getD, bound]

theorem failure_requireTargets {ps : List Byte} {base : Nat} {timing : Except Nat Timing} {checks : List (Bool × Nat)}
    (f : Timing → ProgDef) (timed : failure timing = firstFailing checks) :
    failure (requireTargets (ps.getD (base + 2) 0) (ps.getD (base + 3) 0) base (timing.map f)) =
      firstFailing (targetsCheck ps base :: checks) :=
  failure_require (decide_wireSet ..) fun _ => (failure_map ..).trans timed

/-- A definition of the length that goes with its kind is read by the checks of its targets and its timing (R191). -/
theorem failure_readDefinition {ps : List Byte} {base kind n : Nat} (length : definitionLength kind = some n)
    (fits : ps.length = base + n) :
    failure (readDefinition ps base) = firstFailing (targetsCheck ps base :: timingChecks ps base kind) := by
  rw [readDefinition, drop_eq_map_getD fits]
  obtain ⟨rfl, rfl⟩ | ⟨rfl, rfl⟩ | ⟨rfl, rfl⟩ := definitionLength_eq_some length
  · exact failure_requireTargets _ (failure_readDaily ps base)
  · exact failure_requireTargets _ (failure_readDated ps base)
  · exact failure_requireTargets _ (failure_readCycle ps base)

/-- The definition behind `base` other bytes makes the checks of a definition there: its kind, the length that goes with it,
and its fields (R187, R191). -/
theorem failure_definition {α : Type} (ps : List Byte) (base : Nat) (f : ProgDef → α) :
    failure (requireDefinitionLength (ps.getD base 0) ps.length base ((readDefinition ps base).map f)) =
      firstFailing (definitionChecks ps base) := by
  rw [requireDefinitionLength]
  cases length : definitionLength (highNibble (ps.getD base 0)) with
  | none =>
    rw [definitionChecks_unknown (definitionLength_eq_none length)]
    rfl
  | some n =>
    rw [definitionChecks_known length]
    exact failure_require rfl fun fits =>
      (failure_map ..).trans (failure_readDefinition length (of_decide_eq_true fits))

theorem failure_readCreateProgram (ps : List Byte) :
    failure (readCreateProgram ps) = firstFailing (paramChecks ps .createProgram) := by
  match ps with
  | [] | [_] => rfl
  | o :: kp :: rest =>
    have long : decide (2 ≤ (o :: kp :: rest).length) = true := by simp
    rw [paramChecks, firstFailing_of_true long, ← failure_definition (o :: kp :: rest) 1 fun d => (o.getLsbD 0, d)]
    rfl

theorem failure_readEditProgram (ps : List Byte) :
    failure (readEditProgram ps) = firstFailing (paramChecks ps .editProgram) := by
  match ps with
  | [] | [_] | [_, _] => rfl
  | h :: g :: kp :: rest =>
    have long : decide (3 ≤ (h :: g :: kp :: rest).length) = true := by simp
    rw [paramChecks, firstFailing_of_true long, firstFailing_append, ← failure_readNameBytes 96 h g (kp :: rest)]
    cases name : readNameBytes 96 h g with
    | error e => rw [readEditProgram, name]; rfl
    | ok n =>
      rw [readEditProgram_named name]
      exact failure_definition (h :: g :: kp :: rest) 2 fun d => (n, d)

end Sys2Proof.Machine
end

section
/-! What a host command's row answers, by its checks (R187, R190 to R217). -/

namespace Sys2Proof.Machine

/-! ### Answers -/

/-- An answer of the owner's part, behind the checks: it is no BAD-PARAMETER, and any result but OK stands beside the state
as it was (R187). -/
structure Answer.RefusesCleanly (s : State) (a : Answer) : Prop where
  passed : a.result ≠ .badParameter
  refused : a.result ≠ .ok → a.state = s

/-- An answer to parameters with these checks, in state `s`. -/
structure Answer.MakesChecks (checks : List (Bool × Nat)) (s : State) (a : Answer) : Prop where
  fails : ∀ index, firstFailing checks = some index → a = badParameter s index
  passes : firstFailing checks = none → a.RefusesCleanly s

section Answers

variable {s t : State} {payload : List Byte}

theorem Answer.RefusesCleanly.ok : (answerOk t payload).RefusesCleanly s := ⟨nofun, fun other => absurd rfl other⟩

theorem Answer.RefusesCleanly.result {result : ResultCode} (other : result ≠ .badParameter) :
    Answer.RefusesCleanly s ⟨s, result, payload⟩ := ⟨other, fun _ => rfl⟩

theorem Answer.RefusesCleanly.ite {p : Prop} [Decidable p] {a b : Answer} (ha : a.RefusesCleanly s)
    (hb : b.RefusesCleanly s) : (if p then a else b).RefusesCleanly s := by
  split <;> assumption

theorem State.onProgram_refusesCleanly {f : ProgRec → Answer} (n : Name 96) (live : ∀ r, (f r).RefusesCleanly s) :
    (s.onProgram n f).RefusesCleanly s := by
  unfold State.onProgram
  cases s.namedProgram n with
  | stale | free => exact .result nofun
  | live r => exact live r

theorem State.onOverride_refusesCleanly {f : OvrRec → Answer} (n : Name 16) (live : ∀ r, (f r).RefusesCleanly s) :
    (s.onOverride n f).RefusesCleanly s := by
  unfold State.onOverride
  cases s.namedOverride n with
  | stale | free => exact .result nofun
  | live r => exact live r

end Answers

/-- The checks are the reader's, and what follows them is the owner's part. -/
theorem checked_makesChecks {α : Type} {read : Except Nat α} {checks : List (Bool × Nat)} {s : State} {f : α → Answer}
    (reads : failure read = firstFailing checks) (part : ∀ a, (f a).RefusesCleanly s) :
    (checked read s f).MakesChecks checks s := by
  cases read with
  | error index => exact ⟨fun _ first => Option.some.inj (reads.trans first) ▸ rfl, fun pass => nomatch reads.trans pass⟩
  | ok a => exact ⟨fun _ first => (nomatch reads.trans first), fun _ => part a⟩

/-! ### Owners -/

section Owners

variable (ps : List Byte) (s : State)

theorem ownCreateProgram_makesChecks : (ownCreateProgram ps s).MakesChecks (paramChecks ps .createProgram) s := by
  refine checked_makesChecks (failure_readCreateProgram ps) fun (disabled, d) => .ite (.result nofun) ?_
  cases freeProgram s.ret.programs with
  | none => exact .result nofun
  | some i => exact .ok

theorem ownEditProgram_makesChecks : (ownEditProgram ps s).MakesChecks (paramChecks ps .editProgram) s :=
  checked_makesChecks (failure_readEditProgram ps) fun _ => State.onProgram_refusesCleanly _ fun _ => .ite (.result nofun) .ok

theorem ownReadProgram_makesChecks : (ownReadProgram ps s).MakesChecks (paramChecks ps .readProgram) s := by
  refine checked_makesChecks (failure_readName 96 ps) fun n => ?_
  cases s.namedProgram n with
  | stale | free => exact .result nofun
  | live r => exact .ok

theorem ownListPrograms_makesChecks : (ownListPrograms ps s).MakesChecks (paramChecks ps .listPrograms) s :=
  checked_makesChecks (failure_readListPrograms ps) fun _ => .ite (.result nofun) .ok

theorem ownExtendOverride_makesChecks : (ownExtendOverride ps s).MakesChecks (paramChecks ps .extendOverride) s := by
  refine checked_makesChecks (failure_readExtendOverride ps) fun (n, minutes) => State.onOverride_refusesCleanly n fun r => ?_
  cases r.kind with
  | timed _ _ => exact .ok
  | untilNext | latched => exact .result nofun

theorem ownReadOverrides_makesChecks : (ownReadOverrides ps s).MakesChecks (paramChecks ps .readOverrides) s := by
  refine checked_makesChecks (failure_readOverridesQuery ps) fun q => ?_
  cases q with
  | page first => exact .ok
  | single n =>
    dsimp only
    cases s.namedOverride n with
    | stale | free => exact .result nofun
    | live _ => exact .ok

end Owners

/-! ### Rows -/

/-- The row of a host command whose parameters `ps` stand in EXECUTING, by the checks of its entry: the first that fails is
BAD-PARAMETER with its index; behind them any other result but OK changes nothing else (R172, R187). -/
structure RowMakesChecks (c : Instr) (code : Byte) (ps : List Byte) (s : State) : Prop where
  fails : ∀ index, firstFailing (paramChecks ps c) = some index →
    exec c s = .next (s.answered code .badParameter [BitVec.ofNat 8 index])
  passes : firstFailing (paramChecks ps c) = none → ∀ (t : State) (r : Response), exec c s = .next t →
    t.link.state = .ready r → r.result ≠ .badParameter ∧ (r.result ≠ .ok → t = s.answered code r.result r.payload)

section Rows

variable {c : Instr} {code : Byte} {ps : List Byte} {s : State}

/-- A completion makes the checks its owner makes. -/
theorem makesChecks_of_owner {owner : List Byte → State → Answer} (held : s.holds code ps)
    (row : exec c s = .next (complete code owner s)) (owns : (owner ps s).MakesChecks (paramChecks ps c) s) :
    RowMakesChecks c code ps s := by
  rw [complete_of_holds owner held] at row
  refine ⟨fun index first => ?_, fun pass t r next ready => ?_⟩
  · rw [row, owns.fails index first]
    rfl
  · obtain rfl := Host.Outcome.next.inj (row.symm.trans next)
    obtain rfl := LinkState.ready.inj ready
    obtain ⟨passed, refused⟩ := owns.passes pass
    have answer : (owner ps s).respond code =
        (owner ps s).state.answered code (owner ps s).result (owner ps s).payload := rfl
    exact ⟨passed, fun other => by rw [answer, refused other]⟩

/-- RESTART and FACTORY CLEAR check their length, and a start makes no response (R160, R217). -/
theorem makesChecks_of_start {cold : Bool} (held : s.holds code ps) (row : exec c s = .next (takeStart code cold s))
    (checks : paramChecks ps c = [lengthCheck ps 0]) : RowMakesChecks c code ps s := by
  have reads := failure_readNone ps
  by_cases empty : ps = []
  · subst empty
    rw [takeStart_begins held] at row
    refine ⟨fun index first => ?_, fun _ t r next ready => ?_⟩
    · rw [checks, ← reads] at first
      cases first
    · obtain rfl := Host.Outcome.next.inj (row.symm.trans next)
      cases ready
  · rw [takeStart_refused held empty] at row
    rw [readNone_surplus empty, ← checks] at reads
    refine ⟨fun index first => ?_, fun pass => nomatch reads.trans pass⟩
    obtain rfl := Option.some.inj (reads.trans first)
    exact row

/-- Every host command makes the checks of its entry (R187 to R217). -/
theorem exec_makesChecks (coded : hostCode c = some code) (held : s.holds code ps) : RowMakesChecks c code ps s := by
  cases c <;> cases coded
  case restart | factoryClear => exact makesChecks_of_start held rfl rfl
  case createProgram => exact makesChecks_of_owner held rfl (ownCreateProgram_makesChecks ps s)
  case editProgram => exact makesChecks_of_owner held rfl (ownEditProgram_makesChecks ps s)
  case readProgram => exact makesChecks_of_owner held rfl (ownReadProgram_makesChecks ps s)
  case listPrograms => exact makesChecks_of_owner held rfl (ownListPrograms_makesChecks ps s)
  case extendOverride => exact makesChecks_of_owner held rfl (ownExtendOverride_makesChecks ps s)
  case readOverrides => exact makesChecks_of_owner held rfl (ownReadOverrides_makesChecks ps s)
  case readTime | readGates | readQueue | forceAllOff | releaseAllOff | readAttention =>
    exact makesChecks_of_owner held rfl (checked_makesChecks (failure_readNone ps) fun _ => .ok)
  case setStagger | setPanelLock =>
    exact makesChecks_of_owner held rfl (checked_makesChecks (failure_readByte ps) fun _ => .ok)
  case readChannel | explainChannel | clearFault =>
    exact makesChecks_of_owner held rfl (checked_makesChecks (failure_readChan ps) fun _ => .ok)
  case enableProgram | disableProgram | deleteProgram =>
    exact makesChecks_of_owner held rfl
      (checked_makesChecks (failure_readName 96 ps) fun n => State.onProgram_refusesCleanly n fun _ => .ok)
  case cancelOverride =>
    exact makesChecks_of_owner held rfl
      (checked_makesChecks (failure_readName 16 ps) fun n => State.onOverride_refusesCleanly n fun _ => .ok)
  case configureChannel =>
    exact makesChecks_of_owner held rfl
      (checked_makesChecks (failure_readConfigureChannel ps) fun _ => .ite .ok (.result nofun))
  case setChannelTiming =>
    exact makesChecks_of_owner held rfl
      (checked_makesChecks (failure_readChannelTiming ps) fun _ => .ite (.result nofun) .ok)
  case setGateMode =>
    exact makesChecks_of_owner held rfl
      (checked_makesChecks (failure_readGateMode ps) fun _ => .ite (.result nofun) .ok)
  case setTime stepDue =>
    exact makesChecks_of_owner held rfl (checked_makesChecks (failure_readSetTime stepDue ps) fun _ => .ok)
  case createOverride =>
    exact makesChecks_of_owner held rfl (checked_makesChecks (failure_readCreateOverride ps) fun _ => .ok)
  case releaseChannels =>
    exact makesChecks_of_owner held rfl (checked_makesChecks (failure_readChannelSet ps) fun _ => .ok)
  case setResumePolicy =>
    exact makesChecks_of_owner held rfl (checked_makesChecks (failure_readResumePolicy ps) fun _ => .ok)
  case setFallback =>
    exact makesChecks_of_owner held rfl (checked_makesChecks (failure_readFallback ps) fun _ => .ok)
  case configureGroup =>
    exact makesChecks_of_owner held rfl (checked_makesChecks (failure_readConfigureGroup ps) fun _ => .ok)
  case configureGate =>
    exact makesChecks_of_owner held rfl (checked_makesChecks (failure_readConfigureGate ps) fun _ => .ok)
  case bindKey => exact makesChecks_of_owner held rfl (checked_makesChecks (failure_readBindKey ps) fun _ => .ok)
  case readKeyBinding => exact makesChecks_of_owner held rfl (checked_makesChecks (failure_readKey ps) fun _ => .ok)
  case setAttentionMask => exact makesChecks_of_owner held rfl (checked_makesChecks (failure_readMask ps) fun _ => .ok)

end Rows

/-- A command of one parameter length makes the length check first (R187). -/
theorem paramChecks_fixedLength {c : Instr} {n : Nat} (fixed : fixedLength c = some n) (ps : List Byte) :
    ∃ rest, paramChecks ps c = lengthCheck ps n :: rest := by
  cases c <;> cases fixed
  all_goals exact ⟨_, rfl⟩

/-- Settles O3: every host command makes its checks, the length first where its entry gives one. -/
theorem refusedCommandsChangeNothing : Obligations.RefusedCommandsChangeNothing := by
  refine ⟨fun c code params s t r coded held next ready refused => ?_, fun c code n params s coded fixed held other => ?_,
    fun c code params s coded held => ?_⟩
  · have made := exec_makesChecks coded held
    cases first : firstFailing (paramChecks params c) with
    | none => exact (made.passes first t r next ready).2 refused
    | some index =>
      obtain rfl := Host.Outcome.next.inj ((made.fails index first).symm.trans next)
      obtain rfl := LinkState.ready.inj ready
      rfl
  · obtain ⟨rest, checks⟩ := paramChecks_fixedLength fixed params
    refine (exec_makesChecks coded held).fails _ ?_
    rw [checks]
    exact firstFailing_of_false (decide_eq_false other) _ _
  · have made := exec_makesChecks coded held
    exact ⟨made.fails, fun pass t r next ready => (made.passes pass t r next ready).1⟩

end Sys2Proof.Machine
end
